-- ==== Sys2Proof/Word.lean ====
section
/-! DEFINITION. The word types of the model.

A value that software reads whole from the object dictionary is held as a natural number below
two to its width (the dictionary store reduces it, `Machine.State.setReg`); bytes of memories are
`Byte`, the generator words of R144 are `W32`. -/

namespace Sys2Proof

/-- One byte of a memory or of a message. -/
abbrev Byte := BitVec 8

/-- A 32-bit word of the counter-based generator (R142, R144). -/
abbrev W32 := BitVec 32

/-- A 512-bit descriptor of a plan entry, 64 bytes little-endian (R7, R106). -/
abbrev Desc := BitVec 512

/-- A 16-bit reason code (R21), `0` meaning accepted. -/
abbrev Reason := Nat

/-- A 32-bit event code (R23). -/
abbrev EventCode := Nat

/-- A 32-bit handle (R15). -/
abbrev Handle := Nat

end Sys2Proof
end

