-- ==== Sys2Proof/Syntax.lean ====
section
/-! DEFINITION. The commands of the block: one constructor of `Instr` per row of
spec/opcode_table.json, with the operands that come from outside the block (log entries 4 and 5).
Operands named `t` are domain times in nanoseconds (R43). -/

namespace Sys2Proof

/-- Who makes a dictionary access (R411), or the job services (R334). -/
inductive Requester where
  | node (id : Fin 128)
  | mailbox
  | jobServices
  deriving DecidableEq, Repr

/-- Who issues a queue command (R395). -/
inductive Issuer where
  | driver
  | jobServices
  deriving DecidableEq, Repr

/-- A PCIe function (R380). -/
inductive PciFn where
  | pf
  | vf (p : Fin 8)
  deriving DecidableEq, Repr

/-- A unit of one memory tier (R161). -/
inductive MemUnit where
  | stack (s : Fin 16)
  | group (f : Fin 16)
  deriving DecidableEq, Repr

/-- What a scrub covers: a unit, or the lines of a lent range entry (R202). -/
inductive ScrubScope where
  | unit (u : MemUnit)
  | lent (e : Fin 64)
  deriving DecidableEq, Repr

/-- A fuse word read at the three margins (R353); words without one read alike at all three. -/
structure FuseReading where
  word    : Fin 1024
  low     : BitVec 32
  nominal : BitVec 32
  high    : BitVec 32
  deriving DecidableEq, Repr

/-- What a start of the module meets: fuse readings, the entropy start-up tests (R366), the mesh
(R374) and the boot tests 0x08 and 0x09 (R451). -/
structure BootInput where
  fuses       : List FuseReading
  entropyPass : Bool
  meshOpen    : Bool
  encPass     : Bool
  drbgPass    : Bool
  deriving DecidableEq, Repr

/-- The outcome of a cluster's boot test (R451, R454): failing columns, and whether a lane or the
cell store failed. -/
structure ClusterTest where
  cluster  : Fin 512
  columns  : BitVec 64
  laneFail : Bool
  deriving DecidableEq, Repr

/-- A far-channel calibration task (R175). -/
inductive CalTask where
  | mr4
  | oscillator
  | zq
  deriving DecidableEq, Repr

/-- What a rejoiner is told of the job's step (R324): NORM_PREV, and the ORDER_GEN of the rebuilt groups. -/
structure StepTold where
  norm  : BitVec 32
  order : BitVec 32
  deriving DecidableEq, Repr

/-- A calibration task of a channel and, for an oscillator check, whether it finds a drift that it can
correct. -/
structure CalRun where
  channel     : Fin 128
  task        : CalTask
  correctable : Bool
  deriving DecidableEq, Repr

/-- A packet of R242: its 32-byte header and its data. -/
structure Packet where
  header : BitVec 256
  data   : List Byte
  deriving DecidableEq, Repr

/-- A timed plan with its header, as the loader reads it (R52, R54). -/
structure PlanIn where
  binding : BitVec 128
  header  : BitVec 256
  entries : List (BitVec 128)
  deriving DecidableEq, Repr

/-- One setting of a job image (R403). -/
structure Setting where
  index : BitVec 16
  sub   : BitVec 8
  value : List Byte
  deriving DecidableEq, Repr

/-- A job image (R403): its bytes as the module's DMA reads them at IMAGE_VA, and what its body holds,
whose layout the spec does not give: settings and bindings in order, the fence of the shard reads and its
advance per step (R69). -/
structure JobImage where
  bytes    : List Byte
  settings : List Setting
  plans    : List PlanIn
  ingest   : BitVec 32
  perStep  : Nat
  deriving DecidableEq, Repr

/-- What the peer shows during a port's bring-up (R235, R253, R343): its id and port, whether its signature
holds, its half of the link key exchange as x then y of a point of P-384, its life cycle, measurements and charter,
its BUILTIN_TABLE_REV, and the delay that the echoes of step 5 give. -/
structure PeerInfo where
  moduleId    : BitVec 14
  port        : Fin 16
  authentic   : Bool
  ephemeral   : List Byte
  inField     : Bool
  composite   : List Byte
  charter     : List Byte
  tableRev    : BitVec 32
  echoDelayNs : Nat
  deriving DecidableEq, Repr

/-- A lending request as the borrower's security complex sends it (R250). -/
structure LendRequest where
  sizeBytes : Nat
  rateBpu   : Nat
  ports     : BitVec 16
  borrower  : BitVec 14
  partition : Fin 8
  rangeKey  : List Byte
  deriving DecidableEq, Repr

/-- A flit that comes again in the replay reserve of a frame (R233, R255): its sequence number, whether its CRC
holds now, and its payload under the nonce of the frame that carries it (R252). -/
structure ReplayIn where
  seq    : Nat
  crcOk  : Bool
  cipher : List Byte
  deriving DecidableEq, Repr

/-- Credits that a seal flit returns (R256): the virtual channel, its shared part or one of its sub-lanes, and
the units of 32 B. -/
structure CreditReturn where
  vc    : Fin 3
  lane  : Option (Fin 96)
  units : Nat
  deriving DecidableEq, Repr

/-- A frame as it arrives at a port (R233, R252): the ciphertext of its 47 data flits and its timing flit, the tag
of the seal flit, whether it is marked as the first of the next key generation, the flits whose CRC fails (R255;
48 is the seal flit), what its replay reserve carries, and the credits it returns. -/
structure FrameIn where
  cipher   : List Byte
  tag      : List Byte
  newKey   : Bool
  crcFails : List (Fin 49)
  replay   : Option ReplayIn
  credits  : List CreditReturn
  deriving DecidableEq, Repr

/-- A host access to a BAR (R380, R382). -/
structure BarAccess where
  fn     : PciFn
  bar    : Fin 6
  offset : BitVec 32
  width  : Nat
  write  : Bool
  value  : Nat
  onIde  : Bool
  deriving DecidableEq, Repr

/-- One USDO request or segment from a client (R425, R428). -/
inductive Usdo where
  | read (index : BitVec 16) (sub : BitVec 8)
  | write (index : BitVec 16) (sub : BitVec 8) (data : List Byte)
  | writeFirst (index : BitVec 16) (sub : BitVec 8) (data : List Byte)
  | writeNext (data : List Byte) (last : Bool)
  deriving DecidableEq, Repr

/-- What the security complex finds in a view's copy when it compares (R347). -/
structure MirrorSeen where
  part  : Fin 8
  host  : Bool
  state : BitVec 8
  gen   : BitVec 32
  deriving DecidableEq, Repr

/-- Where a job secret comes from (R147, R148). -/
inductive SecretSource where
  | drawn
  | received (secret salt : List Byte) (gust seq : Nat)
  deriving DecidableEq, Repr

/-- What the surroundings show when a dictionary write that comes by a general path starts the module or
enables a port. -/
structure Around where
  boot      : BootInput
  prsntHigh : Bool
  deriving DecidableEq, Repr

/-- How a self-test ended (R451, R453). -/
structure TestOutcome where
  pass     : Bool
  faults   : BitVec 16
  clusters : List ClusterTest
  channel  : Option Nat
  deriving DecidableEq, Repr

/-- One reading of the memory sensors (R172), in tenths of a degree: the highest of each stack, of
each package, and the refresh multiplier of each package's MR4. -/
structure SensorReading where
  nearTemps : List Int
  farTemps : List Int
  mr4      : List Nat
  deriving DecidableEq, Repr

/-- One sample of the supplies and temperatures (R447): mV, W, the average over 1 s, tenths of a
degree; `none` for the inlet is an open or shorted element (R496). The four flags say whether the
excursions have lasted as long as the table of R447 asks. -/
structure PowerReading where
  mv        : Nat
  w         : Nat
  avgW      : Nat
  die       : Int
  inlet     : Option Int
  peak10us  : Bool
  over18ms  : Bool
  low100us  : Bool
  high100us : Bool
  deriving DecidableEq, Repr

/-- A liveness report, or a lost set, of a member (R320). -/
inductive Liveness where
  | report (module : BitVec 14)
  | lostSet (module : BitVec 14) (lost : List (BitVec 14))
  deriving DecidableEq, Repr

/-- Who asks for an ordinary teardown (R344). -/
inductive StopBy where
  | dict (r : Requester)
  | owner (i : Fin 8)
  deriving DecidableEq, Repr

/-- The commands. -/
inductive Instr where
  /-- COLD_START (R441) -/
  | coldStart (b : BootInput)
  /-- CLUSTER_GROUP_POWER_UP (R441) -/
  | clusterGroupPowerUp (g : Fin 32) (r : List ClusterTest)
  /-- SLOT_ID_READ (R424) -/
  | slotIdRead (pins : BitVec 7)
  /-- SLOT_ID_CHANGE (R424) -/
  | slotIdChange (pins : BitVec 7)
  /-- PWR_GOOD_FALL (R443) -/
  | pwrGoodFall
  /-- INPUT_SWITCH_OPEN (R492) -/
  | inputSwitchOpen (high : Bool)
  /-- PERST_ASSERT (R440) -/
  | perstAssert (b : BootInput)
  /-- PERST_RELEASE (R441) -/
  | perstRelease (refclk : Bool) (b : BootInput)
  /-- MODULE_RESET (R440) -/
  | moduleReset (r : Requester) (b : BootInput)
  /-- VF_FLR (R404) -/
  | vfFlr (p : Fin 8)
  /-- PF_FLR (R440) -/
  | pfFlr
  /-- MEMORY_UNIT_READY (R182) -/
  | memoryUnitReady (u : MemUnit) (failed : List (Nat × Nat))
  /-- MEMORY_READY_TIMEOUT (R182) -/
  | memoryReadyTimeout (u : MemUnit)
  /-- GRID_POINT (R44) -/
  | gridPoint (p : Fin 8) (t : Nat)
  /-- CALM_WINDOW (R72) -/
  | calmWindow (p : Fin 8) (t : Nat) (cal : List CalRun)
  /-- SLIP_CHECK_POINT (R77) -/
  | slipCheckPoint (p : Fin 8) (t : Nat)
  /-- METER_WINDOW (R66) -/
  | meterWindow (t : Nat)
  /-- ENTRY_COMPLETE (R55) -/
  | entryComplete (p : Fin 8) (unitId : Fin 519) (unit : BitVec 4)
  /-- PLAN_BINDING (R58) -/
  | planBinding (p : Fin 8) (b : PlanIn)
  /-- PREEMPT_REQUEST (R83) -/
  | preemptRequest (p : Fin 8) (resumeAt : Option Nat)
  /-- GUST_ENABLE (R49) -/
  | gustEnable (r : Requester) (p : Fin 8)
  /-- GUST_DISABLE (R51) -/
  | gustDisable (r : Requester) (p : Fin 8)
  /-- BEACON_ROOT_WRITE (R75) -/
  | beaconRootWrite (r : Requester) (v : BitVec 16)
  /-- BEACON_SEND (R259) -/
  | beaconSend (t : Nat)
  /-- BEACON (R74) -/
  | beacon (n : Fin 16) (m : BitVec 256) (t : Nat)
  /-- BEACON_LOSS (R75) -/
  | beaconLoss (t : Nat)
  /-- ECHO_TIMER (R259) -/
  | echoTimer (t : Nat)
  /-- ECHO_REQUEST (R259) -/
  | echoRequest (n : Fin 16) (m : BitVec 256) (t : Nat)
  /-- ECHO_RESPONSE (R259) -/
  | echoResponse (n : Fin 16) (m : BitVec 256) (t : Nat)
  /-- SLIP_NOTICE (R78) -/
  | slipNotice (n : Fin 16) (m : BitVec 256) (t : Nat)
  /-- ABORT_NOTICE (R81) -/
  | abortNotice (n : Fin 16) (m : BitVec 256) (t : Nat)
  /-- PAUSE_NOTICE (R83) -/
  | pauseNotice (n : Fin 16) (m : BitVec 256) (t : Nat)
  /-- MULTIPLY_ADD (R99) -/
  | multiplyAdd (c : Fin 512) (a : BitVec 64) (d : Desc)
  /-- SUM_OF_ABSOLUTE_DIFFERENCES (R103) -/
  | sumOfAbsoluteDifferences (c : Fin 512) (a : BitVec 64) (d : Desc)
  /-- SUM_OF_SQUARED_DIFFERENCES (R103) -/
  | sumOfSquaredDifferences (c : Fin 512) (a : BitVec 64) (d : Desc)
  /-- MAX_PLUS (R103) -/
  | maxPlus (c : Fin 512) (a : BitVec 64) (d : Desc)
  /-- MIN_PLUS (R103) -/
  | minPlus (c : Fin 512) (a : BitVec 64) (d : Desc)
  /-- COMPARE_AND_COUNT (R105) -/
  | compareAndCount (c : Fin 512) (a : BitVec 64) (d : Desc)
  /-- COLUMN_SELF_CHECK_FAIL (R115) -/
  | columnSelfCheckFail (c : Fin 512) (col : Fin 64)
  /-- VEC_COPY (R128) -/
  | vecCopy (c : Fin 512) (a : BitVec 64) (d : Desc)
  /-- ADD (R128) -/
  | addV (c : Fin 512) (a : BitVec 64) (d : Desc)
  /-- SUB (R128) -/
  | subV (c : Fin 512) (a : BitVec 64) (d : Desc)
  /-- MUL (R128) -/
  | mulV (c : Fin 512) (a : BitVec 64) (d : Desc)
  /-- FMA (R128) -/
  | fmaV (c : Fin 512) (a : BitVec 64) (d : Desc)
  /-- MIN (R128) -/
  | minV (c : Fin 512) (a : BitVec 64) (d : Desc)
  /-- MAX (R128) -/
  | maxV (c : Fin 512) (a : BitVec 64) (d : Desc)
  /-- ABS (R128) -/
  | absV (c : Fin 512) (a : BitVec 64) (d : Desc)
  /-- NEG (R128) -/
  | negV (c : Fin 512) (a : BitVec 64) (d : Desc)
  /-- MUL_IMM (R128) -/
  | mulImm (c : Fin 512) (a : BitVec 64) (d : Desc)
  /-- ADD_IMM (R128) -/
  | addImm (c : Fin 512) (a : BitVec 64) (d : Desc)
  /-- SELECT (R128) -/
  | selectV (c : Fin 512) (a : BitVec 64) (d : Desc)
  /-- MASK_CAUSAL (R128) -/
  | maskCausal (c : Fin 512) (a : BitVec 64) (d : Desc)
  /-- DROPOUT (R128) -/
  | dropout (c : Fin 512) (a : BitVec 64) (d : Desc)
  /-- ROW_MAX (R125) -/
  | rowMax (c : Fin 512) (a : BitVec 64) (d : Desc)
  /-- ROW_SUM (R124) -/
  | rowSum (c : Fin 512) (a : BitVec 64) (d : Desc)
  /-- ROW_SUMSQ (R125) -/
  | rowSumsq (c : Fin 512) (a : BitVec 64) (d : Desc)
  /-- ROW_COUNT (R125) -/
  | rowCount (c : Fin 512) (a : BitVec 64) (d : Desc)
  /-- SUB_ROW (R130) -/
  | subRow (c : Fin 512) (a : BitVec 64) (d : Desc)
  /-- DIV_ROW (R130) -/
  | divRow (c : Fin 512) (a : BitVec 64) (d : Desc)
  /-- CENTER_ROW (R128) -/
  | centerRow (c : Fin 512) (a : BitVec 64) (d : Desc)
  /-- NORM_ROW (R128) -/
  | normRow (c : Fin 512) (a : BitVec 64) (d : Desc)
  /-- SFU_EVALUATE (R135) -/
  | sfuEvaluate (c : Fin 512) (a : BitVec 64) (d : Desc)
  /-- SFU_LOAD_TABLE (R136) -/
  | sfuLoadTable (c : Fin 512) (a : BitVec 64) (d : Desc)
  /-- SAMPLE (R155) -/
  | sample (p : Fin 8) (u : Fin 4) (a : BitVec 64) (d : Desc)
  /-- SAMPLER_ENABLE (R159) -/
  | samplerEnable (r : Requester) (v : BitVec 8)
  /-- JOB_SECRET (R147) -/
  | jobSecret (p : Fin 8) (src : SecretSource)
  /-- UPDRAFT (R215) -/
  | updraft (c : Fin 512) (x : Fin 4) (a : BitVec 64) (d : Desc)
  /-- DOWNDRAFT (R215) -/
  | downdraft (c : Fin 512) (x : Fin 2) (a : BitVec 64) (d : Desc)
  /-- STREAM_REQUEST (R220) -/
  | streamRequest (c : Fin 512) (x : Fin 6)
  /-- LINE_ARRIVAL (R164) -/
  | lineArrival (c : Fin 512) (x : Fin 6) (i : Nat) (errs : List (Fin 72 × Byte))
  /-- TRANSFER_COMPLETE (R218) -/
  | transferComplete (c : Fin 512) (x : Fin 6)
  /-- SHARE_ENABLE (R230) -/
  | shareEnable (r : Requester) (p : Fin 8)
  /-- SENSOR_SAMPLE (R172) -/
  | sensorSample (t : Nat) (v : SensorReading)
  /-- MAP_OUT_ENABLE (R186) -/
  | mapOutEnable (r : Requester)
  /-- FAR_MAP_OUT_ENABLE (R186) -/
  | farMapOutEnable (r : Requester)
  /-- RANGE_ENABLE (R195) -/
  | rangeEnable (r : Requester) (e : Fin 64)
  /-- RANGE_DISABLE (R195) -/
  | rangeDisable (r : Requester) (e : Fin 64)
  /-- COMPAT_PARTITIONS (R198) -/
  | compatPartitions (r : Requester) (v : BitVec 8)
  /-- COMPAT_KEY (R198) -/
  | compatKey (r : Requester) (p : Fin 8) (i : BitVec 8) (h : BitVec 32)
  /-- SCRUB_COMPLETE (R202) -/
  | scrubComplete (u : ScrubScope)
  /-- TAMPER_BREACH (R205) -/
  | tamperBreach
  /-- PORT_ENABLE (R235) -/
  | portEnable (r : Requester) (n : Fin 16) (prsntHigh : Bool)
  /-- PORT_DISABLE (R262) -/
  | portDisable (r : Requester) (n : Fin 16)
  /-- PORT_BRINGUP_STEP (R235) -/
  | portBringupStep (n : Fin 16) (peer : PeerInfo)
  /-- PORT_STEP_TIMEOUT (R235) -/
  | portStepTimeout (n : Fin 16)
  /-- LANE_FAIL (R235) -/
  | laneFail (n : Fin 16)
  /-- FRAME_LOCK_LOST (R235) -/
  | frameLockLost (n : Fin 16)
  /-- FRAME (R252) -/
  | frameIn (n : Fin 16) (f : FrameIn)
  /-- REKEY (R254) -/
  | rekey (n : Fin 16)
  /-- MODULE_ID (R237) -/
  | moduleId (r : Requester) (v : BitVec 16)
  /-- FWD_ENABLE (R239) -/
  | fwdEnable (r : Requester) (p : Fin 8)
  /-- READ_REQUEST (R241) -/
  | readRequest (n : Fin 16) (k : Packet)
  /-- READ_RESPONSE (R245) -/
  | readResponse (n : Fin 16) (k : Packet)
  /-- WRITE_ACKNOWLEDGED (R245) -/
  | writeAcknowledged (n : Fin 16) (k : Packet)
  /-- POSTED_WRITE (R245) -/
  | postedWrite (n : Fin 16) (k : Packet)
  /-- WRITE_ACKNOWLEDGEMENT (R245) -/
  | writeAcknowledgement (n : Fin 16) (k : Packet)
  /-- FETCH_ADD (R246) -/
  | fetchAdd (n : Fin 16) (k : Packet)
  /-- FETCH_MIN (R246) -/
  | fetchMin (n : Fin 16) (k : Packet)
  /-- FETCH_MAX (R246) -/
  | fetchMax (n : Fin 16) (k : Packet)
  /-- FETCH_OR (R246) -/
  | fetchOr (n : Fin 16) (k : Packet)
  /-- FETCH_AND (R246) -/
  | fetchAnd (n : Fin 16) (k : Packet)
  /-- SWAP (R246) -/
  | swap (n : Fin 16) (k : Packet)
  /-- CMP_SWAP (R246) -/
  | cmpSwap (n : Fin 16) (k : Packet)
  /-- ATOMIC_RESPONSE (R246) -/
  | atomicResponse (n : Fin 16) (k : Packet)
  /-- FAILURE_NOTICE (R247) -/
  | failureNotice (n : Fin 16) (k : Packet)
  /-- REMOTE_TIMEOUT (R248) -/
  | remoteTimeout (tag : BitVec 16) (t : Nat)
  /-- LEND_REQUEST (R250) -/
  | lendRequest (n : Fin 16) (q : LendRequest)
  /-- LEND_END (R251) -/
  | lendEnd (e : Fin 64)
  /-- COLLECTIVE_DATA (R274) -/
  | collectiveData (n : Fin 16) (k : Packet)
  /-- TILE_SINK (R275) -/
  | tileSink (p : Fin 8) (a : BitVec 64) (d : Desc)
  /-- LOCAL_SUM (R271) -/
  | localSum (p : Fin 8) (a : BitVec 64) (d : Desc)
  /-- REDUCE_SCATTER (R271) -/
  | reduceScatter (p : Fin 8) (a : BitVec 64) (d : Desc)
  /-- ALL_GATHER (R271) -/
  | allGather (p : Fin 8) (a : BitVec 64) (d : Desc)
  /-- BROADCAST (R271) -/
  | broadcast (p : Fin 8) (a : BitVec 64) (d : Desc)
  /-- ADAMW (R297) -/
  | adamw (p : Fin 8) (a : BitVec 64) (d : Desc)
  /-- INIT (R297) -/
  | initW (p : Fin 8) (a : BitVec 64) (d : Desc)
  /-- FOLD (R290) -/
  | fold (p : Fin 8) (a : BitVec 64) (d : Desc)
  /-- CLOSE (R292) -/
  | closeStep (p : Fin 8) (a : BitVec 64) (d : Desc)
  /-- STEP_END (R290) -/
  | stepEnd (p : Fin 8) (a : BitVec 64) (d : Desc)
  /-- UPD_ENABLE (R305) -/
  | updEnable (r : Requester) (p : Fin 8)
  /-- CKPT_COPY (R311) -/
  | ckptCopy (p : Fin 8) (a : BitVec 64) (d : Desc)
  /-- RESTORE (R319) -/
  | restore (p : Fin 8) (a : BitVec 64) (d : Desc)
  /-- PEER_COPY (R311) -/
  | peerCopy (p : Fin 8) (a : BitVec 64) (d : Desc)
  /-- CKPT_STEP_TRIGGER (R308) -/
  | ckptStepTrigger (p : Fin 8)
  /-- CKPT_PERIOD_TRIGGER (R308) -/
  | ckptPeriodTrigger (p : Fin 8) (t : Nat)
  /-- CKPT_NOW (R308) -/
  | ckptNow (r : Requester) (p : Fin 8)
  /-- DRAIN_SHARD (R316) -/
  | drainShard (p : Fin 8) (shard : BitVec 16)
  /-- MANIFEST_WRITE (R318) -/
  | manifestWrite (p : Fin 8)
  /-- CKPT_ENABLE (R326) -/
  | ckptEnable (r : Requester) (p : Fin 8)
  /-- CKPT_LOAD (R319) -/
  | ckptLoad (r : Requester) (p : Fin 8)
  /-- LIVENESS_REPORT (R320) -/
  | livenessReport (p : Fin 8) (l : Liveness)
  /-- SHRINK_WAIT_EXPIRY (R320) -/
  | shrinkWaitExpiry (p : Fin 8) (t : Nat)
  /-- REJOIN (R324): the rank and the module; the rejoiner itself also takes UPD_STEP and NORM_PREV from
  the stand-in, and the ORDER_GEN of the rebuilt groups. -/
  | rejoin (p : Fin 8) (rank : BitVec 14) (module : BitVec 14) (step : BitVec 64) (told : StepTold)
  /-- BUILD_ENABLE (R332) -/
  | buildEnable (r : Requester) (p : Fin 8)
  /-- CG_COLLAPSE_DONE (R333) -/
  | cgCollapseDone (g : Fin 32)
  /-- CHARTER (R338) -/
  | charter (p : Fin 8) (doc : List Byte)
  /-- LOCK_INTERFACE_REQUEST (R339) -/
  | lockInterfaceRequest (p : Fin 8)
  /-- GET_DEVICE_INTERFACE_REPORT (R339) -/
  | getDeviceInterfaceReport (p : Fin 8)
  /-- START_INTERFACE_REQUEST (R339) -/
  | startInterfaceRequest (p : Fin 8)
  /-- STOP_INTERFACE_REQUEST (R339) -/
  | stopInterfaceRequest (p : Fin 8)
  /-- IDE_INTEGRITY_FAILURE (R339) -/
  | ideIntegrityFailure (p : Fin 8)
  /-- GET_VERSION (R340) -/
  | getVersion (r : Option Requester) (msg : List Byte)
  /-- GET_CAPABILITIES (R340) -/
  | getCapabilities (r : Option Requester) (msg : List Byte)
  /-- NEGOTIATE_ALGORITHMS (R340) -/
  | negotiateAlgorithms (r : Option Requester) (msg : List Byte)
  /-- GET_DIGESTS (R340) -/
  | getDigests (r : Option Requester) (msg : List Byte)
  /-- GET_CERTIFICATE (R340) -/
  | getCertificate (r : Option Requester) (msg : List Byte)
  /-- CHALLENGE (R340) -/
  | challenge (r : Option Requester) (msg : List Byte)
  /-- GET_MEASUREMENTS (R340) -/
  | getMeasurements (r : Option Requester) (msg : List Byte)
  /-- KEY_EXCHANGE (R340) -/
  | keyExchange (r : Option Requester) (msg : List Byte)
  /-- VENDOR_DEFINED_REQUEST (R341) -/
  | vendorDefinedRequest (p : Fin 8) (msg : List Byte)
  /-- TEARDOWN (R344) -/
  | teardown (by_ : StopBy) (p : Fin 8)
  /-- FORCE_OFF (R345) -/
  | forceOff (r : Requester) (p : Fin 8)
  /-- DEFERRED_REQUEST_RELEASE (R346) -/
  | deferredRequestRelease (b : BootInput)
  /-- DEFER_LIMIT_EXPIRY (R346) -/
  | deferLimitExpiry (t : Nat)
  /-- MIRROR_CHECK (R347) -/
  | mirrorCheck (t : Nat) (seen : List MirrorSeen)
  /-- GENERATE (R361) -/
  | generateKey (r : Requester) (p : Fin 8) (attr : BitVec 8)
  /-- DERIVE (R361) -/
  | deriveKey (r : Requester) (p : Fin 8) (parent : BitVec 32) (attr : BitVec 8) (label ctx : List Byte)
  /-- EVICT (R361) -/
  | evictKey (r : Requester) (p : Fin 8) (slot : BitVec 32)
  /-- LOAD_BLOB (R363) -/
  | loadBlob (r : Requester) (p : Fin 8) (blob : BitVec 768)
  /-- KEY_DESTROY (R364) -/
  | keyDestroy (r : Requester) (p : Fin 8) (slot : BitVec 32)
  /-- KEY_ENABLE (R423) -/
  | keyEnable (r : Requester) (p : Fin 8)
  /-- ENTROPY_HEALTH_FAIL (R367) -/
  | entropyHealthFail
  /-- DRBG_RESEED (R366) -/
  | drbgReseed (t : Nat)
  /-- LC_ENABLE (R371) -/
  | lcEnable (r : Requester)
  /-- RECOVERY_BUMP (R376) -/
  | recoveryBump (r : Requester) (p : Fin 9)
  /-- DOORBELL (R389) -/
  | doorbell (p : Fin 8) (q : Fin 64) (v : BitVec 32)
  /-- CREATE (R393) -/
  | createObj (i : Issuer) (p : Fin 8) (q : Fin 64) (e : BitVec 896)
  /-- DESTROY (R387) -/
  | destroyObj (i : Issuer) (p : Fin 8) (q : Fin 64) (e : BitVec 896)
  /-- MAP (R398) -/
  | mapPages (i : Issuer) (p : Fin 8) (q : Fin 64) (e : BitVec 896)
  /-- UNMAP (R399) -/
  | unmapPages (i : Issuer) (p : Fin 8) (q : Fin 64) (e : BitVec 896)
  /-- SIGNAL (R396) -/
  | signalFence (i : Issuer) (p : Fin 8) (q : Fin 64) (e : BitVec 896)
  /-- SUBMIT_JOB (R403) -/
  | submitJob (i : Issuer) (p : Fin 8) (q : Fin 64) (e : BitVec 896) (b : JobImage)
  /-- COPY (R393) -/
  | copyBytes (i : Issuer) (p : Fin 8) (q : Fin 64) (e : BitVec 896)
  /-- SET_JOB_FENCE (R403) -/
  | setJobFence (i : Issuer) (p : Fin 8) (q : Fin 64) (e : BitVec 896)
  /-- WAIT_RELEASE (R391) -/
  | waitRelease (p : Fin 8) (q : Fin 64)
  /-- HOST_DMA_TIMEOUT (R392) -/
  | hostDmaTimeout (p : Fin 8) (q : Fin 64)
  /-- ACCESS_ERR (R381) -/
  | accessErr (f : PciFn) (v : BitVec 32)
  /-- MAILBOX_GO (R422) -/
  | mailboxGo (v : BitVec 32) (w : Around)
  /-- DICT_WRITE (R414) -/
  | dictWrite (r : Requester) (index : BitVec 16) (sub : BitVec 8) (data : List Byte) (w : Around)
  /-- LOCK_RELEASE (R418) -/
  | lockRelease (r : Requester) (index : BitVec 16)
  /-- LOCK_LEASE_EXPIRY (R419) -/
  | lockLeaseExpiry (index : BitVec 16) (t : Nat)
  /-- EXPERT_UNLOCK (R411) -/
  | expertUnlock (r : Requester) (v : BitVec 32)
  /-- EXPERT_LAPSE (R411) -/
  | expertLapse (r : Requester) (t : Nat)
  /-- FUNC_ENABLE (R421) -/
  | funcEnable (r : Requester) (v : BitVec 16)
  /-- USDO_REQUEST (R425) -/
  | usdoRequest (node : Fin 128) (u : Usdo) (w : Around)
  /-- USDO_SEGMENT_TIMEOUT (R428) -/
  | usdoSegmentTimeout (node : Fin 128) (t : Nat)
  /-- NMT_START (R426) -/
  | nmtStart
  /-- NMT_STOP (R426) -/
  | nmtStop
  /-- NMT_ENTER_PRE_OPERATIONAL (R426) -/
  | nmtEnterPreOperational
  /-- NMT_RESET_NODE (R426) -/
  | nmtResetNode
  /-- NMT_RESET_COMMUNICATION (R426) -/
  | nmtResetCommunication
  /-- HEARTBEAT_SEND (R427) -/
  | heartbeatSend (t : Nat)
  /-- HEARTBEAT (R430) -/
  | heartbeat (node : Fin 128) (state vote : Byte) (t : Nat)
  /-- MANAGER_HEARTBEAT_LOSS (R427) -/
  | managerHeartbeatLoss (node : Fin 128) (t : Nat)
  /-- BUS_OFF (R419) -/
  | busOff
  /-- EMCY_SEND (R429) -/
  | emcySend (t : Nat)
  /-- LULL_WINDOW_END (R430) -/
  | lullWindowEnd (t : Nat)
  /-- WAKE_UP_PATTERN (R431) -/
  | wakeUpPattern (t : Nat) (b : BootInput)
  /-- EVENT_LOG_WRITE (R432) -/
  | eventLogWrite
  /-- LOG_READ_SEQ (R433) -/
  | logReadSeq (r : Requester) (v : BitVec 32)
  /-- POWER_SAMPLE (R447) -/
  | powerSample (t : Nat) (v : PowerReading)
  /-- SQUALL_END (R448) -/
  | squallEnd (t : Nat)
  /-- DOLDRUMS_NOW (R446) -/
  | doldrumsNow (r : Requester)
  /-- WAKE (R446) -/
  | wakeUp (r : Requester) (b : BootInput)
  /-- TEST_ENABLE (R452) -/
  | testEnable (r : Requester)
  /-- TEST_START (R453) -/
  | testStart (t : Nat)
  /-- TEST_COMPLETE (R453) -/
  | testComplete (o : TestOutcome)
  /-- TEST_QUEUE_EXPIRY (R453) -/
  | testQueueExpiry (t : Nat)
  /-- FW_STAGE_ENABLE (R472) -/
  | fwStageEnable (r : Requester)
  /-- FW_CHUNK (R473) -/
  | fwChunk (r : Requester) (data : List Byte)
  /-- FW_STAGE_COMMIT (R474) -/
  | fwStageCommit (r : Requester)
  /-- FW_ACTIVATE (R475) -/
  | fwActivate (r : Requester)
  /-- FW_CONFIRM (R478) -/
  | fwConfirm (r : Requester)
  /-- FLASH_ERASE_DONE (R461) -/
  | flashEraseDone (ok : Bool) (ms : Nat)
  /-- PAGE_PROGRAM_DONE (R461) -/
  | pageProgramDone (ok : Bool)
  /-- CALIBRATION_TASK_DUE (R175) -/
  | calibrationTaskDue (c : CalRun)
  /-- REMASK_100_MS_MARK (R365) -/
  | remask100MsMark (t : Nat)
  /-- PRESENT_SET_LAPSE (R430) -/
  | presentSetLapse (node : Fin 128) (t : Nat)
  /-- BUS_OFF_RECOVERY (R436) -/
  | busOffRecovery
  /-- IDE_STREAM_KEYED (R339) -/
  | ideStreamKeyed (p : Fin 8)
  /-- BAR_REGISTER_ACCESS (R382) -/
  | barRegisterAccess (a : BarAccess) (w : Around)
  /-- CHANNEL_COPY_DONE (R392) -/
  | channelCopyDone (n : Fin 32) (w : Around)
  /-- FUSE_BLOW_DONE (R371) -/
  | fuseBlowDone (b : BootInput)
  deriving DecidableEq, Repr

end Sys2Proof
end

