-- ==== Sys2Proof/Decode.lean ====
section
/-! DEFINITION. The commands that words spell by spec/opcode_table.json. The table gives no row any
bits: a command of the block is no word, so no word spells one. -/

namespace Sys2Proof

/-- The command that a word spells: none, since no row of the table has bits. -/
def decodeTableWord (_nbits _w : Nat) : Option Instr := none

end Sys2Proof
end

