-- ==== Sys2Proof/Machine/Bits.lean ====
section
/-! DEFINITION. Bit fields and byte order (R6, R7): every field of a record, descriptor or register
is cut out here, once. -/

namespace Sys2Proof.Machine

/-- Bits `[lo + w - 1 : lo]` of `x` (R6). -/
def fld (x lo w : Nat) : Nat := (x >>> lo) % 2 ^ w

/-- Bit `i` of `x`. -/
def bit (x i : Nat) : Bool := x.testBit i

/-- `x` with bits `[lo + w - 1 : lo]` replaced by the low `w` bits of `v`. -/
def setFld (x lo w v : Nat) : Nat :=
  x - (fld x lo w) * 2 ^ lo + (v % 2 ^ w) * 2 ^ lo

/-- `1` for true, `0` for false. -/
def b2n (b : Bool) : Nat := if b then 1 else 0

/-- `x` with bit `i` set. -/
def setBit (x i : Nat) : Nat := x ||| 2 ^ i

/-- `x` with bit `i` cleared. -/
def clearBit (x i : Nat) : Nat := if x.testBit i then x - 2 ^ i else x

/-- The number of set bits among the low `w` bits of `x`. -/
def popCount (x w : Nat) : Nat := ((List.range w).filter (fun i => x.testBit i)).length

/-- The set bits of `x` below `w`, rising. -/
def bitsOf (x w : Nat) : List Nat := (List.range w).filter (fun i => x.testBit i)

/-- The number with exactly the bits of `l` set. -/
def ofBits (l : List Nat) : Nat := l.foldl setBit 0

/-- Little-endian bytes of `x`, `n` of them (R7). -/
def leBytes : Nat → Nat → List Byte
  | 0, _ => []
  | n + 1, x => BitVec.ofNat 8 x :: leBytes n (x >>> 8)

/-- The number whose little-endian bytes are the list (R7). -/
def ofLe : List Byte → Nat
  | [] => 0
  | b :: r => b.toNat + 256 * ofLe r

/-- The number whose big-endian bytes are the list (R500). -/
def ofBe (l : List Byte) : Nat := l.foldl (fun a b => a * 256 + b.toNat) 0

/-- Big-endian bytes of `x`, `n` of them. -/
def beBytes (n x : Nat) : List Byte := (leBytes n x).reverse

/-- Upward rounding division, `⌈a ÷ b⌉`. -/
def ceilDiv (a b : Nat) : Nat := (a + b - 1) / b

/-- Two's complement reading of the low `w` bits (I32 and I64 of R409). -/
def sgn (w x : Nat) : Int :=
  let y := x % 2 ^ w
  if y < 2 ^ (w - 1) then (y : Int) else (y : Int) - (2 ^ w : Nat)

/-- Two's complement writing into `w` bits. -/
def unsgn (w : Nat) (i : Int) : Nat := (i % ((2 ^ w : Nat) : Int)).toNat

/-- `l` cut into pieces of `n` elements; `fuel` bounds their number. -/
def chunksOf {α : Type} (n : Nat) : Nat → List α → List (List α)
  | 0, _ => []
  | fuel + 1, l => if l.isEmpty then [] else l.take n :: chunksOf n fuel (l.drop n)

/-- `l` extended with `z` to `n` elements, or cut to them. -/
def padTo {α : Type} (n : Nat) (z : α) (l : List α) : List α :=
  (l ++ List.replicate (n - l.length) z).take n

/-- Byte-wise XOR. -/
def xorBytes (a b : List Byte) : List Byte := List.zipWith (fun x y => x ^^^ y) a b

end Sys2Proof.Machine
end

