-- ==== Sys2Proof/Machine/Aes.lean ====
section
/-! DEFINITION. AES-256 in the forward direction (R189 uses no other), AES-256-GCM (R252, R316,
R362, R401) and its GHASH, as R4 names them. Blocks are lists of 16 bytes. -/

namespace Sys2Proof.Machine

/-- The substitution box of FIPS 197, entry `x` in bits `[8x + 7 : 8x]`. -/
def aesBox : Nat :=
  0x16bb54b00f2d99416842e6bf0d89a18cdf2855cee9871e9b948ed9691198f8e19e1dc186b95735610ef6034866b53e708a8bbd4b1f74dde8c6b4a61c2e2578ba08ae7a65eaf4566ca94ed58d6d37c8e779e4959162acd3c25c2406490a3a32e0db0b5ede14b8ee4688902a22dc4f816073195d643d7ea7c41744975fec130ccdd2f3ff1021dab6bcf5389d928f40a351a89f3c507f02f94585334d43fbaaefd0cf584c4a39becb6a5bb1fc20ed00d153842fe329b3d63b52a05a6e1b1a2c830975b227ebe28012079a059618c323c7041531d871f1e5a534ccf73f362693fdb7c072a49cafa2d4adf04759fa7dc982ca76abd7fe2b670130c56f6bf27b777c63


/-- Entry `x` of the substitution box. -/
def aesSub (x : Nat) : Nat := (aesBox >>> (8 * x)) % 256

/-- Doubling in the AES field. -/
def aesDouble (x : Nat) : Nat := if x < 128 then 2 * x else (2 * x) ^^^ 0x11b

/-- The substitution box on each byte of a 32-bit word. -/
def aesSubWord (w : Nat) : Nat :=
  aesSub (w % 256) + 256 * aesSub (w / 256 % 256) + 65536 * aesSub (w / 65536 % 256)
    + 16777216 * aesSub (w / 16777216 % 256)

/-- A 32-bit word turned left by one byte. -/
def aesRotWord (w : Nat) : Nat := (w * 256) % 2 ^ 32 + w / 2 ^ 24

/-- `n` further words of the key schedule. `ws` holds the last eight words, newest first; `i` is
the number of the next word and `rc` the round constant. -/
def aesExpand : Nat → Nat → Nat → List Nat → List Nat
  | 0, _, _, _ => []
  | n + 1, i, rc, ws =>
    let prev := ws.headD 0
    let t := if i % 8 = 0 then aesSubWord (aesRotWord prev) ^^^ (rc * 2 ^ 24)
             else if i % 8 = 4 then aesSubWord prev else prev
    let w := (ws.getD 7 0) ^^^ t
    w :: aesExpand n (i + 1) (if i % 8 = 0 then aesDouble rc else rc) (w :: ws.take 7)

/-- The 60 words of the schedule of a 32-byte key. -/
def aesSchedule (key : List Byte) : List Nat :=
  let ws := (chunksOf 4 8 (padTo 32 0 key)).map ofBe
  ws ++ aesExpand 52 8 1 ws.reverse

/-- The four bytes of a column after the mixing step. -/
def aesMixColumn (a b c d : Nat) : List Nat :=
  let t := a ^^^ b ^^^ c ^^^ d
  [a ^^^ t ^^^ aesDouble (a ^^^ b), b ^^^ t ^^^ aesDouble (b ^^^ c),
   c ^^^ t ^^^ aesDouble (c ^^^ d), d ^^^ t ^^^ aesDouble (d ^^^ a)]

/-- Substitution and row shift: byte `r` of column `c` comes from column `c + r`. -/
def aesSubShift (s : List Nat) : List Nat :=
  (List.range 16).map (fun i => aesSub (s.getD ((i + 4 * (i % 4)) % 16) 0))

/-- The mixing step on all four columns. -/
def aesMix (s : List Nat) : List Nat :=
  (List.range 4).flatMap (fun c =>
    aesMixColumn (s.getD (4 * c) 0) (s.getD (4 * c + 1) 0) (s.getD (4 * c + 2) 0)
      (s.getD (4 * c + 3) 0))

/-- XOR of the state with the four schedule words of a round. -/
def aesAddKey (s ks : List Nat) : List Nat :=
  List.zipWith (fun a b => a ^^^ b) s
    (ks.flatMap (fun w => [w / 2 ^ 24 % 256, w / 2 ^ 16 % 256, w / 2 ^ 8 % 256, w % 256]))

/-- The 13 middle rounds and the last one. -/
def aesRounds : Nat → List Nat → List Nat → List Nat
  | 0, ks, s => aesAddKey (aesSubShift s) (ks.take 4)
  | n + 1, ks, s => aesRounds n (ks.drop 4) (aesAddKey (aesMix (aesSubShift s)) (ks.take 4))

/-- AES-256 of one block under an expanded key. -/
def aesBlock (sched : List Nat) (blk : List Byte) : List Byte :=
  let s := (padTo 16 0 blk).map BitVec.toNat
  (aesRounds 13 (sched.drop 4) (aesAddKey s (sched.take 4))).map (BitVec.ofNat 8)

/-- AES-256 of one block under a 32-byte key. -/
def aes256 (key blk : List Byte) : List Byte := aesBlock (aesSchedule key) blk

/-- The product of the GCM field; operands have their first bit most significant. -/
def gfMulGo : Nat → Nat → Nat → Nat → Nat
  | 0, _, _, z => z
  | n + 1, y, v, z =>
    gfMulGo n y (if v % 2 = 1 then (v / 2) ^^^ (0xe1 * 2 ^ 120) else v / 2)
      (if y.testBit n then z ^^^ v else z)

/-- `x · y` in the field of GHASH. -/
def gfMul (x y : Nat) : Nat := gfMulGo 128 y x 0

/-- GHASH under `h` over 16-byte blocks. -/
def ghash (h : Nat) (blocks : List (List Byte)) : Nat :=
  blocks.foldl (fun a b => gfMul (a ^^^ ofBe (padTo 16 0 b)) h) 0

/-- The byte string cut into 16-byte blocks, the last one padded with zeros. -/
def blocks16 (l : List Byte) : List (List Byte) := (chunksOf 16 (l.length + 1) l).map (padTo 16 0)

/-- Counter-mode keystream XORed onto `l`, from counter `c` under the 12-byte nonce. -/
def gcmCtr (sched : List Nat) (nonce : List Byte) : Nat → List (List Byte) → List Byte
  | _, [] => []
  | c, b :: r =>
    xorBytes b (aesBlock sched (padTo 12 0 nonce ++ beBytes 4 c)) ++ gcmCtr sched nonce (c + 1) r

/-- The 16-byte tag of AES-256-GCM over additional data and ciphertext. -/
def gcmTag (sched : List Nat) (nonce aad ct : List Byte) : List Byte :=
  let h := ofBe (aesBlock sched (List.replicate 16 0))
  let s := ghash h (blocks16 aad ++ blocks16 ct ++ [beBytes 8 (8 * aad.length) ++ beBytes 8 (8 * ct.length)])
  xorBytes (beBytes 16 s) (aesBlock sched (padTo 12 0 nonce ++ [0, 0, 0, 1]))

/-- AES-256-GCM encryption under a 96-bit nonce: ciphertext and tag. -/
def gcmSeal (key nonce aad pt : List Byte) : List Byte × List Byte :=
  let sched := aesSchedule key
  let ct := gcmCtr sched nonce 2 (chunksOf 16 (pt.length + 1) pt)
  (ct, gcmTag sched nonce aad ct)

/-- AES-256-GCM decryption; nothing when the tag fails. -/
def gcmOpen (key nonce aad ct tag : List Byte) : Option (List Byte) :=
  let sched := aesSchedule key
  if gcmTag sched nonce aad ct = tag then some (gcmCtr sched nonce 2 (chunksOf 16 (ct.length + 1) ct))
  else none

end Sys2Proof.Machine
end

