-- ==== Sys2Proof/Config.lean ====
section
/-! DEFINITION. What the spec leaves open and an implementation fixes. Every constant here is a free
value: it has no body, so nothing can be proved of the value it holds (log entry 8). -/

namespace Sys2Proof.Config

/-- Byte `i` of the entropy source's `n`-th output (R366). -/
opaque entropy : Nat → Nat → Byte

/-- What the decoder of R163 makes of a pattern of four or more wrong symbols: a choice of outcome, and the
symbol and value of a wrong correction. -/
opaque eccOutcome : List Byte → Nat

/-- The BUILTIN_TABLE_REV of the built-in tables in an image 6, by the image's SHA-384 (R140, R467). -/
opaque tableRev : Nat → BitVec 32

/-- What the training of the host link at time `t` settles on: a choice of width and of rate (R4). -/
opaque linkWidth : Nat → Nat
opaque linkRate : Nat → Nat

/-- How far built-in function `slot` lies from the nearest FP32 value at an input, for a table
revision, within the bound of R133. -/
opaque sfuOffset : Nat → Nat → Nat → Nat

/-- How far a fixed evaluation of R501 lies from the nearest FP32 value at an input. -/
opaque fixedOffset : Nat → Nat → Nat

/-- The bank of a memory row, and how many spare rows a bank has (R177). -/
opaque bankOf : Nat → Nat → Nat
opaque spareRows : Nat → Nat

/-- The detail of the reason with which the job services hold a job whose norm ran out of bounds
(R292, R336). -/
opaque clipHold : Nat

/-- How many layers a RECOVERY step leaves out, for the `n`-th such step (R322). -/
opaque layersSkipped : Nat → Nat

/-- Whether a manifest part that another module wrote carries a good signature: the module and the
SHA-384 of what it signs (R319). -/
opaque peerSigned : Nat → List Byte → Bool

/-- The reason that a failing self-test reports, by TEST_ID (R457). -/
opaque testReason : Nat → Nat

/-- Whether a self-test needs random words, by TEST_ID, and how many the `n`-th test that does is served
(R150). -/
opaque testNeedsWords : Nat → Bool
opaque testWords : Nat → Nat

/-- The SHA-384 of image `i` as the factory wrote it (R350): the spec gives no image's bytes. -/
opaque factoryDigest : Nat → BitVec 384

/-- The bytes of the certificate chain of a DeviceID and an alias key (R340, R357). -/
opaque certChain : Nat → Nat → List Byte

/-- The timing exponent that CAPABILITIES states (R4, R340). -/
opaque ctExponent : Byte

/-- The key that an owner's wrapped key holds (R341): the spec does not say how it is wrapped. -/
opaque unwrapKey : List Byte → List Byte

end Sys2Proof.Config
end

