-- ==== Sys2Proof/Machine/Keys.lean ====
section
/-! DEFINITION. The dictionary's entries by name (R407): one key per entry that the chapters list.
A key is the index times 256 plus the sub-index; a set-indexed entry takes its set number. -/

namespace Sys2Proof.Machine

/-- The key of sub-index `sub` of index `index`. -/
def dkey (index sub : Nat) : Nat := index * 256 + sub

/-- GUST_PERIOD_US of set element `i` (R48). -/
def kGustPeriodUs (i : Nat) : Nat := dkey (0x2010 + i) 0x01
/-- CALM_LEN_US of set element `i` (R48). -/
def kCalmLenUs (i : Nat) : Nat := dkey (0x2010 + i) 0x02
/-- SLIP_LEAD_US of set element `i` (R48). -/
def kSlipLeadUs (i : Nat) : Nat := dkey (0x2010 + i) 0x03
/-- JOB_HOPS of set element `i` (R48). -/
def kJobHops (i : Nat) : Nat := dkey (0x2010 + i) 0x04
/-- SLIP_LIMIT of set element `i` (R48). -/
def kSlipLimit (i : Nat) : Nat := dkey (0x2010 + i) 0x05
/-- START_TIME_NS of set element `i` (R48). -/
def kStartTimeNs (i : Nat) : Nat := dkey (0x2010 + i) 0x06
/-- GUST_ENABLE of set element `i` (R48). -/
def kGustEnable (i : Nat) : Nat := dkey (0x2010 + i) 0x07
/-- GUST_NUMBER of set element `i` (R48). -/
def kGustNumber (i : Nat) : Nat := dkey (0x2010 + i) 0x08
/-- SLIP_COUNT of set element `i` (R48). -/
def kSlipCount (i : Nat) : Nat := dkey (0x2010 + i) 0x09
/-- LATE_CYCLES of set element `i` (R48). -/
def kLateCycles (i : Nat) : Nat := dkey (0x2010 + i) 0x0A
/-- GUST_REFUSAL of set element `i` (R48). -/
def kGustRefusal (i : Nat) : Nat := dkey (0x2010 + i) 0x0B
/-- GUST_KIND of set element `i` (R48). -/
def kGustKind (i : Nat) : Nat := dkey (0x2010 + i) 0x0C
/-- INGEST_SLIPS of set element `i` (R48). -/
def kIngestSlips (i : Nat) : Nat := dkey (0x2010 + i) 0x0D
/-- BEACON_ROOT (R75). -/
def kBeaconRoot : Nat := dkey 0x2001 0x01
/-- ALIGN_ERR_NS (R75). -/
def kAlignErrNs : Nat := dkey 0x2001 0x02
/-- ALIGN_STATE (R75). -/
def kAlignState : Nat := dkey 0x2001 0x03
/-- HOLDOVER_LIMIT_US (R75). -/
def kHoldoverLimitUs : Nat := dkey 0x2001 0x04
/-- COLMAP_GEN (R114). -/
def kColmapGen : Nat := dkey 0x4001 0x01
/-- ACTIVE_COLUMNS (R114). -/
def kActiveColumns : Nat := dkey 0x4001 0x02
/-- FULL_WIDTH_CLUSTERS (R114). -/
def kFullWidthClusters : Nat := dkey 0x4001 0x03
/-- EMPTY_REDUCTIONS (R114). -/
def kEmptyReductions : Nat := dkey 0x4001 0x04
/-- INT_SATURATIONS (R114). -/
def kIntSaturations : Nat := dkey 0x4001 0x05
/-- OPERAND_OVERRUNS (R114). -/
def kOperandOverruns : Nat := dkey 0x4001 0x06
/-- ARRAY_REFUSAL (R114). -/
def kArrayRefusal : Nat := dkey 0x4001 0x07
/-- ARRAY_FAULT_CLUSTER (R114). -/
def kArrayFaultCluster : Nat := dkey 0x4001 0x08
/-- CLUSTER_READY, sub-index `s` (R114). -/
def kClusterReady (s : Nat) : Nat := dkey 0x4002 s
/-- COLUMN_BYPASS, of index set element `i`, sub-index `s` (R114). -/
def kColumnBypass (i s : Nat) : Nat := dkey (0x4100 + i) s
/-- CLUSTER_WIDTH, of index set element `i`, sub-index `s` (R114). -/
def kClusterWidth (i s : Nat) : Nat := dkey (0x4104 + i) s
/-- COLUMN_BYPASS_PENDING, of index set element `i`, sub-index `s` (R114). -/
def kColumnBypassPending (i s : Nat) : Nat := dkey (0x4108 + i) s
/-- VECTOR_REFUSAL (R140). -/
def kVectorRefusal : Nat := dkey 0x4003 0x01
/-- SFU_REFUSAL (R140). -/
def kSfuRefusal : Nat := dkey 0x4003 0x02
/-- ROW_EMPTY_COUNT (R140). -/
def kRowEmptyCount : Nat := dkey 0x4003 0x03
/-- ROW_NAN_COUNT (R140). -/
def kRowNanCount : Nat := dkey 0x4003 0x04
/-- VEC_EMPTY_REDUCTIONS (R140). -/
def kVecEmptyReductions : Nat := dkey 0x4003 0x05
/-- VEC_INT_SATURATIONS (R140). -/
def kVecIntSaturations : Nat := dkey 0x4003 0x06
/-- TABLE_LOADS (R140). -/
def kTableLoads : Nat := dkey 0x4003 0x07
/-- BUILTIN_TABLE_REV (R140). -/
def kBuiltinTableRev : Nat := dkey 0x4003 0x08
/-- GEN_SOURCE (R158). -/
def kGenSource : Nat := dkey 0x4801 0x01
/-- GEN_KEY_LOADED (R158). -/
def kGenKeyLoaded : Nat := dkey 0x4801 0x02
/-- DRBG_WORDS (R158). -/
def kDrbgWords : Nat := dkey 0x4801 0x03
/-- SAMPLER_REFUSAL (R158). -/
def kSamplerRefusal : Nat := dkey 0x4802 0x01
/-- ROWS_SAMPLED (R158). -/
def kRowsSampled : Nat := dkey 0x4802 0x02
/-- ROWS_NO_TOKEN (R158). -/
def kRowsNoToken : Nat := dkey 0x4802 0x03
/-- ROWS_P_SHORT (R158). -/
def kRowsPShort : Nat := dkey 0x4802 0x04
/-- SAMPLER_ENABLE (R158). -/
def kSamplerEnable : Nat := dkey 0x4802 0x05
/-- NEAR_READY (R184). -/
def kNearReady : Nat := dkey 0x5801 0x01
/-- FAR_READY (R185). -/
def kFarReady : Nat := dkey 0x6001 0x01
/-- NEAR_USABLE_BYTES (R184). -/
def kNearUsableBytes : Nat := dkey 0x5801 0x02
/-- FAR_USABLE_BYTES (R185). -/
def kFarUsableBytes : Nat := dkey 0x6001 0x02
/-- NEAR_CE_COUNT (R184). -/
def kNearCeCount : Nat := dkey 0x5801 0x03
/-- FAR_CE_COUNT (R185). -/
def kFarCeCount : Nat := dkey 0x6001 0x03
/-- NEAR_UE_COUNT (R184). -/
def kNearUeCount : Nat := dkey 0x5801 0x04
/-- FAR_UE_COUNT (R185). -/
def kFarUeCount : Nat := dkey 0x6001 0x04
/-- NEAR_POISON_READS (R184). -/
def kNearPoisonReads : Nat := dkey 0x5801 0x05
/-- FAR_POISON_READS (R185). -/
def kFarPoisonReads : Nat := dkey 0x6001 0x05
/-- NEAR_REPAIRS (R184). -/
def kNearRepairs : Nat := dkey 0x5801 0x06
/-- FAR_REPAIRS (R185). -/
def kFarRepairs : Nat := dkey 0x6001 0x06
/-- MAP_OUT_CHANNEL (R184). -/
def kMapOutChannel : Nat := dkey 0x5801 0x07
/-- FAR_MAP_OUT_CHANNEL (R185). -/
def kFarMapOutChannel : Nat := dkey 0x6001 0x07
/-- MAP_OUT_ENABLE (R184). -/
def kMapOutEnable : Nat := dkey 0x5801 0x08
/-- FAR_MAP_OUT_ENABLE (R185). -/
def kFarMapOutEnable : Nat := dkey 0x6001 0x08
/-- NEAR_REFUSAL (R184). -/
def kNearRefusal : Nat := dkey 0x5801 0x09
/-- FAR_REFUSAL (R185). -/
def kFarRefusal : Nat := dkey 0x6001 0x09
/-- STACK_TEMP of set element `i` (R184). -/
def kStackTemp (i : Nat) : Nat := dkey (0x5810 + i) 0x01
/-- STACK_BAND of set element `i` (R184). -/
def kStackBand (i : Nat) : Nat := dkey (0x5810 + i) 0x02
/-- STACK_MAP of set element `i` (R184). -/
def kStackMap (i : Nat) : Nat := dkey (0x5810 + i) 0x03
/-- STACK_MAP_PENDING of set element `i` (R184). -/
def kStackMapPending (i : Nat) : Nat := dkey (0x5810 + i) 0x04
/-- SPARE_CONNECTIONS_USED of set element `i` (R184). -/
def kSpareConnectionsUsed (i : Nat) : Nat := dkey (0x5810 + i) 0x05
/-- GROUP_TEMP of set element `i` (R185). -/
def kGroupTemp (i : Nat) : Nat := dkey (0x6010 + i) 0x01
/-- GROUP_BAND of set element `i` (R185). -/
def kGroupBand (i : Nat) : Nat := dkey (0x6010 + i) 0x02
/-- GROUP_MAP of set element `i` (R185). -/
def kGroupMap (i : Nat) : Nat := dkey (0x6010 + i) 0x03
/-- GROUP_MAP_PENDING of set element `i` (R185). -/
def kGroupMapPending (i : Nat) : Nat := dkey (0x6010 + i) 0x04
/-- CAL_OVERDUE of set element `i` (R185). -/
def kCalOverdue (i : Nat) : Nat := dkey (0x6010 + i) 0x05
/-- OWNER of set element `i` (R194). -/
def kOwner (i : Nat) : Nat := dkey (0x6810 + i) 0x01
/-- BASE of set element `i` (R194). -/
def kBase (i : Nat) : Nat := dkey (0x6810 + i) 0x02
/-- SIZE of set element `i` (R194). -/
def kSize (i : Nat) : Nat := dkey (0x6810 + i) 0x03
/-- KEY_SLOT of set element `i` (R194). -/
def kKeySlot (i : Nat) : Nat := dkey (0x6810 + i) 0x04
/-- RANGE_ENABLE of set element `i` (R194). -/
def kRangeEnable (i : Nat) : Nat := dkey (0x6810 + i) 0x05
/-- RANGE_STATE of set element `i` (R194). -/
def kRangeState (i : Nat) : Nat := dkey (0x6810 + i) 0x06
/-- RANGE_EPOCH of set element `i` (R194). -/
def kRangeEpoch (i : Nat) : Nat := dkey (0x6810 + i) 0x07
/-- LENT_TO of set element `i` (R194). -/
def kLentTo (i : Nat) : Nat := dkey (0x6810 + i) 0x08
/-- RANGE_TAG_FAILS of set element `i` (R194). -/
def kRangeTagFails (i : Nat) : Nat := dkey (0x6810 + i) 0x09
/-- ENC_REFUSAL (R207). -/
def kEncRefusal : Nat := dkey 0x6801 0x01
/-- QUARANTINE_LIMIT (R207). -/
def kQuarantineLimit : Nat := dkey 0x6801 0x02
/-- TAG_FAIL_COUNT (R207). -/
def kTagFailCount : Nat := dkey 0x6801 0x03
/-- SCRUBBED_READS (R207). -/
def kScrubbedReads : Nat := dkey 0x6801 0x04
/-- VERSION_MISSES (R207). -/
def kVersionMisses : Nat := dkey 0x6801 0x05
/-- COMPAT_PARTITIONS (R207). -/
def kCompatPartitions : Nat := dkey 0x6801 0x06
/-- NEAR_SCRUBBED (R207). -/
def kNearScrubbed : Nat := dkey 0x6801 0x07
/-- FAR_SCRUBBED (R207). -/
def kFarScrubbed : Nat := dkey 0x6801 0x08
/-- TAMPER_STATE (R207). -/
def kTamperState : Nat := dkey 0x6801 0x09
/-- RANGES_FREE (R207). -/
def kRangesFree : Nat := dkey 0x6801 0x0A
/-- COMPAT_KEY, of index set element `i`, sub-index `s` (R207). -/
def kCompatKey (i s : Nat) : Nat := dkey (0x6860 + i) s
/-- READ_SHARE of set element `i` (R229). -/
def kReadShare (i : Nat) : Nat := dkey (0x5010 + i) 0x01
/-- WRITE_SHARE of set element `i` (R229). -/
def kWriteShare (i : Nat) : Nat := dkey (0x5010 + i) 0x02
/-- REMOTE_SHARE of set element `i` (R229). -/
def kRemoteShare (i : Nat) : Nat := dkey (0x5010 + i) 0x03
/-- SHARE_ENABLE of set element `i` (R229). -/
def kShareEnable (i : Nat) : Nat := dkey (0x5010 + i) 0x04
/-- SHARE_REFUSAL of set element `i` (R229). -/
def kShareRefusal (i : Nat) : Nat := dkey (0x5010 + i) 0x05
/-- STREAM_REFUSAL (R231). -/
def kStreamRefusal : Nat := dkey 0x5001 0x01
/-- STREAMS_LIVE (R231). -/
def kStreamsLive : Nat := dkey 0x5001 0x02
/-- EMPTY_TRANSFERS (R231). -/
def kEmptyTransfers : Nat := dkey 0x5001 0x03
/-- BUFFER_OVERRUNS (R231). -/
def kBufferOverruns : Nat := dkey 0x5001 0x04
/-- CELL_OVERRUNS (R231). -/
def kCellOverruns : Nat := dkey 0x5001 0x05
/-- CALM_SUSPENSIONS (R231). -/
def kCalmSuspensions : Nat := dkey 0x5001 0x06
/-- REARMS (R231). -/
def kRearms : Nat := dkey 0x5001 0x07
/-- MODULE_ID (R262). -/
def kModuleId : Nat := dkey 0x7001 0x01
/-- FABRIC_REFUSAL (R262). -/
def kFabricRefusal : Nat := dkey 0x7001 0x02
/-- REMOTE_TIMEOUT_US (R262). -/
def kRemoteTimeoutUs : Nat := dkey 0x7001 0x03
/-- LEND_LIMIT_GIB (R262). -/
def kLendLimitGib : Nat := dkey 0x7001 0x04
/-- LENT_BYTES (R262). -/
def kLentBytes : Nat := dkey 0x7001 0x05
/-- NOTICES_SENT (R262). -/
def kNoticesSent : Nat := dkey 0x7001 0x06
/-- NOTICES_RECEIVED (R262). -/
def kNoticesReceived : Nat := dkey 0x7001 0x07
/-- NOTICES_STALE (R262). -/
def kNoticesStale : Nat := dkey 0x7001 0x08
/-- PACKETS_DROPPED (R262). -/
def kPacketsDropped : Nat := dkey 0x7001 0x09
/-- BEACON_PARENT_PORT (R262). -/
def kBeaconParentPort : Nat := dkey 0x7001 0x0A
/-- BEACON_HOPS (R262). -/
def kBeaconHops : Nat := dkey 0x7001 0x0B
/-- PORT_OWNER of set element `i` (R262). -/
def kPortOwner (i : Nat) : Nat := dkey (0x7010 + i) 0x01
/-- PORT_STATE of set element `i` (R262). -/
def kPortState (i : Nat) : Nat := dkey (0x7010 + i) 0x02
/-- PEER_MODULE of set element `i` (R262). -/
def kPeerModule (i : Nat) : Nat := dkey (0x7010 + i) 0x03
/-- PEER_PORT of set element `i` (R262). -/
def kPeerPort (i : Nat) : Nat := dkey (0x7010 + i) 0x04
/-- PORT_ENABLE of set element `i` (R262). -/
def kPortEnable (i : Nat) : Nat := dkey (0x7010 + i) 0x05
/-- REPLAYS of set element `i` (R262). -/
def kReplays (i : Nat) : Nat := dkey (0x7010 + i) 0x06
/-- TAG_FAILS of set element `i` (R262). -/
def kTagFails (i : Nat) : Nat := dkey (0x7010 + i) 0x07
/-- REKEYS of set element `i` (R262). -/
def kRekeys (i : Nat) : Nat := dkey (0x7010 + i) 0x08
/-- FWD_STATE of set element `i` (R262). -/
def kFwdState (i : Nat) : Nat := dkey (0x7020 + i) 0x01
/-- FWD_ENABLE of set element `i` (R262). -/
def kFwdEnable (i : Nat) : Nat := dkey (0x7020 + i) 0x02
/-- FWD_GEN of set element `i` (R262). -/
def kFwdGen (i : Nat) : Nat := dkey (0x7020 + i) 0x03
/-- PORT_COLL_SHARE of set element `i` (R262). -/
def kPortCollShare (i : Nat) : Nat := dkey (0x7020 + i) 0x04
/-- LEND_RATE of set element `i` (R262). -/
def kLendRate (i : Nat) : Nat := dkey (0x7040 + i) 0x01
/-- LEND_PORTS of set element `i` (R262). -/
def kLendPorts (i : Nat) : Nat := dkey (0x7040 + i) 0x02
/-- LEND_STATE of set element `i` (R262). -/
def kLendState (i : Nat) : Nat := dkey (0x7040 + i) 0x03
/-- COLL_REFUSAL (R284). -/
def kCollRefusal : Nat := dkey 0x7002 0x01
/-- GROUPS_LIVE (R284). -/
def kGroupsLive : Nat := dkey 0x7002 0x02
/-- EMPTY_COLLECTIVES (R284). -/
def kEmptyCollectives : Nat := dkey 0x7002 0x03
/-- COLL_OVERRUNS (R284). -/
def kCollOverruns : Nat := dkey 0x7002 0x04
/-- COMMITS (R284). -/
def kCommits : Nat := dkey 0x7002 0x05
/-- COMMITS_DISCARDED (R284). -/
def kCommitsDiscarded : Nat := dkey 0x7002 0x06
/-- CLIP_MODE of set element `i` (R304). -/
def kClipMode (i : Nat) : Nat := dkey (0x7810 + i) 0x01
/-- MAX_NORM of set element `i` (R304). -/
def kMaxNorm (i : Nat) : Nat := dkey (0x7810 + i) 0x02
/-- CLIP_HEADROOM of set element `i` (R304). -/
def kClipHeadroom (i : Nat) : Nat := dkey (0x7810 + i) 0x03
/-- LR_PEAK of set element `i` (R304). -/
def kLrPeak (i : Nat) : Nat := dkey (0x7810 + i) 0x04
/-- LR_MIN of set element `i` (R304). -/
def kLrMin (i : Nat) : Nat := dkey (0x7810 + i) 0x05
/-- WARMUP_STEPS of set element `i` (R304). -/
def kWarmupSteps (i : Nat) : Nat := dkey (0x7810 + i) 0x06
/-- DECAY_STEPS of set element `i` (R304). -/
def kDecaySteps (i : Nat) : Nat := dkey (0x7810 + i) 0x07
/-- LR_SHAPE of set element `i` (R304). -/
def kLrShape (i : Nat) : Nat := dkey (0x7810 + i) 0x08
/-- BETA1 of set element `i` (R304). -/
def kBeta1 (i : Nat) : Nat := dkey (0x7810 + i) 0x09
/-- BETA2 of set element `i` (R304). -/
def kBeta2 (i : Nat) : Nat := dkey (0x7810 + i) 0x0A
/-- ADAM_EPS of set element `i` (R304). -/
def kAdamEps (i : Nat) : Nat := dkey (0x7810 + i) 0x0B
/-- WEIGHT_DECAY of set element `i` (R304). -/
def kWeightDecay (i : Nat) : Nat := dkey (0x7810 + i) 0x0C
/-- NOISE_STD of set element `i` (R304). -/
def kNoiseStd (i : Nat) : Nat := dkey (0x7810 + i) 0x0D
/-- UPD_FAR_BPU of set element `i` (R304). -/
def kUpdFarBpu (i : Nat) : Nat := dkey (0x7810 + i) 0x0E
/-- UPD_FENCE of set element `i` (R304). -/
def kUpdFence (i : Nat) : Nat := dkey (0x7810 + i) 0x0F
/-- UPD_ORDER_GEN of set element `i` (R304). -/
def kUpdOrderGen (i : Nat) : Nat := dkey (0x7810 + i) 0x10
/-- UPD_ENABLE of set element `i` (R304). -/
def kUpdEnable (i : Nat) : Nat := dkey (0x7810 + i) 0x11
/-- UPD_STEP of set element `i` (R304). -/
def kUpdStep (i : Nat) : Nat := dkey (0x7810 + i) 0x12
/-- NORM_PREV of set element `i` (R304). -/
def kNormPrev (i : Nat) : Nat := dkey (0x7810 + i) 0x13
/-- NORM_CUR of set element `i` (R304). -/
def kNormCur (i : Nat) : Nat := dkey (0x7810 + i) 0x14
/-- NORM_SQ_ACC of set element `i` (R304). -/
def kNormSqAcc (i : Nat) : Nat := dkey (0x7810 + i) 0x15
/-- UPD_FLAGS of set element `i` (R304). -/
def kUpdFlags (i : Nat) : Nat := dkey (0x7810 + i) 0x16
/-- NOISE_FLOOR of set element `i` (R304). -/
def kNoiseFloor (i : Nat) : Nat := dkey (0x7810 + i) 0x17
/-- UPD_PROGRESS of set element `i` (R304). -/
def kUpdProgress (i : Nat) : Nat := dkey (0x7810 + i) 0x18
/-- CHUNKS_REFUSED of set element `i` (R304). -/
def kChunksRefused (i : Nat) : Nat := dkey (0x7810 + i) 0x19
/-- UPD_NONFINITE of set element `i` (R304). -/
def kUpdNonfinite (i : Nat) : Nat := dkey (0x7810 + i) 0x1A
/-- EMPTY_UPDATES of set element `i` (R304). -/
def kEmptyUpdates (i : Nat) : Nat := dkey (0x7810 + i) 0x1B
/-- UPDATE_REFUSAL of set element `i` (R304). -/
def kUpdateRefusal (i : Nat) : Nat := dkey (0x7810 + i) 0x1C
/-- CKPT_EVERY_STEPS of set element `i` (R326). -/
def kCkptEverySteps (i : Nat) : Nat := dkey (0x8010 + i) 0x01
/-- CKPT_PERIOD_S of set element `i` (R326). -/
def kCkptPeriodS (i : Nat) : Nat := dkey (0x8010 + i) 0x02
/-- CKPT_KEY_SLOT of set element `i` (R326). -/
def kCkptKeySlot (i : Nat) : Nat := dkey (0x8010 + i) 0x03
/-- RESTORE_KEY_SLOT of set element `i` (R326). -/
def kRestoreKeySlot (i : Nat) : Nat := dkey (0x8010 + i) 0x04
/-- DRAIN_ADDR of set element `i` (R326). -/
def kDrainAddr (i : Nat) : Nat := dkey (0x8010 + i) 0x05
/-- DRAIN_BPU of set element `i` (R326). -/
def kDrainBpu (i : Nat) : Nat := dkey (0x8010 + i) 0x06
/-- MAX_LOST of set element `i` (R326). -/
def kMaxLost (i : Nat) : Nat := dkey (0x8010 + i) 0x07
/-- SHRINK_WAIT_MS of set element `i` (R326). -/
def kShrinkWaitMs (i : Nat) : Nat := dkey (0x8010 + i) 0x08
/-- CKPT_FENCE of set element `i` (R326). -/
def kCkptFence (i : Nat) : Nat := dkey (0x8010 + i) 0x09
/-- CKPT_ENABLE of set element `i` (R326). -/
def kCkptEnable (i : Nat) : Nat := dkey (0x8010 + i) 0x0A
/-- CKPT_NOW of set element `i` (R326). -/
def kCkptNow (i : Nat) : Nat := dkey (0x8010 + i) 0x0B
/-- RESTORE_ADDR of set element `i` (R326). -/
def kRestoreAddr (i : Nat) : Nat := dkey (0x8010 + i) 0x0C
/-- CKPT_LOAD of set element `i` (R326). -/
def kCkptLoad (i : Nat) : Nat := dkey (0x8010 + i) 0x0D
/-- CKPT_STATE of set element `i` (R326). -/
def kCkptState (i : Nat) : Nat := dkey (0x8010 + i) 0x0E
/-- CKPT_SEQ of set element `i` (R326). -/
def kCkptSeq (i : Nat) : Nat := dkey (0x8010 + i) 0x0F
/-- LAST_SEALED_STEP of set element `i` (R326). -/
def kLastSealedStep (i : Nat) : Nat := dkey (0x8010 + i) 0x10
/-- SHARDS_REFUSED of set element `i` (R326). -/
def kShardsRefused (i : Nat) : Nat := dkey (0x8010 + i) 0x11
/-- LOST_MODULES of set element `i` (R326). -/
def kLostModules (i : Nat) : Nat := dkey (0x8010 + i) 0x12
/-- LAYERS_SKIPPED of set element `i` (R326). -/
def kLayersSkipped (i : Nat) : Nat := dkey (0x8010 + i) 0x13
/-- CKPT_DEFERRED of set element `i` (R326). -/
def kCkptDeferred (i : Nat) : Nat := dkey (0x8010 + i) 0x14
/-- CKPT_REFUSAL of set element `i` (R326). -/
def kCkptRefusal (i : Nat) : Nat := dkey (0x8010 + i) 0x15
/-- CG_COLLAPSED (R348). -/
def kCgCollapsed : Nat := dkey 0x3001 0x01
/-- DEFER_LIMIT_S (R348). -/
def kDeferLimitS : Nat := dkey 0x3001 0x02
/-- MIRROR_DISAGREEMENTS (R348). -/
def kMirrorDisagreements : Nat := dkey 0x3001 0x03
/-- CG_MAP of set element `i` (R348). -/
def kCgMap (i : Nat) : Nat := dkey (0x3010 + i) 0x01
/-- STACK_MAP of set element `i` (R348). -/
def kPartStackMap (i : Nat) : Nat := dkey (0x3010 + i) 0x02
/-- FARGROUP_MAP of set element `i` (R348). -/
def kFargroupMap (i : Nat) : Nat := dkey (0x3010 + i) 0x03
/-- PORT_MAP of set element `i` (R348). -/
def kPortMap (i : Nat) : Nat := dkey (0x3010 + i) 0x04
/-- EXPECT_GEN of set element `i` (R348). -/
def kExpectGen (i : Nat) : Nat := dkey (0x3010 + i) 0x05
/-- BUILD_ENABLE of set element `i` (R348). -/
def kBuildEnable (i : Nat) : Nat := dkey (0x3010 + i) 0x06
/-- PART_STATE of set element `i` (R348). -/
def kPartState (i : Nat) : Nat := dkey (0x3010 + i) 0x07
/-- PART_GEN of set element `i` (R348). -/
def kPartGen (i : Nat) : Nat := dkey (0x3010 + i) 0x08
/-- TEARDOWN of set element `i` (R348). -/
def kTeardown (i : Nat) : Nat := dkey (0x3010 + i) 0x09
/-- FORCE_OFF of set element `i` (R348). -/
def kForceOff (i : Nat) : Nat := dkey (0x3010 + i) 0x0A
/-- CHARTER_DIGEST of set element `i` (R348). -/
def kCharterDigest (i : Nat) : Nat := dkey (0x3010 + i) 0x0B
/-- JOB_ID of set element `i` (R348). -/
def kJobId (i : Nat) : Nat := dkey (0x3010 + i) 0x0C
/-- KEYS_DELIVERED of set element `i` (R348). -/
def kKeysDelivered (i : Nat) : Nat := dkey (0x3010 + i) 0x0D
/-- PART_REFUSAL of set element `i` (R348). -/
def kPartRefusal (i : Nat) : Nat := dkey (0x3010 + i) 0x0E
/-- LC_STATE (R378). -/
def kLcState : Nat := dkey 0x9001 0x01
/-- LC_TARGET (R378). -/
def kLcTarget : Nat := dkey 0x9001 0x02
/-- LC_TOKEN (R378). -/
def kLcToken : Nat := dkey 0x9001 0x03
/-- LC_ENABLE (R378). -/
def kLcEnable : Nat := dkey 0x9001 0x04
/-- LC_PROGRESS (R378). -/
def kLcProgress : Nat := dkey 0x9001 0x05
/-- TAMPER_COUNT (R378). -/
def kTamperCount : Nat := dkey 0x9001 0x06
/-- FUSE_MARGINAL (R378). -/
def kFuseMarginal : Nat := dkey 0x9001 0x07
/-- FUSE_LAST_MARGINAL (R378). -/
def kFuseLastMarginal : Nat := dkey 0x9001 0x08
/-- KEYS_UNUSABLE (R378). -/
def kKeysUnusable : Nat := dkey 0x9001 0x09
/-- ENTROPY_STATE (R378). -/
def kEntropyState : Nat := dkey 0x9001 0x0A
/-- KEY_SLOTS_LIVE (R378). -/
def kKeySlotsLive : Nat := dkey 0x9001 0x0B
/-- CACHE_SLOTS_FREE (R378). -/
def kCacheSlotsFree : Nat := dkey 0x9001 0x0C
/-- MEASUREMENTS (R378). -/
def kMeasurements : Nat := dkey 0x9001 0x0D
/-- COMPOSITE (R378). -/
def kComposite : Nat := dkey 0x9001 0x0E
/-- SEC_REFUSAL (R378). -/
def kSecRefusal : Nat := dkey 0x9001 0x0F
/-- RECOVERY_EPOCH of set element `i` (R378). -/
def kRecoveryEpoch (i : Nat) : Nat := dkey (0x9010 + i) 0x01
/-- RECOVERY_BUMP of set element `i` (R378). -/
def kRecoveryBump (i : Nat) : Nat := dkey (0x9010 + i) 0x02
/-- HOST_REFUSAL (R405). -/
def kHostRefusal : Nat := dkey 0x8801 0x01
/-- ACCESS_LOG_COUNT (R405). -/
def kAccessLogCount : Nat := dkey 0x8801 0x02
/-- XLATE_FREE (R405). -/
def kXlateFree : Nat := dkey 0x8801 0x03
/-- SHARD_RECORDS (R405). -/
def kShardRecords : Nat := dkey 0x8801 0x04
/-- SHARD_REFUSED (R405). -/
def kShardRefused : Nat := dkey 0x8801 0x05
/-- UNMAPPED_ACCESSES (R405). -/
def kUnmappedAccesses : Nat := dkey 0x8801 0x06
/-- LINK_STATUS (R405). -/
def kLinkStatus : Nat := dkey 0x8801 0x07
/-- CAP_GEN (R405). -/
def kCapGen : Nat := dkey 0x8801 0x08
/-- KEY_CMD of set element `i` (R423). -/
def kKeyCmd (i : Nat) : Nat := dkey (0x9020 + i) 0x01
/-- KEY_RESULT of set element `i` (R423). -/
def kKeyResult (i : Nat) : Nat := dkey (0x9020 + i) 0x02
/-- KEY_ENABLE of set element `i` (R423). -/
def kKeyEnable (i : Nat) : Nat := dkey (0x9020 + i) 0x03
/-- LOG_NEWEST_SEQ (R433). -/
def kLogNewestSeq : Nat := dkey 0xA001 0x01
/-- LOG_OLDEST_SEQ (R433). -/
def kLogOldestSeq : Nat := dkey 0xA001 0x02
/-- LOG_READ_SEQ (R433). -/
def kLogReadSeq : Nat := dkey 0xA001 0x03
/-- LOG_RECORD (R433). -/
def kLogRecord : Nat := dkey 0xA001 0x04
/-- EMCY_SEVERITY (R433). -/
def kEmcySeverity : Nat := dkey 0xA001 0x05
/-- LOG_SUPPRESSED (R433). -/
def kLogSuppressed : Nat := dkey 0xA001 0x06
/-- EMCY_DROPPED (R433). -/
def kEmcyDropped : Nat := dkey 0xA001 0x07
/-- TO_LEASE_MS (R434). -/
def kToLeaseMs : Nat := dkey 0x1070 0x01
/-- TO_HOST_DMA_US (R434). -/
def kToHostDmaUs : Nat := dkey 0x1070 0x02
/-- TO_MBX_US (R434). -/
def kToMbxUs : Nat := dkey 0x1070 0x03
/-- TO_USDO_MS (R434). -/
def kToUsdoMs : Nat := dkey 0x1070 0x04
/-- TO_MANAGER_HB_MS (R434). -/
def kToManagerHbMs : Nat := dkey 0x1070 0x05
/-- TO_LULL_WINDOW_MS (R434). -/
def kToLullWindowMs : Nat := dkey 0x1070 0x06
/-- TO_WAKE_ANSWER_MS (R434). -/
def kToWakeAnswerMs : Nat := dkey 0x1070 0x07
/-- TO_EXPERT_S (R434). -/
def kToExpertS : Nat := dkey 0x1070 0x08
/-- DEVICE_TYPE (R437). -/
def kDeviceType : Nat := dkey 0x1000 0x00
/-- ERROR_REGISTER (R437). -/
def kErrorRegister : Nat := dkey 0x1001 0x00
/-- HEARTBEAT_MS (R437). -/
def kHeartbeatMs : Nat := dkey 0x1017 0x00
/-- VENDOR_ID (R437). -/
def kVendorId : Nat := dkey 0x1018 0x01
/-- PRODUCT_CODE (R437). -/
def kProductCode : Nat := dkey 0x1018 0x02
/-- REVISION (R437). -/
def kRevision : Nat := dkey 0x1018 0x03
/-- SERIAL (R437). -/
def kSerial : Nat := dkey 0x1018 0x04
/-- CAPABILITY (R437). -/
def kCapability : Nat := dkey 0x1020 0x01
/-- LOCK_OWNER of set element `i` (R437). -/
def kLockOwner (i : Nat) : Nat := dkey (0x1030 + i) 0x01
/-- LEASE_LEFT_MS of set element `i` (R437). -/
def kLeaseLeftMs (i : Nat) : Nat := dkey (0x1030 + i) 0x02
/-- LOCK_EPOCH of set element `i` (R437). -/
def kLockEpoch (i : Nat) : Nat := dkey (0x1030 + i) 0x03
/-- LOCK_RELEASE of set element `i` (R437). -/
def kLockRelease (i : Nat) : Nat := dkey (0x1030 + i) 0x04
/-- LOCK_BREAKS of set element `i` (R437). -/
def kLockBreaks (i : Nat) : Nat := dkey (0x1030 + i) 0x05
/-- LAST_REASON, sub-index `s` (R437). -/
def kLastReason (s : Nat) : Nat := dkey 0x1050 s
/-- LAST_REASON_MBX (R437). -/
def kLastReasonMbx : Nat := dkey 0x1050 0x80
/-- READY_MAP (R437). -/
def kReadyMap : Nat := dkey 0x1060 0x01
/-- FUNC_ENABLE (R437). -/
def kFuncEnable : Nat := dkey 0x1060 0x02
/-- NODE_ID (R437). -/
def kNodeId : Nat := dkey 0x1060 0x03
/-- NMT_STATE (R437). -/
def kNmtState : Nat := dkey 0x1060 0x04
/-- LULL_ALLOW (R437). -/
def kLullAllow : Nat := dkey 0x1060 0x05
/-- BUS_STATE (R437). -/
def kBusState : Nat := dkey 0x1060 0x06
/-- MGMT_REFUSAL (R437). -/
def kMgmtRefusal : Nat := dkey 0x1060 0x07
/-- REQUEST_DEFER (R437). -/
def kRequestDefer : Nat := dkey 0x1060 0x08
/-- EXPERT_UNLOCK (R437). -/
def kExpertUnlock : Nat := dkey 0x1F10 0x01
/-- EXPERT_HELD (R437). -/
def kExpertHeld : Nat := dkey 0x1F10 0x02
/-- SPDM_REQUEST (R437). -/
def kSpdmRequest : Nat := dkey 0x1F20 0x01
/-- SPDM_RESPONSE (R437). -/
def kSpdmResponse : Nat := dkey 0x1F20 0x02
/-- SPDM_STATUS (R437). -/
def kSpdmStatus : Nat := dkey 0x1F20 0x03
/-- INPUT_MV (R456). -/
def kInputMv : Nat := dkey 0x2020 0x01
/-- INPUT_W (R456). -/
def kInputW : Nat := dkey 0x2020 0x02
/-- POWER_CAP_W (R456). -/
def kPowerCapW : Nat := dkey 0x2020 0x03
/-- SQUALL_PCT (R456). -/
def kSquallPct : Nat := dkey 0x2020 0x04
/-- SQUALLS (R456). -/
def kSqualls : Nat := dkey 0x2020 0x05
/-- SQUALL_NS (R456). -/
def kSquallNs : Nat := dkey 0x2020 0x06
/-- DOLDRUMS_NOW (R456). -/
def kDoldrumsNow : Nat := dkey 0x2020 0x07
/-- WAKE (R456). -/
def kWake : Nat := dkey 0x2020 0x08
/-- MODULE_RESET (R456). -/
def kModuleReset : Nat := dkey 0x2020 0x09
/-- CG_LULL (R456). -/
def kCgLull : Nat := dkey 0x2020 0x0A
/-- POWER_REFUSAL (R456). -/
def kPowerRefusal : Nat := dkey 0x2020 0x0B
/-- DIE_TEMP (R456). -/
def kDieTemp : Nat := dkey 0x2030 0x01
/-- COOLANT_IN_TEMP (R456). -/
def kCoolantInTemp : Nat := dkey 0x2030 0x02
/-- THROTTLE_REASON (R456). -/
def kThrottleReason : Nat := dkey 0x2030 0x03
/-- THERMAL_TRIPS (R456). -/
def kThermalTrips : Nat := dkey 0x2030 0x04
/-- F_TARGET_MHZ of set element `i` (R456). -/
def kFTargetMhz (i : Nat) : Nat := dkey (0x2040 + i) 0x01
/-- F_CORE_MHZ of set element `i` (R456). -/
def kFCoreMhz (i : Nat) : Nat := dkey (0x2040 + i) 0x02
/-- F_FLOOR_MHZ of set element `i` (R456). -/
def kFFloorMhz (i : Nat) : Nat := dkey (0x2040 + i) 0x03
/-- TEST_ID (R457). -/
def kTestId : Nat := dkey 0xA801 0x01
/-- TEST_UNIT (R457). -/
def kTestUnit : Nat := dkey 0xA801 0x02
/-- TEST_QUEUE (R457). -/
def kTestQueue : Nat := dkey 0xA801 0x03
/-- TEST_ENABLE (R457). -/
def kTestEnable : Nat := dkey 0xA801 0x04
/-- TEST_STATE (R457). -/
def kTestState : Nat := dkey 0xA801 0x05
/-- TEST_RESULT (R457). -/
def kTestResult : Nat := dkey 0xA801 0x06
/-- TESTS_QUEUED (R457). -/
def kTestsQueued : Nat := dkey 0xA801 0x07
/-- TEST_QUEUE_LIMIT_S (R457). -/
def kTestQueueLimitS : Nat := dkey 0xA801 0x08
/-- TEST_REFUSAL (R457). -/
def kTestRefusal : Nat := dkey 0xA801 0x09
/-- FW_STAGE_INDEX (R480). -/
def kFwStageIndex : Nat := dkey 0x9801 0x01
/-- FW_STAGE_SRC (R480). -/
def kFwStageSrc : Nat := dkey 0x9801 0x02
/-- FW_STAGE_BYTES (R480). -/
def kFwStageBytes : Nat := dkey 0x9801 0x03
/-- FW_STAGE_ENABLE (R480). -/
def kFwStageEnable : Nat := dkey 0x9801 0x04
/-- FW_CHUNK_OFFSET (R480). -/
def kFwChunkOffset : Nat := dkey 0x9801 0x05
/-- FW_CHUNK (R480). -/
def kFwChunk : Nat := dkey 0x9801 0x06
/-- FW_STAGE_COMMIT (R480). -/
def kFwStageCommit : Nat := dkey 0x9801 0x07
/-- FW_STATE (R480). -/
def kFwState : Nat := dkey 0x9801 0x08
/-- ACTIVE_SLOT (R480). -/
def kActiveSlot : Nat := dkey 0x9802 0x01
/-- FW_ACTIVATE (R480). -/
def kFwActivate : Nat := dkey 0x9802 0x02
/-- FW_CONFIRM (R480). -/
def kFwConfirm : Nat := dkey 0x9802 0x03
/-- FALLBACK_REASON (R480). -/
def kFallbackReason : Nat := dkey 0x9802 0x04
/-- FALLBACK_IMAGE (R480). -/
def kFallbackImage : Nat := dkey 0x9802 0x05
/-- SLOT_IMAGES (R480). -/
def kSlotImages : Nat := dkey 0x9802 0x06
/-- FW_REFUSAL (R480). -/
def kFwRefusal : Nat := dkey 0x9802 0x07
/-- SPARES_LEFT (R480). -/
def kSparesLeft : Nat := dkey 0x9803 0x01
/-- SLOW_ERASES (R480). -/
def kSlowErases : Nat := dkey 0x9803 0x02
/-- TORN_RECORDS (R480). -/
def kTornRecords : Nat := dkey 0x9803 0x03
/-- FLASH_REFUSAL (R480). -/
def kFlashRefusal : Nat := dkey 0x9803 0x04
/-- SECTOR_SEL (R480). -/
def kSectorSel : Nat := dkey 0x9803 0x05
/-- SECTOR_ERASES (R480). -/
def kSectorErases : Nat := dkey 0x9803 0x06
/-- SECTOR_STATE (R480). -/
def kSectorState : Nat := dkey 0x9803 0x07

end Sys2Proof.Machine
end

