-- ==== Sys2Proof/Machine/DictTable.lean ====
section
/-! DEFINITION. The table of the object dictionary (R407 to R410): for each entry its indices and
sub-indices, width, access code, level and reset value, as the chapters' tables give them (log entry
2 for the reset values they leave open). -/

namespace Sys2Proof.Machine

/-- The access codes of R410 that the dictionary's tables use. -/
inductive Acc where
  | ro
  | rw
  | wo
  | rc
  deriving DecidableEq, Repr

/-- A row of the table: indices `index` to `index + count - 1`, sub-indices `sub` to
`sub + subs - 1`. -/
structure DRow where
  index  : Nat
  count  : Nat
  sub    : Nat
  subs   : Nat
  bytes  : Nat
  acc    : Acc
  expert : Bool
  reset  : Nat
  deriving DecidableEq, Repr

/-- Entries of spec/02_gust_timing.md. -/
def dictGustTiming : List DRow :=
  [⟨0x2010, 8, 0x01, 1, 4, .rw, false, 250⟩,
   ⟨0x2010, 8, 0x02, 1, 1, .rw, true, 2⟩,
   ⟨0x2010, 8, 0x03, 1, 1, .rw, false, 5⟩,
   ⟨0x2010, 8, 0x04, 1, 1, .rw, false, 6⟩,
   ⟨0x2010, 8, 0x05, 1, 1, .rw, false, 4⟩,
   ⟨0x2010, 8, 0x06, 1, 8, .rw, false, 0⟩,
   ⟨0x2010, 8, 0x07, 1, 1, .rw, false, 0⟩,
   ⟨0x2010, 8, 0x08, 1, 8, .ro, false, 0⟩,
   ⟨0x2010, 8, 0x09, 1, 4, .rc, false, 0⟩,
   ⟨0x2010, 8, 0x0A, 1, 8, .rc, false, 0⟩,
   ⟨0x2010, 8, 0x0B, 1, 2, .ro, false, 0⟩,
   ⟨0x2010, 8, 0x0C, 1, 1, .ro, false, 0⟩,
   ⟨0x2010, 8, 0x0D, 1, 4, .rc, false, 0⟩,
   ⟨0x2001, 1, 0x01, 1, 2, .rw, true, 65535⟩,
   ⟨0x2001, 1, 0x02, 1, 4, .ro, false, 0⟩,
   ⟨0x2001, 1, 0x03, 1, 1, .ro, false, 0⟩,
   ⟨0x2001, 1, 0x04, 1, 4, .rw, true, 10000⟩]

/-- Entries of spec/03_matrix_array.md. -/
def dictMatrixArray : List DRow :=
  [⟨0x4001, 1, 0x01, 1, 4, .ro, false, 1⟩,
   ⟨0x4001, 1, 0x02, 1, 4, .ro, false, 32768⟩,
   ⟨0x4001, 1, 0x03, 1, 2, .ro, false, 512⟩,
   ⟨0x4001, 1, 0x04, 1, 8, .rc, false, 0⟩,
   ⟨0x4001, 1, 0x05, 1, 8, .rc, false, 0⟩,
   ⟨0x4001, 1, 0x06, 1, 8, .rc, false, 0⟩,
   ⟨0x4001, 1, 0x07, 1, 2, .ro, false, 0⟩,
   ⟨0x4001, 1, 0x08, 1, 2, .ro, false, 65535⟩,
   ⟨0x4002, 1, 0x01, 8, 8, .ro, false, 0⟩,
   ⟨0x4100, 4, 0x01, 128, 8, .ro, false, 0⟩,
   ⟨0x4104, 4, 0x01, 128, 1, .ro, false, 64⟩,
   ⟨0x4108, 4, 0x01, 128, 8, .ro, false, 0⟩]

/-- Entries of spec/04_vector_functions.md. -/
def dictVectorFunctions : List DRow :=
  [⟨0x4003, 1, 0x01, 1, 2, .ro, false, 0⟩,
   ⟨0x4003, 1, 0x02, 1, 2, .ro, false, 0⟩,
   ⟨0x4003, 1, 0x03, 1, 8, .rc, false, 0⟩,
   ⟨0x4003, 1, 0x04, 1, 8, .rc, false, 0⟩,
   ⟨0x4003, 1, 0x05, 1, 8, .rc, false, 0⟩,
   ⟨0x4003, 1, 0x06, 1, 8, .rc, false, 0⟩,
   ⟨0x4003, 1, 0x07, 1, 8, .rc, false, 0⟩,
   ⟨0x4003, 1, 0x08, 1, 4, .ro, false, 0⟩]

/-- Entries of spec/05_stochastic_sampling.md. -/
def dictStochasticSampling : List DRow :=
  [⟨0x4801, 1, 0x01, 1, 1, .ro, false, 255⟩,
   ⟨0x4801, 1, 0x02, 1, 1, .ro, false, 0⟩,
   ⟨0x4801, 1, 0x03, 1, 8, .rc, false, 0⟩,
   ⟨0x4802, 1, 0x01, 1, 2, .ro, false, 0⟩,
   ⟨0x4802, 1, 0x02, 1, 8, .rc, false, 0⟩,
   ⟨0x4802, 1, 0x03, 1, 8, .rc, false, 0⟩,
   ⟨0x4802, 1, 0x04, 1, 8, .rc, false, 0⟩,
   ⟨0x4802, 1, 0x05, 1, 1, .rw, false, 15⟩]

/-- Entries of spec/06_memory_tiers.md. -/
def dictMemoryTiers : List DRow :=
  [⟨0x5801, 1, 0x01, 1, 2, .ro, false, 0⟩,
   ⟨0x6001, 1, 0x01, 1, 2, .ro, false, 0⟩,
   ⟨0x5801, 1, 0x02, 1, 8, .ro, false, 0x2000000000⟩,
   ⟨0x6001, 1, 0x02, 1, 8, .ro, false, 0xe000000000⟩,
   ⟨0x5801, 1, 0x03, 1, 8, .rc, false, 0⟩,
   ⟨0x6001, 1, 0x03, 1, 8, .rc, false, 0⟩,
   ⟨0x5801, 1, 0x04, 1, 8, .rc, false, 0⟩,
   ⟨0x6001, 1, 0x04, 1, 8, .rc, false, 0⟩,
   ⟨0x5801, 1, 0x05, 1, 8, .rc, false, 0⟩,
   ⟨0x6001, 1, 0x05, 1, 8, .rc, false, 0⟩,
   ⟨0x5801, 1, 0x06, 1, 4, .ro, false, 0⟩,
   ⟨0x6001, 1, 0x06, 1, 4, .ro, false, 0⟩,
   ⟨0x5801, 1, 0x07, 1, 2, .rw, true, 65535⟩,
   ⟨0x6001, 1, 0x07, 1, 2, .rw, true, 65535⟩,
   ⟨0x5801, 1, 0x08, 1, 1, .rw, true, 0⟩,
   ⟨0x6001, 1, 0x08, 1, 1, .rw, true, 0⟩,
   ⟨0x5801, 1, 0x09, 1, 2, .ro, false, 0⟩,
   ⟨0x6001, 1, 0x09, 1, 2, .ro, false, 0⟩,
   ⟨0x5810, 16, 0x01, 1, 4, .ro, false, 0⟩,
   ⟨0x5810, 16, 0x02, 1, 1, .ro, false, 0⟩,
   ⟨0x5810, 16, 0x03, 1, 8, .ro, false, 0xffffffffffffffff⟩,
   ⟨0x5810, 16, 0x04, 1, 8, .ro, false, 0xffffffffffffffff⟩,
   ⟨0x5810, 16, 0x05, 1, 1, .ro, false, 0⟩,
   ⟨0x6010, 16, 0x01, 1, 4, .ro, false, 0⟩] ++
  [⟨0x6010, 16, 0x02, 1, 1, .ro, false, 0⟩,
   ⟨0x6010, 16, 0x03, 1, 1, .ro, false, 255⟩,
   ⟨0x6010, 16, 0x04, 1, 1, .ro, false, 255⟩,
   ⟨0x6010, 16, 0x05, 1, 4, .rc, false, 0⟩]

/-- Entries of spec/07_inline_encryption.md. -/
def dictInlineEncryption : List DRow :=
  [⟨0x6810, 64, 0x01, 1, 1, .rw, false, 255⟩,
   ⟨0x6810, 64, 0x02, 1, 8, .rw, false, 0⟩,
   ⟨0x6810, 64, 0x03, 1, 8, .rw, false, 0⟩,
   ⟨0x6810, 64, 0x04, 1, 4, .rw, false, 0⟩,
   ⟨0x6810, 64, 0x05, 1, 1, .rw, false, 0⟩,
   ⟨0x6810, 64, 0x06, 1, 1, .ro, false, 0⟩,
   ⟨0x6810, 64, 0x07, 1, 4, .ro, false, 0⟩,
   ⟨0x6810, 64, 0x08, 1, 4, .ro, false, 0⟩,
   ⟨0x6810, 64, 0x09, 1, 4, .rc, false, 0⟩,
   ⟨0x6801, 1, 0x01, 1, 2, .ro, false, 0⟩,
   ⟨0x6801, 1, 0x02, 1, 1, .rw, true, 8⟩,
   ⟨0x6801, 1, 0x03, 1, 8, .rc, false, 0⟩,
   ⟨0x6801, 1, 0x04, 1, 8, .rc, false, 0⟩,
   ⟨0x6801, 1, 0x05, 1, 8, .rc, false, 0⟩,
   ⟨0x6801, 1, 0x06, 1, 1, .rw, false, 0⟩,
   ⟨0x6801, 1, 0x07, 1, 2, .ro, false, 0⟩,
   ⟨0x6801, 1, 0x08, 1, 2, .ro, false, 0⟩,
   ⟨0x6801, 1, 0x09, 1, 1, .ro, false, 0⟩,
   ⟨0x6801, 1, 0x0A, 1, 1, .ro, false, 64⟩,
   ⟨0x6860, 8, 0x01, 255, 4, .rw, false, 0⟩]

/-- Entries of spec/08_streams.md. -/
def dictStreams : List DRow :=
  [⟨0x5010, 8, 0x01, 1, 1, .rw, false, 20⟩,
   ⟨0x5010, 8, 0x02, 1, 1, .rw, false, 8⟩,
   ⟨0x5010, 8, 0x03, 1, 1, .rw, false, 4⟩,
   ⟨0x5010, 8, 0x04, 1, 1, .rw, false, 1⟩,
   ⟨0x5010, 8, 0x05, 1, 2, .ro, false, 0⟩,
   ⟨0x5001, 1, 0x01, 1, 2, .ro, false, 0⟩,
   ⟨0x5001, 1, 0x02, 1, 2, .ro, false, 0⟩,
   ⟨0x5001, 1, 0x03, 1, 8, .rc, false, 0⟩,
   ⟨0x5001, 1, 0x04, 1, 8, .rc, false, 0⟩,
   ⟨0x5001, 1, 0x05, 1, 8, .rc, false, 0⟩,
   ⟨0x5001, 1, 0x06, 1, 8, .rc, false, 0⟩,
   ⟨0x5001, 1, 0x07, 1, 8, .rc, false, 0⟩]

/-- Entries of spec/09_crosswind_fabric.md. -/
def dictCrosswindFabric : List DRow :=
  [⟨0x7001, 1, 0x01, 1, 2, .rw, true, 65535⟩,
   ⟨0x7001, 1, 0x02, 1, 2, .ro, false, 0⟩,
   ⟨0x7001, 1, 0x03, 1, 4, .rw, false, 100⟩,
   ⟨0x7001, 1, 0x04, 1, 2, .rw, true, 640⟩,
   ⟨0x7001, 1, 0x05, 1, 8, .ro, false, 0⟩,
   ⟨0x7001, 1, 0x06, 1, 8, .rc, false, 0⟩,
   ⟨0x7001, 1, 0x07, 1, 8, .rc, false, 0⟩,
   ⟨0x7001, 1, 0x08, 1, 8, .rc, false, 0⟩,
   ⟨0x7001, 1, 0x09, 1, 8, .rc, false, 0⟩,
   ⟨0x7001, 1, 0x0A, 1, 1, .ro, false, 255⟩,
   ⟨0x7001, 1, 0x0B, 1, 1, .ro, false, 0⟩,
   ⟨0x7010, 16, 0x01, 1, 1, .ro, false, 255⟩,
   ⟨0x7010, 16, 0x02, 1, 1, .ro, false, 0⟩,
   ⟨0x7010, 16, 0x03, 1, 2, .ro, false, 65535⟩,
   ⟨0x7010, 16, 0x04, 1, 1, .ro, false, 255⟩,
   ⟨0x7010, 16, 0x05, 1, 1, .rw, false, 0⟩,
   ⟨0x7010, 16, 0x06, 1, 8, .rc, false, 0⟩,
   ⟨0x7010, 16, 0x07, 1, 4, .rc, false, 0⟩,
   ⟨0x7010, 16, 0x08, 1, 4, .rc, false, 0⟩,
   ⟨0x7020, 8, 0x01, 1, 1, .ro, false, 0⟩,
   ⟨0x7020, 8, 0x02, 1, 1, .rw, false, 0⟩,
   ⟨0x7020, 8, 0x03, 1, 4, .ro, false, 0⟩,
   ⟨0x7020, 8, 0x04, 1, 1, .rw, false, 24⟩,
   ⟨0x7040, 64, 0x01, 1, 4, .ro, false, 0⟩] ++
  [⟨0x7040, 64, 0x02, 1, 2, .ro, false, 0⟩,
   ⟨0x7040, 64, 0x03, 1, 1, .ro, false, 0⟩]

/-- Entries of spec/10_collectives.md. -/
def dictCollectives : List DRow :=
  [⟨0x7002, 1, 0x01, 1, 2, .ro, false, 0⟩,
   ⟨0x7002, 1, 0x02, 1, 2, .ro, false, 0⟩,
   ⟨0x7002, 1, 0x03, 1, 8, .rc, false, 0⟩,
   ⟨0x7002, 1, 0x04, 1, 8, .rc, false, 0⟩,
   ⟨0x7002, 1, 0x05, 1, 8, .rc, false, 0⟩,
   ⟨0x7002, 1, 0x06, 1, 8, .rc, false, 0⟩]

/-- Entries of spec/11_update_engine.md. -/
def dictUpdateEngine : List DRow :=
  [⟨0x7810, 8, 0x01, 1, 1, .rw, false, 1⟩,
   ⟨0x7810, 8, 0x02, 1, 4, .rw, false, 0x3f800000⟩,
   ⟨0x7810, 8, 0x03, 1, 4, .rw, false, 0x3f000000⟩,
   ⟨0x7810, 8, 0x04, 1, 4, .rw, false, 0x399d4952⟩,
   ⟨0x7810, 8, 0x05, 1, 4, .rw, false, 0x37fba882⟩,
   ⟨0x7810, 8, 0x06, 1, 4, .rw, false, 2000⟩,
   ⟨0x7810, 8, 0x07, 1, 4, .rw, false, 0x186a0⟩,
   ⟨0x7810, 8, 0x08, 1, 1, .rw, false, 2⟩,
   ⟨0x7810, 8, 0x09, 1, 4, .rw, false, 0x3f666666⟩,
   ⟨0x7810, 8, 0x0A, 1, 4, .rw, false, 0x3f733333⟩,
   ⟨0x7810, 8, 0x0B, 1, 4, .rw, false, 0x322bcc77⟩,
   ⟨0x7810, 8, 0x0C, 1, 4, .rw, false, 0x3dcccccd⟩,
   ⟨0x7810, 8, 0x0D, 1, 4, .rw, false, 0⟩,
   ⟨0x7810, 8, 0x0E, 1, 4, .rw, false, 0x38a40⟩,
   ⟨0x7810, 8, 0x0F, 1, 4, .rw, false, 0⟩,
   ⟨0x7810, 8, 0x10, 1, 4, .rw, false, 0⟩,
   ⟨0x7810, 8, 0x11, 1, 1, .rw, false, 0⟩,
   ⟨0x7810, 8, 0x12, 1, 8, .rw, false, 1⟩,
   ⟨0x7810, 8, 0x13, 1, 4, .rw, false, 0⟩,
   ⟨0x7810, 8, 0x14, 1, 4, .ro, false, 0⟩,
   ⟨0x7810, 8, 0x15, 1, 4, .ro, false, 0⟩,
   ⟨0x7810, 8, 0x16, 1, 1, .ro, false, 0⟩,
   ⟨0x7810, 8, 0x17, 1, 4, .ro, false, 0⟩,
   ⟨0x7810, 8, 0x18, 1, 16, .ro, false, 0⟩] ++
  [⟨0x7810, 8, 0x19, 1, 8, .rc, false, 0⟩,
   ⟨0x7810, 8, 0x1A, 1, 8, .rc, false, 0⟩,
   ⟨0x7810, 8, 0x1B, 1, 8, .rc, false, 0⟩,
   ⟨0x7810, 8, 0x1C, 1, 2, .ro, false, 0⟩]

/-- Entries of spec/12_checkpoint_elasticity.md. -/
def dictCheckpointElasticity : List DRow :=
  [⟨0x8010, 8, 0x01, 1, 4, .rw, false, 0⟩,
   ⟨0x8010, 8, 0x02, 1, 4, .rw, false, 3600⟩,
   ⟨0x8010, 8, 0x03, 1, 4, .rw, false, 0⟩,
   ⟨0x8010, 8, 0x04, 1, 4, .rw, false, 0⟩,
   ⟨0x8010, 8, 0x05, 1, 8, .rw, false, 0⟩,
   ⟨0x8010, 8, 0x06, 1, 4, .rw, false, 2000⟩,
   ⟨0x8010, 8, 0x07, 1, 2, .rw, false, 8⟩,
   ⟨0x8010, 8, 0x08, 1, 2, .rw, false, 20⟩,
   ⟨0x8010, 8, 0x09, 1, 4, .rw, false, 0⟩,
   ⟨0x8010, 8, 0x0A, 1, 1, .rw, false, 0⟩,
   ⟨0x8010, 8, 0x0B, 1, 1, .wo, false, 0⟩,
   ⟨0x8010, 8, 0x0C, 1, 8, .rw, false, 0⟩,
   ⟨0x8010, 8, 0x0D, 1, 1, .wo, false, 0⟩,
   ⟨0x8010, 8, 0x0E, 1, 1, .ro, false, 0⟩,
   ⟨0x8010, 8, 0x0F, 1, 4, .ro, false, 0⟩,
   ⟨0x8010, 8, 0x10, 1, 8, .ro, false, 0⟩,
   ⟨0x8010, 8, 0x11, 1, 8, .rc, false, 0⟩,
   ⟨0x8010, 8, 0x12, 1, 2, .ro, false, 0⟩,
   ⟨0x8010, 8, 0x13, 1, 8, .rc, false, 0⟩,
   ⟨0x8010, 8, 0x14, 1, 4, .rc, false, 0⟩,
   ⟨0x8010, 8, 0x15, 1, 2, .ro, false, 0⟩]

/-- Entries of spec/13_partitions_confidential.md. -/
def dictPartitionsConfidential : List DRow :=
  [⟨0x3001, 1, 0x01, 1, 4, .ro, false, 0⟩,
   ⟨0x3001, 1, 0x02, 1, 4, .rw, true, 600⟩,
   ⟨0x3001, 1, 0x03, 1, 4, .rc, false, 0⟩,
   ⟨0x3010, 8, 0x01, 1, 4, .rw, false, 0⟩,
   ⟨0x3010, 8, 0x02, 1, 2, .rw, false, 0⟩,
   ⟨0x3010, 8, 0x03, 1, 2, .rw, false, 0⟩,
   ⟨0x3010, 8, 0x04, 1, 2, .rw, false, 0⟩,
   ⟨0x3010, 8, 0x05, 1, 4, .rw, false, 0⟩,
   ⟨0x3010, 8, 0x06, 1, 1, .rw, false, 0⟩,
   ⟨0x3010, 8, 0x07, 1, 1, .ro, false, 0⟩,
   ⟨0x3010, 8, 0x08, 1, 4, .ro, false, 1⟩,
   ⟨0x3010, 8, 0x09, 1, 1, .wo, false, 0⟩,
   ⟨0x3010, 8, 0x0A, 1, 1, .wo, true, 0⟩,
   ⟨0x3010, 8, 0x0B, 1, 48, .ro, false, 0⟩,
   ⟨0x3010, 8, 0x0C, 1, 4, .ro, false, 0⟩,
   ⟨0x3010, 8, 0x0D, 1, 1, .ro, false, 0⟩,
   ⟨0x3010, 8, 0x0E, 1, 2, .ro, false, 0⟩]

/-- Entries of spec/14_security_complex.md. -/
def dictSecurityComplex : List DRow :=
  [⟨0x9001, 1, 0x01, 1, 1, .ro, false, 4⟩,
   ⟨0x9001, 1, 0x02, 1, 1, .rw, true, 0⟩,
   ⟨0x9001, 1, 0x03, 1, 16, .wo, true, 0⟩,
   ⟨0x9001, 1, 0x04, 1, 1, .rw, true, 0⟩,
   ⟨0x9001, 1, 0x05, 1, 2, .ro, false, 0⟩,
   ⟨0x9001, 1, 0x06, 1, 1, .ro, false, 0⟩,
   ⟨0x9001, 1, 0x07, 1, 2, .ro, false, 0⟩,
   ⟨0x9001, 1, 0x08, 1, 2, .ro, false, 65535⟩,
   ⟨0x9001, 1, 0x09, 1, 1, .ro, false, 0⟩,
   ⟨0x9001, 1, 0x0A, 1, 1, .ro, false, 0⟩,
   ⟨0x9001, 1, 0x0B, 1, 2, .ro, false, 0⟩,
   ⟨0x9001, 1, 0x0C, 1, 2, .ro, false, 1024⟩,
   ⟨0x9001, 1, 0x0D, 1, 288, .ro, false, 0⟩,
   ⟨0x9001, 1, 0x0E, 1, 48, .ro, false, 0⟩,
   ⟨0x9001, 1, 0x0F, 1, 2, .ro, false, 0⟩,
   ⟨0x9010, 9, 0x01, 1, 2, .ro, false, 1⟩,
   ⟨0x9010, 9, 0x02, 1, 1, .wo, true, 0⟩]

/-- Entries of spec/15_host_objects.md. -/
def dictHostObjects : List DRow :=
  [⟨0x8801, 1, 0x01, 1, 2, .ro, false, 0⟩,
   ⟨0x8801, 1, 0x02, 1, 8, .rc, false, 0⟩,
   ⟨0x8801, 1, 0x03, 1, 4, .ro, false, 0x100000⟩,
   ⟨0x8801, 1, 0x04, 1, 8, .rc, false, 0⟩,
   ⟨0x8801, 1, 0x05, 1, 8, .rc, false, 0⟩,
   ⟨0x8801, 1, 0x06, 1, 8, .rc, false, 0⟩,
   ⟨0x8801, 1, 0x07, 1, 2, .ro, false, 0⟩,
   ⟨0x8801, 1, 0x08, 1, 4, .ro, false, 1⟩]

/-- Entries of spec/16_object_dictionary.md. -/
def dictObjectDictionary : List DRow :=
  [⟨0x9020, 8, 0x01, 1, 112, .wo, false, 0⟩,
   ⟨0x9020, 8, 0x02, 1, 112, .ro, false, 0⟩,
   ⟨0x9020, 8, 0x03, 1, 1, .rw, false, 0⟩,
   ⟨0xA001, 1, 0x01, 1, 4, .ro, false, 0⟩,
   ⟨0xA001, 1, 0x02, 1, 4, .ro, false, 0⟩,
   ⟨0xA001, 1, 0x03, 1, 4, .rw, false, 0⟩,
   ⟨0xA001, 1, 0x04, 1, 32, .ro, false, 0⟩,
   ⟨0xA001, 1, 0x05, 1, 1, .rw, false, 3⟩,
   ⟨0xA001, 1, 0x06, 1, 8, .rc, false, 0⟩,
   ⟨0xA001, 1, 0x07, 1, 4, .rc, false, 0⟩,
   ⟨0x1070, 1, 0x01, 1, 4, .ro, false, 2000⟩,
   ⟨0x1070, 1, 0x02, 1, 4, .rw, true, 1000⟩,
   ⟨0x1070, 1, 0x03, 1, 4, .ro, false, 1000⟩,
   ⟨0x1070, 1, 0x04, 1, 4, .rw, false, 1000⟩,
   ⟨0x1070, 1, 0x05, 1, 4, .rw, false, 500⟩,
   ⟨0x1070, 1, 0x06, 1, 4, .ro, false, 50⟩,
   ⟨0x1070, 1, 0x07, 1, 4, .ro, false, 20⟩,
   ⟨0x1070, 1, 0x08, 1, 4, .rw, true, 60⟩,
   ⟨0x1000, 1, 0x00, 1, 4, .ro, false, 0⟩,
   ⟨0x1001, 1, 0x00, 1, 1, .ro, false, 0⟩,
   ⟨0x1017, 1, 0x00, 1, 2, .rw, false, 100⟩,
   ⟨0x1018, 1, 0x01, 1, 4, .ro, false, 2878⟩,
   ⟨0x1018, 1, 0x02, 1, 4, .ro, false, 38400⟩,
   ⟨0x1018, 1, 0x03, 1, 4, .ro, false, 0⟩] ++
  [⟨0x1018, 1, 0x04, 1, 4, .ro, false, 0⟩,
   ⟨0x1020, 1, 0x01, 1, 128, .ro, false, 0⟩,
   ⟨0x1030, 17, 0x01, 1, 2, .ro, false, 0⟩,
   ⟨0x1030, 17, 0x02, 1, 2, .ro, false, 0⟩,
   ⟨0x1030, 17, 0x03, 1, 2, .ro, false, 0⟩,
   ⟨0x1030, 17, 0x04, 1, 1, .wo, false, 0⟩,
   ⟨0x1030, 17, 0x05, 1, 4, .rc, false, 0⟩,
   ⟨0x1050, 1, 0x01, 127, 2, .ro, false, 0⟩,
   ⟨0x1050, 1, 0x80, 1, 2, .ro, false, 0⟩,
   ⟨0x1060, 1, 0x01, 1, 2, .ro, false, 0⟩,
   ⟨0x1060, 1, 0x02, 1, 2, .rw, true, 8190⟩,
   ⟨0x1060, 1, 0x03, 1, 1, .ro, false, 0⟩,
   ⟨0x1060, 1, 0x04, 1, 1, .ro, false, 127⟩,
   ⟨0x1060, 1, 0x05, 1, 1, .rw, false, 0⟩,
   ⟨0x1060, 1, 0x06, 1, 1, .ro, false, 0⟩,
   ⟨0x1060, 1, 0x07, 1, 2, .ro, false, 0⟩,
   ⟨0x1060, 1, 0x08, 1, 1, .rw, true, 0⟩,
   ⟨0x1F10, 1, 0x01, 1, 4, .wo, false, 0⟩,
   ⟨0x1F10, 1, 0x02, 1, 1, .ro, false, 0⟩,
   ⟨0x1F20, 1, 0x01, 1, 4096, .wo, false, 0⟩,
   ⟨0x1F20, 1, 0x02, 1, 4096, .ro, false, 0⟩,
   ⟨0x1F20, 1, 0x03, 1, 1, .ro, false, 0⟩]

/-- Entries of spec/17_power_bringup_test.md. -/
def dictPowerBringupTest : List DRow :=
  [⟨0x2020, 1, 0x01, 1, 4, .ro, false, 0⟩,
   ⟨0x2020, 1, 0x02, 1, 4, .ro, false, 0⟩,
   ⟨0x2020, 1, 0x03, 1, 4, .rw, false, 1600⟩,
   ⟨0x2020, 1, 0x04, 1, 1, .rw, true, 50⟩,
   ⟨0x2020, 1, 0x05, 1, 8, .rc, false, 0⟩,
   ⟨0x2020, 1, 0x06, 1, 8, .rc, false, 0⟩,
   ⟨0x2020, 1, 0x07, 1, 1, .wo, false, 0⟩,
   ⟨0x2020, 1, 0x08, 1, 1, .wo, false, 0⟩,
   ⟨0x2020, 1, 0x09, 1, 1, .wo, true, 0⟩,
   ⟨0x2020, 1, 0x0A, 1, 4, .ro, false, 0⟩,
   ⟨0x2020, 1, 0x0B, 1, 2, .ro, false, 0⟩,
   ⟨0x2030, 1, 0x01, 1, 4, .ro, false, 0⟩,
   ⟨0x2030, 1, 0x02, 1, 4, .ro, false, 0⟩,
   ⟨0x2030, 1, 0x03, 1, 1, .ro, false, 0⟩,
   ⟨0x2030, 1, 0x04, 1, 4, .rc, false, 0⟩,
   ⟨0x2040, 8, 0x01, 1, 2, .rw, false, 1500⟩,
   ⟨0x2040, 8, 0x02, 1, 2, .ro, false, 1500⟩,
   ⟨0x2040, 8, 0x03, 1, 2, .ro, false, 750⟩,
   ⟨0xA801, 1, 0x01, 1, 1, .rw, false, 0⟩,
   ⟨0xA801, 1, 0x02, 1, 2, .rw, false, 0⟩,
   ⟨0xA801, 1, 0x03, 1, 1, .rw, false, 0⟩,
   ⟨0xA801, 1, 0x04, 1, 1, .rw, false, 0⟩,
   ⟨0xA801, 1, 0x05, 1, 1, .ro, false, 0⟩,
   ⟨0xA801, 1, 0x06, 1, 4, .ro, false, 0⟩] ++
  [⟨0xA801, 1, 0x07, 1, 1, .ro, false, 0⟩,
   ⟨0xA801, 1, 0x08, 1, 4, .rw, false, 86400⟩,
   ⟨0xA801, 1, 0x09, 1, 2, .ro, false, 0⟩]

/-- Entries of spec/18_firmware_flash.md. -/
def dictFirmwareFlash : List DRow :=
  [⟨0x9801, 1, 0x01, 1, 1, .rw, true, 0⟩,
   ⟨0x9801, 1, 0x02, 1, 1, .rw, true, 0⟩,
   ⟨0x9801, 1, 0x03, 1, 4, .rw, true, 0⟩,
   ⟨0x9801, 1, 0x04, 1, 1, .rw, true, 0⟩,
   ⟨0x9801, 1, 0x05, 1, 4, .rw, true, 0⟩,
   ⟨0x9801, 1, 0x06, 1, 4096, .wo, true, 0⟩,
   ⟨0x9801, 1, 0x07, 1, 1, .wo, true, 0⟩,
   ⟨0x9801, 1, 0x08, 1, 1, .ro, false, 0⟩,
   ⟨0x9802, 1, 0x01, 1, 1, .ro, false, 0⟩,
   ⟨0x9802, 1, 0x02, 1, 1, .wo, true, 0⟩,
   ⟨0x9802, 1, 0x03, 1, 1, .wo, true, 0⟩,
   ⟨0x9802, 1, 0x04, 1, 2, .ro, false, 0⟩,
   ⟨0x9802, 1, 0x05, 1, 1, .ro, false, 0⟩,
   ⟨0x9802, 1, 0x06, 1, 2, .ro, false, 63⟩,
   ⟨0x9802, 1, 0x07, 1, 2, .ro, false, 0⟩,
   ⟨0x9803, 1, 0x01, 1, 2, .ro, false, 256⟩,
   ⟨0x9803, 1, 0x02, 1, 4, .rc, false, 0⟩,
   ⟨0x9803, 1, 0x03, 1, 4, .rc, false, 0⟩,
   ⟨0x9803, 1, 0x04, 1, 2, .ro, false, 0⟩,
   ⟨0x9803, 1, 0x05, 1, 2, .rw, false, 0⟩,
   ⟨0x9803, 1, 0x06, 1, 4, .ro, false, 0⟩,
   ⟨0x9803, 1, 0x07, 1, 1, .ro, false, 0⟩]

/-- The whole dictionary. -/
def dictTable : List DRow :=
  dictGustTiming ++ dictMatrixArray ++ dictVectorFunctions ++ dictStochasticSampling ++ dictMemoryTiers ++ dictInlineEncryption ++ dictStreams ++ dictCrosswindFabric ++ dictCollectives ++ dictUpdateEngine ++ dictCheckpointElasticity ++ dictPartitionsConfidential ++ dictSecurityComplex ++ dictHostObjects ++ dictObjectDictionary ++ dictPowerBringupTest ++ dictFirmwareFlash

/-- Whether the row lists the sub-index of the index. -/
def DRow.lists (r : DRow) (index sub : Nat) : Bool :=
  r.index.ble index && Nat.blt index (r.index + r.count) && r.sub.ble sub && Nat.blt sub (r.sub + r.subs)

/-- The rows of one block of 0x800 indices (R407). -/
def dictBlock (b : Nat) : List DRow :=
  match b with
  | 4 => dictGustTiming ++ dictPowerBringupTest
  | 6 => dictPartitionsConfidential
  | 8 => dictMatrixArray ++ dictVectorFunctions
  | 9 => dictStochasticSampling
  | 10 => dictStreams
  | 11 => dictMemoryTiers
  | 12 => dictMemoryTiers
  | 13 => dictInlineEncryption
  | 14 => dictCrosswindFabric ++ dictCollectives
  | 15 => dictUpdateEngine
  | 16 => dictCheckpointElasticity
  | 17 => dictHostObjects
  | 18 => dictSecurityComplex ++ dictObjectDictionary
  | 19 => dictFirmwareFlash
  | 21 => dictPowerBringupTest
  | _ => dictObjectDictionary

/-- The row of an entry, where the dictionary lists it. -/
def dictRow (index sub : Nat) : Option DRow := (dictBlock (index / 0x800)).find? (fun r => r.lists index sub)

/-- Whether an index exists (R407). -/
def indexExists (index : Nat) : Bool :=
  dictTable.any (fun r => decide (r.index ≤ index) && decide (index < r.index + r.count))

/-- The highest sub-index of a record (R408). -/
def highestSub (index : Nat) : Nat :=
  dictTable.foldl (fun m r => if r.index ≤ index ∧ index < r.index + r.count
    then max m (r.sub + r.subs - 1) else m) 0

/-- The width of an entry in bits. -/
def keyBits (k : Nat) : Nat :=
  match dictRow (k / 256) (k % 256) with
  | some r => 8 * r.bytes
  | none => 0

/-- The reset value of an entry. -/
def keyReset (k : Nat) : Nat :=
  match dictRow (k / 256) (k % 256) with
  | some r => r.reset
  | none => 0

end Sys2Proof.Machine
end

