-- ==== Sys2Proof/Machine/Drbg.lean ====
section
/-! DEFINITION. The CTR_DRBG with AES-256 and the derivation function (R4, R366), as SP 800-90A
lays it down. -/

namespace Sys2Proof.Machine

/-- The working state of the CTR_DRBG. -/
structure DrbgState where
  key     : List Byte
  v       : List Byte
  /-- Generate requests since the last reseed (R366). -/
  counter : Nat
  deriving DecidableEq, Repr

/-- The 128-bit counter plus one. -/
def incBlock (v : List Byte) : List Byte := beBytes 16 ((ofBe v + 1) % 2 ^ 128)

/-- `n` output blocks under a schedule, with the counter they end on. -/
def drbgBlocks (sched : List Nat) : Nat → List Byte → List Byte × List Byte
  | 0, v => ([], v)
  | n + 1, v =>
    let v' := incBlock v
    let r := drbgBlocks sched n v'
    (aesBlock sched v' ++ r.1, r.2)

/-- The update function, on 48 bytes of provided data. -/
def drbgUpdate (d : DrbgState) (data : List Byte) : DrbgState :=
  let t := xorBytes (drbgBlocks (aesSchedule d.key) 3 d.v).1 (padTo 48 0 data)
  { d with key := t.take 32, v := t.drop 32 }

/-- Chained encryption of the blocks. -/
def drbgBcc (sched : List Nat) (blocks : List (List Byte)) : List Byte :=
  blocks.foldl (fun c b => aesBlock sched (xorBytes c b)) (List.replicate 16 0)

/-- `n` chained blocks of the derivation function's output. -/
def drbgDfOut (sched : List Nat) : Nat → List Byte → List Byte
  | 0, _ => []
  | n + 1, x =>
    let y := aesBlock sched x
    y ++ drbgDfOut sched n y

/-- The block-cipher derivation function, 48 bytes. -/
def drbgDf (input : List Byte) : List Byte :=
  let s0 := beBytes 4 input.length ++ beBytes 4 48 ++ input ++ [0x80#8]
  let s := s0 ++ List.replicate ((16 - s0.length % 16) % 16) 0
  let sched := aesSchedule ((List.range 32).map (BitVec.ofNat 8))
  let temp := (List.range 3).flatMap
    (fun i => drbgBcc sched (chunksOf 16 (s.length + 2) (beBytes 4 i ++ List.replicate 12 0 ++ s)))
  drbgDfOut (aesSchedule (temp.take 32)) 3 ((temp.drop 32).take 16)

/-- Instantiation from entropy input. -/
def drbgInstantiate (entropy : List Byte) : DrbgState :=
  let d := drbgUpdate ⟨List.replicate 32 0, List.replicate 16 0, 1⟩ (drbgDf entropy)
  { d with counter := 1 }

/-- Reseeding from entropy input (R366). -/
def drbgReseed (d : DrbgState) (entropy : List Byte) : DrbgState :=
  { drbgUpdate d (drbgDf entropy) with counter := 1 }

/-- One generate request for `n` bytes. -/
def drbgGenerate (d : DrbgState) (n : Nat) : List Byte × DrbgState :=
  let r := drbgBlocks (aesSchedule d.key) (ceilDiv n 16) d.v
  (r.1.take n, { drbgUpdate { d with v := r.2 } (List.replicate 48 0) with counter := d.counter + 1 })

end Sys2Proof.Machine
end

