-- ==== Sys2Proof/Machine/State.lean ====
section
/-! DEFINITION. The state of the module: plain data, holding everything the spec gives it. The
registers of the object dictionary stand in `State.dict` by key (Machine/Keys.lean), only those that
differ from their reset values being listed; the rest stands in the structures below. -/

namespace Sys2Proof.Machine

/-- A table by number: pairs with rising numbers. -/
abbrev Tab (α : Type) := List (Nat × α)

/-- A byte memory: cells with rising addresses, none equal to what an unlisted address reads as. -/
abbrev Mem := List Host.Cell

/-! ### Dictionary -/

/-- A held lock (R418): the index it guards, its owner's code, when it was taken, when its lease ends, and
the epoch (of partition `scope`, or 8 for the device) it is stamped with. -/
structure Lock where
  group    : Nat
  owner    : Nat
  since    : Nat
  leaseEnd : Nat
  scope    : Nat
  epoch    : Nat
  deriving DecidableEq, Repr

/-- The BAR2 mailbox (R422). -/
structure Mailbox where
  index  : Nat
  sub    : Nat
  write  : Bool
  len    : Nat
  reason : Nat
  busy   : Bool
  done   : Bool
  epoch  : Nat
  data   : Mem
  deriving DecidableEq, Repr

/-- A function's partition view (R381), with the host's copy of R347. -/
structure View where
  state  : Nat
  gen    : Nat
  err    : Bool
  reason : Nat
  offset : Nat
  deriving DecidableEq, Repr

/-- What the host got of its last access to a BAR: nothing yet, the bytes of a read, or an Unsupported
Request (R382). -/
inductive Completion where
  | none
  | data (l : List Byte)
  | unsupported
  deriving DecidableEq, Repr

/-! ### Power -/

/-- The module as a whole (R440 to R446, R477). -/
inductive PowerMode where
  | off
  | running
  | doldrums
  | bootFailed
  deriving DecidableEq, Repr

/-- Supplies, resets and clocks. -/
structure Power where
  mode       : PowerMode
  /-- PERST# asserted; the host's reference clock was present at its release (R485). -/
  perst      : Bool
  refclk     : Bool
  /-- The slot pins have been read since PWR_GOOD rose (R424). -/
  slotRead   : Bool
  /-- Bit g: cluster group g is collapsed or not yet powered. -/
  cgDown     : Nat
  /-- Bit g: a collapse of the group is under way; clusters whose boot test failed. -/
  cgColl     : Nat
  failed     : List Nat
  /-- The squall in progress: when it began, and when its triggers were last found clear. -/
  squall     : Option (Nat × Option Nat)
  /-- Bit p: a squall occurred in the running gust of partition p. -/
  squalled   : Nat
  /-- The last time each boundary-throttle condition of R447 held. -/
  lastHot    : Nat
  /-- Die trip in force (R450). -/
  tripped    : Bool
  /-- The conditions of R447 that the last sample met, as THROTTLE_REASON numbers them; memory in T2 and
  squalls are added at each boundary (R449). -/
  conditions : Nat
  /-- Input voltage below 40 V (bit 0) or above 60 V (bit 1) at the last sample. -/
  alarms     : Nat
  deriving DecidableEq, Repr

/-! ### Run-time objects (R385) -/

/-- A fence (R18, R19, R396). -/
structure Fence where
  handle     : Nat
  creator    : Nat
  dying      : Bool
  value      : Nat
  err        : Bool
  remote     : Bool
  poison     : Bool
  reason     : Nat
  irqValue   : Nat
  vector     : Nat
  irqOnErr   : Bool
  hostSignal : Bool
  valueFired : Bool
  errFired   : Bool
  deriving DecidableEq, Repr

/-- A memory object (R397) with its mapped pages: page index and target. -/
structure MemObj where
  handle  : Nat
  creator : Nat
  dying   : Bool
  big     : Bool
  shard   : Bool
  base    : Nat
  size    : Nat
  pages   : Tab Nat
  deriving DecidableEq, Repr

/-- A context (R386), with the context whose command made it: 0 for the job services, 0xFFFFFFFF once
that one has dropped its reference (R387). -/
structure Ctx where
  handle    : Nat
  creator   : Nat
  dying     : Bool
  submitted : Bool
  jobId     : Nat
  capGen    : Nat
  jobFence  : Nat
  deriving DecidableEq, Repr

/-- A copy engine (R386), with the copy it runs: the queue whose command waits for it (0 for the job
services), that command, and the first reason it met. -/
structure Channel where
  handle  : Nat
  creator : Nat
  dying   : Bool
  busy    : Option (Handle × Instr)
  reason  : Nat
  deriving DecidableEq, Repr

/-- A queue (R388). `waiting` is the entry that waits for a fence (R391). -/
structure Queue where
  handle    : Nat
  creator   : Nat
  dying     : Bool
  shard     : Bool
  error     : Bool
  sizeLog2  : Nat
  fence     : Nat
  ringVa    : Nat
  head      : Nat
  tail      : Nat
  errReason : Nat
  waiting   : Option Instr
  deriving DecidableEq, Repr

/-- A stream (R209). -/
structure Stream where
  handle   : Nat
  creator  : Nat
  cluster  : Nat
  context  : Nat
  ring     : Bool
  state    : Nat
  ringLen  : Nat
  fence    : Nat
  memobj   : Nat
  base     : Nat
  ringAddr : Nat
  armGust  : Nat
  deriving DecidableEq, Repr

/-- A collective group (R266): its 64-byte record as created, and its state. -/
structure Group where
  handle  : Nat
  creator : Nat
  state   : Nat
  record  : Nat
  /-- The module of each rank, as the member table named them. -/
  mids    : List Nat
  /-- It was destroyed while an entry of it ran (R283). -/
  cut     : Bool
  deriving DecidableEq, Repr

/-- All run-time objects; the generation of each table slot, keyed by type, scope and index. -/
structure Objects where
  fences   : List Fence
  memobjs  : List MemObj
  contexts : List Ctx
  queues   : List Queue
  streams  : List Stream
  groups   : List Group
  channels : List Channel
  gens     : Tab Nat
  /-- MAP and UNMAP commands that wait for a start boundary (R399), in order. -/
  deferred : List Instr
  deriving DecidableEq, Repr

/-! ### Memory -/

/-- The memories: local lines of both tiers and cell stores by local address, line metadata by where the channels
hold it (R162, R168), cell-line poison, flash, and host memory as the module's DMA sees it. -/
structure Memories where
  ram        : Mem
  metadata   : Mem
  cellPoison : Mem
  flash      : Mem
  host       : Mem
  /-- Symbols of a line that are wrong as stored, by the line's metadata address (R163). -/
  wrong      : Tab (List (Fin 72 × Byte))
  /-- What the last scrub of a unit left in every line not written since: its key and epoch (R202). -/
  scrubbed   : Tab (List Byte × Nat)
  deriving DecidableEq, Repr

/-- The calm-window work of a channel in one window: the window's start, until when the channel is busy, and
the rows repaired (R175, R177). -/
structure CalmUse where
  start   : Nat
  until_  : Nat
  repairs : Nat
  deriving DecidableEq, Repr

/-- The tier controllers (R161 to R182). Units are numbered 0 to 15 for stacks, 16 to 31 for far
groups; channels 0 to 1,023 near, 1,024 and up far; what has a temperature 0 to 15 for stacks, 16 to 47 for
packages. -/
structure Tier where
  /-- Corrections per line since boot (R177), by the line's metadata address. -/
  corrections : Tab Nat
  /-- Rows queued for repair: channel and row. -/
  repairs     : List (Nat × Nat)
  /-- Rows that no spare was left for. -/
  unrepaired  : List (Nat × Nat)
  /-- Rows that a spare row serves: channel and row. -/
  spares      : List (Nat × Nat)
  /-- Fenced channels (R179). -/
  fenced      : List Nat
  /-- Uncorrectable rows with their times (R179): channel, row, time. -/
  ueRows      : List (Nat × Nat × Nat)
  /-- Times at which a stack or package last read above 93.0 and above 83.0 degrees (R172). -/
  above93     : Tab Nat
  above83     : Tab Nat
  /-- Units that have left service or never became ready. -/
  outOfService : List Nat
  /-- The band of each package (R171). -/
  pkgBand     : Tab Nat
  /-- The refresh multiplier that each package's MR4 holds, and the one last read from it (R172). -/
  mr4Held     : Tab Nat
  mr4Read     : Tab Nat
  /-- When each far channel last ran its two timed calibration tasks, and those already counted as overdue
  (R175). -/
  calDone     : Tab Nat
  calLate     : List Nat
  /-- What each channel has done in its last calm window. -/
  calmUse     : Tab CalmUse
  deriving DecidableEq, Repr

/-- The encryption engine (R188 to R208). -/
structure Enc where
  scrubKey   : Option (List Byte)
  epochNext  : Nat
  /-- Scrub epoch of each unit that has been scrubbed. -/
  scrubEpoch : Tab Nat
  scrubbing  : List ScrubScope
  /-- Recent tag failures of each range. -/
  failTimes  : Tab (List Nat)
  /-- Key of each lent range, delivered by the borrower (R204). -/
  lentKeys   : Tab (List Byte)
  /-- Ranges that a read has just quarantined: their owners fault once the read's fence has latched (R201). -/
  limitHit   : List Nat
  deriving DecidableEq, Repr

/-! ### Clusters and plans -/

/-- Accumulators held by a cluster's array (R109), row by row, with their poison marks. -/
structure Held where
  rows    : Nat
  cols    : Nat
  op      : Nat
  intPath : Bool
  vals    : List Nat
  poison  : List Bool
  deriving DecidableEq, Repr

/-- A table slot of the special-function unit (R131): slots 0 to 10 hold their built-in functions while
the cluster's group is powered, and only loaded slots are listed. -/
inductive SfuSlot where
  | empty
  | builtIn
  | loaded (table : List Byte) (poison : Bool)
  deriving DecidableEq, Repr

/-- A write of one entry into a cell store: byte address, bytes, and whether they are poisoned. -/
structure CellPut where
  cluster : Nat
  addr    : Nat
  data    : List Byte
  poison  : Bool
  deriving DecidableEq, Repr

/-- A bound plan (R57, R58): what its header fixes. -/
structure Binding where
  part       : Nat
  unitId     : Nat
  kind       : Nat
  widthClass : Nat
  fPlan      : Nat
  endCycle   : Nat
  budgetUs   : Nat
  tempBand   : Nat
  /-- The timed entries of R54, in stored order. -/
  entries    : List Nat
  /-- Takes effect at the next start boundary (R59). -/
  fresh      : Bool
  deriving DecidableEq, Repr

/-- A row of Y forwarded to the collective engine (R275): cluster, row, FP32 patterns, poison. -/
structure TileRow where
  cluster : Nat
  row     : Nat
  vals    : List Nat
  poison  : Bool
  deriving DecidableEq, Repr

/-- What a running entry of the update or the checkpoint engine has still to do (R302, R311): its descriptor and
where it lies, its operation, the commit record it read, the chunk it began at, its chunks done and in all, its
bound in ns, and whether it has raised the events of R298 and R299. -/
structure EngineWork where
  addr      : Nat
  desc      : Nat
  op        : Nat
  rec_      : Nat
  first     : Nat
  done      : Nat
  total     : Nat
  bound     : Nat
  refused   : Bool
  nonfinite : Bool
  deriving DecidableEq, Repr

/-- A plan entry that runs on a unit (R55), with what it leaves when it ends. -/
structure Running where
  part   : Nat
  unitId : Nat
  unit   : Nat
  since  : Nat
  cycles : Nat
  puts   : List CellPut
  held   : Option Held
  /-- With OUT_DEST 2, the rows that go to the collective engine (R106, R275), and their FMT_Y. -/
  tiles  : Option (List TileRow)
  fmtY   : Nat
  /-- Fence to advance when the entry ends; 0 for none. -/
  signal : Nat
  /-- The table slot that a load fills when it ends (R136). -/
  load   : Option (Nat × SfuSlot)
  work   : Option EngineWork
  deriving DecidableEq, Repr

/-- A plan entry that is due but stalled (R55). -/
structure Stalled where
  part   : Nat
  unitId : Nat
  unit   : Nat
  since  : Nat
  entry  : Instr
  deriving DecidableEq, Repr

/-- The gust grid of a partition (R44 to R84). -/
structure Grid where
  /-- The grid runs: GUST_ENABLE was committed and no stop has taken effect. -/
  on        : Bool
  /-- A stop under R51 waits for its point. -/
  stopping  : Bool
  /-- A gust is running; the partition is held after an abort; it is paused. -/
  inGust    : Bool
  held      : Bool
  paused    : Bool
  /-- Domain time of the next grid point. -/
  nextPoint : Nat
  /-- The grid point at which the partition pauses or stops, and at which it resumes. -/
  pauseAt   : Option Nat
  resumeAt  : Option Nat
  /-- A slip notice has been sent or received for the next grid point. -/
  slip      : Bool
  /-- Consecutive slipped boundaries. -/
  slipped   : Nat
  /-- Units that have reached END in this gust. -/
  ended     : List Nat
  /-- Event 0x0102_0017 has been raised in this gust; late cycles have accrued in it. -/
  warned    : Bool
  late      : Bool
  /-- The next step is due at the next boundary; its first late boundary has raised its event. -/
  stepDue   : Bool
  ingest    : Bool
  /-- Domain time of the last boundary, and of the last start boundary. -/
  boundary  : Nat
  started   : Nat
  /-- By unit: how many entries of its plan have issued in this gust, and for how many nanoseconds its plan
  clock has stood still in stalls (R55). -/
  progress  : Tab (Nat × Nat)
  /-- Grid points of this grid at which no gust started (R79). -/
  unstarted : List Nat
  /-- When the calm window began in which transfers were last suspended (R222). -/
  calmSeen  : Nat
  deriving DecidableEq, Repr

/-! ### Streams -/

/-- A request of a transfer that is under way: where its lines come from and go to. -/
structure Flight where
  /-- Ordinal of the request's first line in the transfer. -/
  first : Nat
  count : Nat
  /-- The lines come from another module. -/
  remote : Bool
  deriving DecidableEq, Repr

/-- A transfer that runs on a stream context (R215 to R222). -/
structure Transfer where
  part      : Nat
  cluster   : Nat
  context   : Nat
  stream    : Nat
  fence     : Nat
  desc      : Nat
  /-- Base at issue, and the memory object. -/
  base      : Nat
  memobj    : Nat
  /-- Next line to request, and lines landed. -/
  next      : Nat
  landed    : Nat
  flights   : List Flight
  /-- Lines of shard rows that have arrived and wait for their record's check (R402). -/
  unchecked : List Nat
  /-- Events raised once per transfer (R224, R225). -/
  memOver   : Bool
  cellOver  : Bool
  suspended : Bool
  since     : Nat
  deriving DecidableEq, Repr

/-- A meter of R66: the charge of the current window, and what is carried. -/
structure Meter where
  window : Nat
  charge : Nat
  carry  : Nat
  deriving DecidableEq, Repr

/-- Meters by class: 0 near read, 1 near write, 2 near remote, 3 far read, 4 far write, 5 far
remote, each times 8 plus the partition; per context. -/
structure Meters where
  classes  : Tab Meter
  contexts : Tab Meter
  /-- Ports (R244), each twice its number, plus one for the collective slice. -/
  ports    : Tab Meter
  /-- Lendings (R250), by range entry. -/
  lends    : Tab Meter
  deriving DecidableEq, Repr

/-! ### Crosswind -/

/-- A frame of which flits are still to be replayed (R255): the sequence number of its first flit, the key and
the nonce it is sealed under, its flits as far as they have arrived, its seal flit, and the flits it misses. -/
structure HeldFrame where
  first   : Nat
  key     : List Byte
  nonce   : List Byte
  cipher  : List Byte
  tag     : List Byte
  credits : List CreditReturn
  missing : List Nat
  deriving DecidableEq, Repr

/-- A port (R233 to R262). -/
structure Port where
  step      : Nat
  failed    : Bool
  peer      : Option PeerInfo
  linkKey   : List Byte
  rxGen     : Nat
  txGen     : Nat
  rxFrame   : Nat
  txFrame   : Nat
  rxKey     : List Byte
  txKey     : List Byte
  /-- Frames that have arrived since the port came up; the ones that wait for replayed flits; how often a flit
  that has not arrived whole yet was replayed, by its sequence number. -/
  frames    : Nat
  held      : List HeldFrame
  replayed  : Tab Nat
  delay     : Nat
  echoSent  : Option Nat
  rxFlits   : List Byte
  /-- Packets that wait for the port (R244, R256): header and data, oldest first. -/
  waiting   : List (Nat × List Byte)
  /-- Credits in use at the peer (R256): the shared part of VC 0 to 2, then the reserve of each sub-lane at
  3 + 96 x VC + sub-lane. -/
  used      : Tab Nat
  /-- This module's half of the link key exchange (R253). -/
  ephemeral : List Byte
  deriving DecidableEq, Repr

/-- Beacon following (R74, R75, R259). -/
structure Align where
  inRow     : Nat
  outRow    : Nat
  lastSeen  : Nat
  lastBeacon : Nat
  /-- Candidates for the parent: port and hop count as last heard. -/
  heard     : Tab Nat
  /-- Consecutive beacons that favour another parent (R259). -/
  favour    : Nat
  /-- When the last echoes were sent (R259). -/
  lastEcho  : Nat
  deriving DecidableEq, Repr

/-- What becomes of the answer to a remote request: nothing more, lines of a stream context from an
ordinal on, bytes of a copy (the channel, the virtual address they go to, how many to skip and how many
to take), the acknowledgement of a copy's write, or a line of a PEER_COPY with the virtual address, the
version its source should hold and the version it is written with. -/
inductive Sink where
  | nothing
  | lines (cluster context first count : Nat)
  | bytes (channel va skip n : Nat)
  | ack (channel : Nat)
  | peer (va expect version : Nat)
  deriving DecidableEq, Repr

/-- An outstanding remote request (R245, R248). -/
structure Remote where
  tag    : Nat
  kind   : Nat
  part   : Nat
  fence  : Nat
  since  : Nat
  units  : Nat
  sink   : Sink
  deriving DecidableEq, Repr

/-- A lending made by this module (R250): its range entries' shared terms. -/
structure Lending where
  entry     : Fin 64
  borrower  : Nat
  part      : Nat
  ports     : Nat
  rate      : Nat
  deriving DecidableEq, Repr

/-- A message the module has sent on a port. -/
structure Sent where
  port   : Nat
  header : Nat
  data   : List Byte
  deriving DecidableEq, Repr

/-- A message of the job services to every member of a job (R320): a liveness report, or a lost set. -/
structure JobMsg where
  part : Nat
  lost : Option (List Nat)
  deriving DecidableEq, Repr

/-- A request from Crosswind that waits for its slice (R66, R250): the port it came in on, its header and data. -/
structure Arrival where
  port   : Nat
  header : Nat
  data   : List Byte
  deriving DecidableEq, Repr

/-- The answer to a lending request (R250): where it goes, the reason that refused it or 0, and the global base
address of each range lent. -/
structure LendAnswer where
  port   : Nat
  module : Nat
  part   : Nat
  reason : Nat
  bases  : List Nat
  deriving DecidableEq, Repr

/-- The fabric controller. -/
structure Fabric where
  ports    : Tab Port
  align    : Align
  /-- Forwarding tables of R238, staged, committed, and accepted for the next start boundary, by
  partition times 16,384 plus module id; the PORT_COLL_SHARE that waits with a table. -/
  fwdStaged : Tab Nat
  fwd      : Tab Nat
  fwdNext  : Tab Nat
  shareNext : Tab Nat
  remotes  : List Remote
  nextTag  : Nat
  /-- Answers to atomics, for the job-service cores that issued them: tag, old word, poison. -/
  atomics  : List (Nat × Nat × Bool)
  lendings : List Lending
  packets  : List Sent
  timing   : List Sent
  seen     : List Nat
  meters   : Meters
  jobMsgs  : List JobMsg
  arrivals : List Arrival
  lendAnswers : List LendAnswer
  deriving DecidableEq, Repr

/-! ### Collectives -/

/-- A norm accumulator (R277): exact value, with its flags. -/
structure Norm where
  mant  : Nat
  exp   : Int
  nan   : Bool
  inf   : Bool
  poison : Bool
  /-- The partition whose entry last added to it. -/
  part  : Nat
  deriving DecidableEq, Repr

/-- An open tile window (R275). -/
structure TileWindow where
  part    : Nat
  cluster : Nat
  group   : Nat
  desc    : Nat
  rows    : Nat
  deriving DecidableEq, Repr

/-- A commit record whose entry completed in this gust (R278, R279): where it was written and how. -/
structure Commit where
  part    : Nat
  addr    : Nat
  version : Nat
  fence   : Nat
  data    : List Byte
  deriving DecidableEq, Repr

/-- The collective engine: its 16 norm accumulators; what ALL_GATHER arrivals have brought and the lines
counted (R274, R277), by partition times 2^32 plus group number, level and digit; poisoned arrivals that
hold a NaN (R283), by partition times 2^50 plus address; open windows; the descriptor of each partition's
running entry, and how many lines of its sum are made while it waits; whether it has raised its event of
R280. -/
structure Coll where
  norms   : Tab Norm
  buckets : Tab Norm
  counts  : Tab Nat
  windows : List TileWindow
  nans    : Tab (List Byte)
  active  : Tab Nat
  waits   : Tab Nat
  overrun : List Nat
  commits : List Commit
  deriving DecidableEq, Repr

/-! ### Checkpoints and jobs -/

/-- A shard of the snapshot (R311, R316, R317): what its COPY entry recorded, and what became of it in
the drain. -/
structure Shard where
  index   : Nat
  base    : Nat
  params  : Nat
  snap    : Nat
  version : Nat
  sealed  : Bool
  refused : Bool
  digest  : List Byte
  deriving DecidableEq, Repr

/-- The job services' and the checkpoint engine's state of a partition's job. -/
structure Job where
  submitted  : Bool
  context    : Nat
  /-- Fence of the step's shard reads, its advance per step, and the steps opened (R69). -/
  ingestFence : Nat
  ingestStep : Nat
  opened     : Nat
  /-- A snapshot trigger is armed; triggers wait for a drain or load (R308, R309): bit 0 that of the steps, bit 1
  that of the period, bit 2 CKPT_NOW. -/
  snapArmed  : Bool
  snapDeferred : Nat
  /-- A load runs (R319). -/
  loading    : Bool
  /-- STEP of the snapshot, and NORM_PREV when its first COPY issued (R316, R318). -/
  snapStep   : Nat
  snapNorm   : Option Nat
  /-- Steps ended since the last snapshot step, and when that opened (R308). -/
  stepsSince : Nat
  snapTime   : Nat
  shards     : List Shard
  /-- The next step is a RECOVERY, RESTORE or REJOIN step (R307). -/
  recovery   : Bool
  restoring  : Bool
  rejoining  : Bool
  /-- The shrink in progress (R320): reports and lost modules so far, when its wait ends, and T_A. -/
  reports    : List Nat
  lost       : List Nat
  shrinkAt   : Option Nat
  abortAt    : Nat
  /-- Ranks that stand-ins hold (R321), and a rejoin that waits for the pause: rank and module. -/
  standIns   : List Nat
  rejoin     : Option (Nat × Nat)
  /-- This module's lost set has been sent (R320); it takes part again only through a rejoin (R76, R320), whose rank and
  ORDER_GEN its REJOIN step brings into force (R324). -/
  lostSent   : Bool
  away       : Bool
  returning  : Option (Nat × Nat)
  /-- RECORD_ADDR and step of the last chunk that the update engine wrote (R302, R322). -/
  updLast    : Option (Nat × Nat)
  deriving DecidableEq, Repr

/-! ### Partitions -/

/-- An owner entry of a charter (R337). -/
structure Owner where
  key      : List Byte
  data     : Bool
  share    : Bool
  stop     : Bool
  dataKeys : Nat
  deriving DecidableEq, Repr

/-- An accepted charter (R335 to R338). -/
structure Charter where
  digest     : List Byte
  jobId      : Nat
  clip       : Nat
  badStep    : Nat
  hostDrain  : Bool
  lending    : Bool
  maxModules : Nat
  maxLost    : Nat
  noiseFloor : Nat
  jobDigest  : List Byte
  owners     : List Owner
  accepted   : List (List Byte)
  deriving DecidableEq, Repr

/-- The TDISP states of an interface (R329). -/
inductive Tdi where
  | configUnlocked
  | configLocked
  | run
  | error
  deriving DecidableEq, Repr

/-- The security complex's record of a partition (R328 to R345). -/
structure Part where
  state    : Nat
  /-- The state of the partition's TDI. -/
  tdi      : Tdi
  gen      : Nat
  cgMap    : Nat
  stackMap : Nat
  fgMap    : Nat
  portMap  : Nat
  charter  : Option Charter
  /-- Delivered data keys: owner, key number, key handle. -/
  dataKeys : List (Nat × Nat × Nat)
  shares   : List (Nat × List Byte)
  secret   : Option (List Byte)
  /-- The checkpoint key's two slots, once every share is in (R341). -/
  ckptKeys : Option (Nat × Nat)
  genKey   : List Nat
  salt     : List Byte
  ideKeyed : Bool
  /-- A teardown waits for the next start boundary (R344), forced or ordinary. -/
  stopping : Bool
  deriving DecidableEq, Repr

/-- A deferred clock or power request (R346). -/
structure Deferred where
  reset : Bool
  mask  : Nat
  parts : List (Nat × Nat)
  since : Nat
  /-- The device-wide epoch at the request (R375). -/
  epoch : Nat
  deriving DecidableEq, Repr

/-! ### Security complex -/

/-- A key slot (R359). -/
structure KeySlot where
  live        : Bool
  key         : List Byte
  attr        : Nat
  owner       : Nat
  gen         : Nat
  resident    : Bool
  provisional : Bool
  deriving DecidableEq, Repr

/-- An SPDM session (R340): its id, its handshake secret, the messages that its key exchange covers, and whether
FINISH has closed the handshake. -/
structure SpdmSession where
  id         : Nat
  handshake  : List Byte
  transcript : List Byte
  done       : Bool
  deriving DecidableEq, Repr

/-- The SPDM responder (R340): how far version, capabilities and algorithms have been agreed, and the
messages that signatures cover: those of that agreement, of certificates, and of measurements. -/
structure Spdm where
  stage : Nat
  vca   : List Byte
  chain : List Byte
  meas  : List Byte
  deriving DecidableEq, Repr

/-- A job secret that the security complex has sent over the job's encrypted links (R147, R148): to one module, or to
every other module of the job. -/
structure SecretOut where
  part   : Nat
  jobId  : Nat
  dest   : Option Nat
  secret : List Byte
  salt   : List Byte
  gust   : Nat
  seq    : Nat
  deriving DecidableEq, Repr

/-- The security complex. -/
structure Sec where
  fuses      : Tab Nat
  /-- Words marginal at the last reading, and values latched at cold boot (R353, R354). -/
  latchedLc  : Nat
  latchedTamper : Nat
  latchedSvn : List Nat
  fuseSeen   : Tab Nat
  /-- Die temperature of the last reading (R353). -/
  fuseTemp   : Nat
  unusable   : Nat
  keys       : Tab KeySlot
  drbg       : Option DrbgState
  drbgSince  : Nat
  failed     : Bool
  /-- The known-answer test of the encryption engine failed at cold boot (R451). -/
  encFailed  : Bool
  deviceId   : Nat
  alias_     : Nat
  wrapKey    : List Byte
  tokenMiss  : Nat
  /-- The running life-cycle transition (R371): target and step. -/
  transition : Option (Nat × Nat)
  /-- TAMPER_COUNT blow in progress; mesh open. -/
  tamperBlow : Bool
  breached   : Bool
  lastMask   : Nat
  /-- The SPDM responder, its open sessions, and what the PF's DOE mailbox holds for the host (R340, R380). -/
  spdm       : Spdm
  sessions   : List SpdmSession
  doeReply   : List Byte
  /-- The dictionary store holds the DeviceID certificate (R357). -/
  certified  : Bool
  deferred   : List Deferred
  secretsOut : List SecretOut
  deriving DecidableEq, Repr

/-! ### Management controller -/

/-- An event record (R432). -/
structure EventRec where
  time       : Nat
  code       : Nat
  seq        : Nat
  reason     : Nat
  suppressed : Nat
  params     : Nat
  deriving DecidableEq, Repr

/-- A USDO session (R425, R428): entry, bytes so far, time of the last segment, and the time limit in
nanoseconds that it began with (R434). -/
structure Session where
  index : Nat
  sub   : Nat
  data  : List Byte
  last  : Nat
  limit : Nat
  deriving DecidableEq, Repr

/-- A node whose heartbeat has been heard (R427, R430): when, with which vote, the limit in nanoseconds
after which it counts as lost, and whether it is in the present set. -/
structure Heard where
  last    : Nat
  vote    : Nat
  limit   : Nat
  present : Bool
  deriving DecidableEq, Repr

/-- A requested self-test (R452). -/
structure Test where
  id    : Nat
  unit  : Nat
  since : Nat
  deriving DecidableEq, Repr

/-- A CAN frame the module has sent. -/
structure CanFrame where
  cobId : Nat
  data  : List Byte
  deriving DecidableEq, Repr

/-- The management controller. -/
structure Mgmt where
  ring      : List EventRec
  toFlash   : List EventRec
  flashLog  : List EventRec
  nextSeq   : Nat
  /-- Per code: aligned second, records written in it, records dropped since the last one. -/
  rate      : Tab (Nat × Nat × Nat)
  emcy      : List CanFrame
  lastEmcy  : Option Nat
  frames    : List CanFrame
  silent    : Bool
  busOff    : Bool
  sessions  : Tab Session
  heard     : Tab Heard
  /-- When the agreement window opened; when the module last sent a heartbeat, and the vote in it. -/
  window    : Option Nat
  lastBeat  : Nat
  vote      : Nat
  tests     : List Test
  running   : List Test
  deriving DecidableEq, Repr

/-! ### Flash and firmware -/

/-- A two-phase record (R462): its kind, sequence number and data, and whether its marker stands. -/
structure Rec where
  kind      : Nat
  seq       : Nat
  data      : List Byte
  committed : Bool
  deriving DecidableEq, Repr

/-- A flash operation under way (R461): an erase, a page, the data phase or the marker of a record of an
area (0 and 1: the slots' directories, 2: the dictionary store), or the copy of the active slot's image
by pages (R472). -/
inductive FlashOp where
  | erase (sector : Nat)
  | page (addr : Nat) (data : List Byte)
  | body (area : Nat) (kind : Nat) (data : List Byte)
  | marker (area : Nat)
  | copy (index : Nat) (off : Nat) (len : Nat)
  deriving DecidableEq, Repr

/-- What the header of an image says (R468), for an image whose bytes the model does not hold. -/
structure Image where
  version : Nat
  svn     : Nat
  length  : Nat
  deriving DecidableEq, Repr

/-- Firmware slots and flash (R460 to R482). -/
structure Fw where
  /-- Images as the factory wrote them, by slot times 8 plus image index. -/
  factory   : Tab Image
  /-- The directories' records by slot, and which half is in use (R470); the dictionary store's. -/
  dirs      : Tab (List Rec)
  halves    : Tab Nat
  store     : List Rec
  /-- Erases and verify failures of each sector, the counts as last recorded and the erases of the module,
  and the spare of each retired sector (R465, R466). -/
  erases    : Tab Nat
  saved     : Tab Nat
  total     : Nat
  fails     : Tab Nat
  retired   : Tab Nat
  ops       : List FlashOp
  /-- Bytes that the staging session has received or copied. -/
  staged    : Nat
  /-- The last boot fell back (R478). -/
  fellBack  : Bool
  deriving DecidableEq, Repr

/-! ### The whole -/

/-- The machine's state. `pending` is the queue of waiting commands, first in, first out, and
`freeCount` the model's own counter that the free values of Config are applied to. -/
structure State where
  pending   : List Instr
  freeCount : Nat
  now       : Nat
  dict      : Tab Nat
  staged    : Tab Nat
  locks     : List Lock
  owed      : List (Nat × Nat)
  /-- Expert unlocks (R411) by requester: time of the last access, and the limit in nanoseconds. -/
  expert    : Tab (Nat × Nat)
  mbox      : Mailbox
  views     : Tab View
  /-- How often each vector has fired, by function times 16 plus vector (R396). -/
  msix      : Tab Nat
  /-- Words of the functions' MSI-X tables that the host has written, by function times 64 plus word. -/
  vectors   : Tab Nat
  completed : Completion
  power     : Power
  objs      : Objects
  mem       : Memories
  tier      : Tier
  enc       : Enc
  held      : Tab Held
  slots     : Tab SfuSlot
  bindings  : List Binding
  running   : List Running
  stalled   : List Stalled
  transfers : List Transfer
  grids     : Tab Grid
  fabric    : Fabric
  coll      : Coll
  jobs      : Tab Job
  parts     : Tab Part
  sec       : Sec
  mgmt      : Mgmt
  fw        : Fw
  deriving DecidableEq, Repr

/-- The fuse words of a part as shipped that are not 0 (R352, R369, log entry 7): LC_STATE says FIELD
in its three copies, and UDS_CHECK is bits [31:0] of SHA-384 of a zero UDS. -/
def fusesShipped : Tab Nat := [(0, 3), (1, 3), (2, 3), (83, 0x4bff8fa3)]

/-- The images of a part as shipped: all six in slot A, none in slot B (log entry 7). -/
def imagesShipped : Tab Image := (List.range 6).map (fun i => (i + 1, ⟨0x0100, 0, 65536⟩))

/-- The directory records of those images; their digests are not given. -/
def dirsShipped : Tab (List Rec) :=
  [(0, (List.range 6).map (fun i => ⟨0x0101, i + 1, leBytes 4 (i + 1) ++ leBytes 4 65536 ++ List.replicate 56 0, true⟩))]

/-- The machine right after reset: a part as shipped, before its first power-up (log entries 1, 2, 6
and 7). Every register of the dictionary holds its reset value, so `dict` lists nothing; the fuses
say FIELD, and both slots' images are as log entry 7 says. -/
def State.reset : State where
  pending := []
  freeCount := 0
  now := 0
  dict := []
  staged := []
  locks := []
  owed := []
  expert := []
  mbox := ⟨0, 0, false, 0, 0, false, false, 0, []⟩
  views := []
  msix := []
  vectors := []
  completed := .none
  power := ⟨.off, false, false, false, 0xFFFFFFFF, 0, [], none, 0, 0, false, 0, 0⟩
  objs := ⟨[], [], [], [], [], [], [], [], []⟩
  mem := ⟨[], [], [], [], [], [], []⟩
  tier := ⟨[], [], [], [], [], [], [], [], [], [], [], [], [], [], []⟩
  enc := ⟨none, 1, [], [], [], [], []⟩
  held := []
  slots := []
  bindings := []
  running := []
  stalled := []
  transfers := []
  grids := []
  fabric := ⟨[], ⟨0, 0, 0, 0, [], 0, 0⟩, [], [], [], [], [], 1, [], [], [], [], [], ⟨[], [], [], []⟩, [], [], []⟩
  coll := ⟨[], [], [], [], [], [], [], [], []⟩
  jobs := []
  parts := []
  sec := ⟨fusesShipped, 0, 0, [], [], 0, 0, [], none, 0, false, false, 0, 0, [], 0, none, false, false,
    0, ⟨0, [], [], []⟩, [], [], true, [], []⟩
  mgmt := ⟨[], [], [], 1, [], [], none, [], false, false, [], [], none, 0, 0, [], []⟩
  fw := ⟨imagesShipped, dirsShipped, [], [], [], [], 0, [], [], [], 0, false⟩

/-- Why the machine stops with a fault. -/
inductive Fault where
  /-- Raised by no meaning: the spec names no command on which the module stops, and a packet whose data do
  not fit its header is dropped (R240, R242). Safe: it allows nothing. -/
  | illFormed
  deriving DecidableEq, Repr

/-- Why a command is refused by the model. -/
inductive Refusal where
  /-- Raised by an arm of `exec` whose command has no meaning yet: safe, nothing is claimed of it. -/
  | notModelled (mnemonic : String)
  deriving DecidableEq, Repr

end Sys2Proof.Machine
end

