-- ==== Sys2Proof/Machine/Tables.lean ====
section
/-! DEFINITION. Tables by number, byte memories, and the registers of the object dictionary: the
operations every meaning is written with. -/

namespace Sys2Proof.Machine

/-- The entry of a table, or `d`. -/
def tabGet {α : Type} (t : Tab α) (k : Nat) (d : α) : α :=
  match t with
  | [] => d
  | (i, x) :: r => if i = k then x else tabGet r k d

/-- The table with entry `k` set. -/
def tabSet {α : Type} (t : Tab α) (k : Nat) (v : α) : Tab α :=
  match t with
  | [] => [(k, v)]
  | (i, x) :: r => if k < i then (k, v) :: (i, x) :: r
                   else if i = k then (k, v) :: r else (i, x) :: tabSet r k v

/-- The table without entry `k`. -/
def tabErase {α : Type} (t : Tab α) (k : Nat) : Tab α := t.filter (fun e => e.1 != k)

/-- The byte at an address; `d` is what an unlisted address reads as. -/
def memGet (d : Byte) (m : Mem) (a : Nat) : Byte := tabGet m a d

/-- The memory with one byte written: the entry of an address goes when it would equal what an
unlisted address reads as. -/
def memSet (d : Byte) (m : Mem) (a : Nat) (v : Byte) : Mem :=
  match m with
  | [] => if v = d then [] else [(a, v)]
  | (i, x) :: r =>
    if a < i then (if v = d then (i, x) :: r else (a, v) :: (i, x) :: r)
    else if i = a then (if v = d then r else (a, v) :: r)
    else (i, x) :: memSet d r a v

/-- `n` bytes from an address on. -/
def memRead (d : Byte) (m : Mem) (a n : Nat) : List Byte :=
  (List.range n).map (fun i => memGet d m (a + i))

/-- The memory with bytes written from an address on. -/
def memWrite (d : Byte) (m : Mem) (a : Nat) (l : List Byte) : Mem :=
  match l with
  | [] => m
  | b :: r => memWrite d (memSet d m a b) (a + 1) r

/-- The memory with the cells of `[lo, hi)` gone. -/
def memForget (m : Mem) (lo hi : Nat) : Mem := m.filter (fun c => c.1 < lo || hi ≤ c.1)

/-- The canonical form: addresses strictly rising, no entry equal to what an unlisted address reads
as. -/
def memWf (d : Byte) : Mem → Bool
  | [] => true
  | [(_, v)] => v != d
  | (a, v) :: (b, w) :: r => v != d && decide (a < b) && memWf d ((b, w) :: r)

/-- What an erased flash byte reads as (R460). -/
def flashErased : Byte := 0xFF#8

/-- The canonical form of every memory of the module. -/
def Memories.wf (m : Memories) : Bool :=
  memWf 0 m.ram && memWf 0 m.metadata && memWf 0 m.cellPoison && memWf flashErased m.flash &&
    memWf 0 m.host

/-! ### Registers -/

/-- The value of a dictionary entry. -/
def State.reg (s : State) (k : Nat) : Nat := tabGet s.dict k (keyReset k)

/-- A dictionary entry written, at its width. -/
def State.setReg (s : State) (k v : Nat) : State :=
  { s with dict := tabSet s.dict k (v % 2 ^ keyBits k) }

/-- A counter raised. -/
def State.bumpReg (s : State) (k n : Nat) : State := s.setReg k (s.reg k + n)

/-- Bit `i` of a map entry set or cleared. -/
def State.setRegBit (s : State) (k i : Nat) (b : Bool) : State :=
  s.setReg k (if b then setBit (s.reg k) i else clearBit (s.reg k) i)

/-- The staged copy of an entry (R414): the value in force where nothing is staged. -/
def State.stagedReg (s : State) (k : Nat) : Nat := tabGet s.staged k (s.reg k)

/-- A value staged. -/
def State.stage (s : State) (k v : Nat) : State :=
  { s with staged := tabSet s.staged k (v % 2 ^ keyBits k) }

/-- The staged copy of the keys dropped (R415). -/
def State.dropStaged (s : State) (ks : List Nat) : State :=
  { s with staged := s.staged.filter (fun e => !ks.contains e.1) }

/-- The staged copy of the keys put in force together (R414). -/
def State.commitStaged (s : State) (ks : List Nat) : State :=
  (ks.foldl (fun t k => t.setReg k (t.stagedReg k)) s).dropStaged ks

/-- The default grid, partition, job, port and other entries of the tables. -/
def Grid.idle : Grid :=
  ⟨false, false, false, false, false, 0, none, none, false, 0, [], false, false, false, false, 0, 0, [], [], 0⟩

def Part.free : Part := ⟨0, .configUnlocked, 1, 0, 0, 0, 0, none, [], [], none, none, [], [], false, false⟩

def View.fresh : View := ⟨0, 1, false, 0, 0⟩

def KeySlot.empty : KeySlot := ⟨false, [], 0, 0, 1, false, false⟩

def State.grid (s : State) (p : Nat) : Grid := tabGet s.grids p Grid.idle
def State.setGrid (s : State) (p : Nat) (g : Grid) : State := { s with grids := tabSet s.grids p g }
def State.part (s : State) (p : Nat) : Part := tabGet s.parts p Part.free
def State.setPart (s : State) (p : Nat) (x : Part) : State := { s with parts := tabSet s.parts p x }
def State.view (s : State) (i : Nat) : View := tabGet s.views i View.fresh
def State.setView (s : State) (i : Nat) (v : View) : State := { s with views := tabSet s.views i v }
def State.keySlot (s : State) (i : Nat) : KeySlot := tabGet s.sec.keys i KeySlot.empty
def State.setKeySlot (s : State) (i : Nat) (k : KeySlot) : State :=
  { s with sec := { s.sec with keys := tabSet s.sec.keys i k } }

/-- The eight partitions' numbers. -/
def parts8 : List Nat := List.range 8

end Sys2Proof.Machine
end

