-- ==== Sys2Proof/Machine/Ops.lean ====
section
/-! DEFINITION. The operations shared by every subsystem: events, fences, handles, the partition's
record and its views, timing notices, and the fault of R81. -/

namespace Sys2Proof.Machine

/-- The code of a requester as locks and LOCK_OWNER hold it (R437); the job services have a code of
their own (log entry 11). -/
def reqCode : Requester → Nat
  | .node id => id.val
  | .mailbox => 0x100
  | .jobServices => 0x200

/-- The domain time moves on to `t`; it never runs back (R43). -/
def State.tick (s : State) (t : Nat) : State := { s with now := max s.now t }

/-! ### Free values -/

/-- `n` bytes of the entropy source (R366): free values. -/
def State.takeEntropy (s : State) (n : Nat) : List Byte × State :=
  ((List.range n).map (Config.entropy s.freeCount), { s with freeCount := s.freeCount + 1 })

/-! ### Events -/

/-- The CAN identifier of a service: its base plus the node id (R425). -/
def State.cobId (s : State) (base : Nat) : Nat := base + s.reg kNodeId

/-- The EMCY of an event, where its severity calls for one (R429). -/
def State.queueEmcy (s : State) (code : EventCode) : State :=
  let sev := fld code 16 8
  if s.reg kEmcySeverity ≥ 5 ∨ sev < s.reg kEmcySeverity ∨ s.mgmt.silent then s
  else
    let full := decide (32 ≤ s.mgmt.emcy.length)
    let s := if full then (s.bumpReg kEmcyDropped 1).setReg kErrorRegister (setBit (s.reg kErrorRegister) 7)
             else s
    let data := leBytes 2 (0xFF00 + fld code 24 8) ++ leBytes 1 (s.reg kErrorRegister) ++ leBytes 1 0 ++
      leBytes 4 code ++ leBytes 4 (s.reg kLogNewestSeq)
    let q := if full then s.mgmt.emcy.drop 1 else s.mgmt.emcy
    { s with mgmt := { s.mgmt with emcy := q ++ [⟨s.cobId 0x080, data⟩] } }

/-- The nanoseconds of a second. -/
def nsPerS : Nat := 1000000000

/-- An event (R432, R433): its record goes to the RAM ring of 4,096, unless ten records of its code
stand in the running aligned second; its EMCY is queued either way. -/
def State.event (s : State) (code : EventCode) (reason params : Nat) : State :=
  let sec := s.now / nsPerS
  let r := tabGet s.mgmt.rate code (sec, 0, 0)
  let inSec := if r.1 = sec then r.2.1 else 0
  if 10 ≤ inSec then
    let m := { s.mgmt with rate := tabSet s.mgmt.rate code (sec, inSec, r.2.2 + 1) }
    ({ s with mgmt := m }.bumpReg kLogSuppressed 1).queueEmcy code
  else
    let e : EventRec := ⟨s.now, code, s.mgmt.nextSeq, reason, r.2.2 % 2 ^ 16, params % 2 ^ 96⟩
    let keep := fun (l : List EventRec) => (l ++ [e]).drop ((l.length + 1) - 4096)
    let m := { s.mgmt with
      rate := tabSet s.mgmt.rate code (sec, inSec + 1, 0)
      ring := keep s.mgmt.ring
      toFlash := keep s.mgmt.toFlash
      nextSeq := s.mgmt.nextSeq + 1 }
    ({ s with mgmt := m }.setReg kLogNewestSeq e.seq).queueEmcy code

/-! ### MSI-X -/

/-- Vector `v` of the function of partition `p` fires (R396). -/
def State.fire (s : State) (p v : Nat) : State :=
  let k := (p + 1) * 16 + v
  { s with msix := tabSet s.msix k (tabGet s.msix k 0 + 1) }

/-! ### Handles (R15 to R17) -/

def hType (h : Handle) : Nat := fld h 28 4
def hPart (h : Handle) : Nat := fld h 25 3
def hGen (h : Handle) : Nat := fld h 16 9
def hIndex (h : Handle) : Nat := fld h 0 16

/-- The handle of R15. -/
def mkHandle (t p g i : Nat) : Handle := t * 2 ^ 28 + p * 2 ^ 25 + (g % 512) * 2 ^ 16 + i

/-- The next generation: 511 is followed by 1 (R15). -/
def nextGen (g : Nat) : Nat := if g = 511 then 1 else g + 1

/-- Table sizes of R385: the per-partition limit where only that is given, else the module's. -/
def tableSize (t : Nat) : Nat :=
  match t with
  | 1 => 16
  | 2 => 64
  | 3 => 4096
  | 4 => 4096
  | 5 => 3072
  | 6 => 32
  | 7 => 512
  | 8 => 8192
  | _ => 0

/-- Whether a type's table is one per partition. -/
def perPartition (t : Nat) : Bool := t == 1 || t == 2 || t == 3 || t == 4

/-- The key of a table slot's generation. -/
def genKey (t p i : Nat) : Nat := t * 2 ^ 20 + (if perPartition t then p else 0) * 2 ^ 16 + i

/-- All live handles but those of key slots. -/
def State.handles (s : State) : List Handle :=
  s.objs.fences.map (·.handle) ++ s.objs.memobjs.map (·.handle) ++ s.objs.contexts.map (·.handle) ++
    s.objs.queues.map (·.handle) ++ s.objs.streams.map (·.handle) ++ s.objs.groups.map (·.handle) ++
    s.objs.channels.map (·.handle)

/-- Whether a handle names a live object. -/
def State.handleLive (s : State) (h : Handle) : Bool :=
  if hType h = 8 then
    let k := s.keySlot (hIndex h)
    k.live && k.gen == hGen h && k.owner == hPart h
  else s.handles.contains h

/-- A reason code of R21. -/
def mkReason (sub cls detail : Nat) : Reason := sub * 2 ^ 12 + cls * 2 ^ 8 + detail

/-- The check of R17 for a handle that must be of type `want`, carried by partition `p`'s request,
made by subsystem `sub`; 0 when it passes. A free slot has no generation that a handle could bear. -/
def State.checkHandle (s : State) (sub want p : Nat) (h : Handle) : Reason :=
  let t := hType h
  if t = 0 ∨ 9 ≤ t then mkReason sub 0 0xF0
  else if tableSize t ≤ hIndex h then mkReason sub 0 0xF1
  else if t ≠ want then mkReason sub 1 0xF2
  else if hPart h ≠ p then mkReason sub 3 0xF0
  else if s.handleLive h = false then mkReason sub 2 0xF0
  else 0

/-! ### Fences (R18 to R20, R396) -/

def State.fence? (s : State) (h : Handle) : Option Fence := s.objs.fences.find? (fun f => f.handle == h)

/-- A fence rewritten. -/
def State.setFence (s : State) (f : Fence) : State :=
  { s with objs := { s.objs with
      fences := s.objs.fences.map (fun g => if g.handle = f.handle then f else g) } }

/-- Vector of R396 for an error. -/
def fenceErrIrq (s : State) (f : Fence) : State :=
  if f.irqOnErr ∧ f.errFired = false then (s.setFence { f with errFired := true }).fire (hPart f.handle) f.vector
  else s.setFence f

/-- Vector of R396 when VALUE first reaches IRQ_VALUE. -/
def fenceValueIrq (s : State) (f : Fence) : State :=
  if f.irqValue ≠ 0 ∧ f.irqValue ≤ f.value ∧ f.valueFired = false then
    (s.setFence { f with valueFired := true }).fire (hPart f.handle) f.vector
  else s.setFence f

/-- An error latches in a fence: the first one stands (R19, R20). -/
def State.latch (s : State) (h : Handle) (reason : Reason) (remote : Bool) : State :=
  match s.fence? h with
  | none => s
  | some f =>
    if f.err ∨ reason = 0 then s
    else fenceErrIrq s { f with err := true, remote := remote, reason := reason }

/-- Poison recorded in a fence (R19). -/
def State.poisonFence (s : State) (h : Handle) : State :=
  match s.fence? h with
  | none => s
  | some f => s.setFence { f with poison := true }

/-- A unit advances a fence by `n`; nothing while ERR is set (R20), nor where the host signals. -/
def State.signal (s : State) (h : Handle) (n : Nat) : State :=
  match s.fence? h with
  | none => s
  | some f =>
    if f.err ∨ f.hostSignal then s
    else fenceValueIrq s { f with value := (f.value + n) % 2 ^ 64 }

/-! ### Partitions (R328 to R331, R347) -/

def stFree : Nat := 0
def stBuilding : Nat := 1
def stConfigured : Nat := 2
def stLocked : Nat := 3
def stRunning : Nat := 4
def stHeld : Nat := 5
def stTeardown : Nat := 6

/-- Locked in states 3 to 5 (R329). -/
def lockedState (st : Nat) : Bool := decide (3 ≤ st) && decide (st ≤ 5)

/-- The rank of a state (R329). -/
def stateRank (st : Nat) : Nat :=
  match st with
  | 0 => 0
  | 1 => 1
  | 2 => 2
  | 3 => 3
  | 4 => 3
  | 5 => 4
  | _ => 5

/-- PART_GEN after an event: 0 is never issued (R328). -/
def nextPartGen (g : Nat) : Nat := if g = 0xFFFFFFFF then 1 else g + 1

/-- Both views rewritten from the record (R347, R381). -/
def State.mirror (s : State) (p : Nat) : State :=
  let x := s.part p
  let v := s.view p
  ((s.setView p { v with state := x.state, gen := x.gen }).setReg (kPartState p) x.state).setReg
    (kPartGen p) x.gen

/-- PART_GEN rises (R328). -/
def State.riseGen (s : State) (p : Nat) : State :=
  (s.setPart p { s.part p with gen := nextPartGen (s.part p).gen }).mirror p

/-- ERROR_REGISTER bit 0: a partition is HELD or a unit is out of service (R437). -/
def State.errorBit (s : State) : State :=
  let bad := parts8.any (fun p => (s.part p).state == stHeld) || !s.tier.outOfService.isEmpty
  s.setRegBit kErrorRegister 0 bad

/-- The TDI of a partition in a state (R329); a forced teardown takes it to ERROR instead (R345). -/
def tdiOf (st : Nat) : Tdi :=
  if st = stLocked then .configLocked else if st = stRunning ∨ st = stHeld then .run else .configUnlocked

/-- A partition changes state (R330): PART_GEN rises, its TDI and the views follow, event 0x0B00_0041. -/
def State.setPartState (s : State) (p st : Nat) : State :=
  let x := s.part p
  (((s.setPart p { x with state := st, tdi := tdiOf st, gen := nextPartGen x.gen }).mirror p).errorBit).event
    0x0B000041 0 p

/-- The partition that holds cluster `c`, a cluster group, a stack, a far group or a port. -/
def State.holderOf (s : State) (sel : Part → Nat) (i : Nat) : Option Nat :=
  parts8.find? (fun p => (s.part p).state != stFree && bit (sel (s.part p)) i)

def State.clusterPart (s : State) (c : Nat) : Option Nat := s.holderOf Part.cgMap (c / 16)
def State.stackPart (s : State) (i : Nat) : Option Nat := s.holderOf Part.stackMap i
def State.groupPart (s : State) (i : Nat) : Option Nat := s.holderOf Part.fgMap i

/-- The memory units of R161 by number: stacks 0 to 15, far groups 16 to 31. -/
def unitIndex : MemUnit → Nat
  | .stack i => i.val
  | .group i => 16 + i.val

def State.unitPart (s : State) (u : Nat) : Option Nat :=
  if u < 16 then s.stackPart u else s.groupPart (u - 16)

/-- The job that runs on partition `p`: its charter's JOB_ID (R258, R336). -/
def State.jobIdOf (s : State) (p : Nat) : Nat :=
  match (s.part p).charter with
  | some c => c.jobId
  | none => 0

/-! ### Random words (R150, R366, R367) -/

/-- GEN_SOURCE of a partition changes: event 0x0201_0002 (R150). -/
def State.setGenSource (s : State) (p : Nat) (drbg : Bool) : State :=
  if bit (s.reg kGenSource) p = drbg then s
  else (s.setRegBit kGenSource p drbg).event 0x02010002 0 p

/-- `n` bytes of the CTR_DRBG; nothing while the source is FAILED (R367). `fresh` reseeds first, as
GENERATE asks (R361, R366). -/
def State.drbg (s : State) (n : Nat) (fresh : Bool) : Option (List Byte × State) :=
  if s.sec.failed then none
  else
    match s.sec.drbg with
    | none => none
    | some d =>
      let due := fresh || decide (2 ^ 20 ≤ d.counter) || decide (s.sec.drbgSince + nsPerS ≤ s.now)
      let e := s.takeEntropy 48
      let s1 := if due then { e.2 with sec := { s.sec with drbgSince := s.now } } else s
      let d1 := if due then drbgReseed d e.1 else d
      let g := drbgGenerate d1 n
      some (g.1, { s1 with sec := { s1.sec with drbg := some g.2 } })

/-! ### Timing notices (R258, R260) -/

/-- A timing message. -/
def mkTiming (kind hops origin job timeA timeB reason : Nat) : Nat :=
  kind + hops * 2 ^ 4 + origin * 2 ^ 8 + job * 2 ^ 32 + (timeA % 2 ^ 64) * 2 ^ 64 +
    (timeB % 2 ^ 64) * 2 ^ 128 + reason * 2 ^ 192

/-- A timing message sent on a port. -/
def State.sendTiming (s : State) (n m : Nat) : State :=
  { s with fabric := { s.fabric with timing := s.fabric.timing ++ [⟨n, m, []⟩] } }

/-- The ports UP that partition `p` owns. -/
def State.upPorts (s : State) (p : Nat) : List Nat :=
  (List.range 16).filter (fun n => s.reg (kPortOwner n) == p && s.reg (kPortState n) == 3)

/-- A notice on every UP port of the partition, but for `skip`. -/
def State.sendNotice (s : State) (p m : Nat) (skip : Option Nat) : State :=
  ((s.upPorts p).filter (fun n => skip != some n)).foldl (fun t n => t.sendTiming n m) s

/-- What is remembered of a notice so that a duplicate is known: TKIND, ORIGIN_MODULE, TIME_A. -/
def noticeId (m : Nat) : Nat := fld m 0 4 + fld m 8 14 * 2 ^ 4 + fld m 64 64 * 2 ^ 18

/-- The first grid point of a partition at least SLIP_LEAD_US from now (R83). -/
def State.pausePoint (s : State) (p : Nat) : Nat :=
  let g := s.grid p
  let t := s.now + s.reg (kSlipLeadUs p) * 1000
  let d := max 1 (s.reg (kGustPeriodUs p) * 1000)
  if t ≤ g.nextPoint then g.nextPoint else g.nextPoint + (t - g.nextPoint + d - 1) / d * d

/-- A pre-emption request (R83): where a gust runs, a pause notice names the point, and the partition
pauses there. -/
def State.pauseRequest (s : State) (p : Nat) : State :=
  let g := s.grid p
  if g.inGust = false then s
  else
    let t := s.pausePoint p
    let m := mkTiming 6 1 (s.reg kModuleId % 2 ^ 14) (s.jobIdOf p) t 0 0
    let at_ := match g.pauseAt with
      | some u => min t u
      | none => t
    let s := { s with fabric := { s.fabric with seen := s.fabric.seen ++ [noticeId m] } }
    (s.setGrid p { g with pauseAt := some at_ }).sendNotice p m none

/-! ### Calm windows and the plan clock (R46, R55, R72) -/

/-- Whether a calm window of the partition is running (R46, R73). -/
def State.calm (s : State) (p : Nat) : Bool :=
  let g := s.grid p
  let e := s.now - g.boundary
  g.on && decide (g.boundary ≤ s.now) && decide (e % 1000000 < s.reg (kCalmLenUs p) * 1000) &&
    decide (e / 1000000 < ceilDiv (s.reg (kGustPeriodUs p)) 1000)

/-- The nanoseconds of calm windows among the first `e` after a boundary, for a period and a length in
microseconds: whole periods, then the windows of the last one. -/
def calmUpTo (period len e : Nat) : Nat :=
  let n := ceilDiv period 1000
  let r := e % (period * 1000)
  let k := min (r / 1000000) (n - 1)
  e / (period * 1000) * (n * len * 1000) + k * len * 1000 + min (len * 1000) (r - k * 1000000)

/-- The nanoseconds of calm windows of the running gust from `a` to `b`. -/
def State.calmNs (s : State) (p a b : Nat) : Nat :=
  let up := fun t => calmUpTo (s.reg (kGustPeriodUs p)) (s.reg (kCalmLenUs p)) (t - (s.grid p).started)
  up b - up a

/-- F_CORE of a partition (R70), MHz. -/
def State.fCore (s : State) (p : Nat) : Nat := s.reg (kFCoreMhz p)

/-- Lines of a cell store. -/
def cellLines : Nat := 32768

/-- The lines that a list of writes touches, within the store. -/
def touched (puts : List CellPut) : List (Nat × Nat) :=
  (puts.flatMap (fun w =>
    if w.data.isEmpty then []
    else (List.range ((w.addr + w.data.length - 1) / 64 - w.addr / 64 + 1)).filterMap (fun i =>
      let line := w.addr / 64 + i
      if line < cellLines then some (w.cluster, line) else none))).eraseDups

/-- The F_CORE cycle in which a running entry ends, counted as the domain time is (R110, R138). -/
def State.endCycle (s : State) (r : Running) : Nat := r.since * s.fCore r.part / 1000 + r.cycles

/-- Whether a compute entry of a cluster ends in this cycle and writes the line: its write stands over one that an
updraft makes there (R88). -/
def State.cellTaken (s : State) (c line : Nat) : Bool :=
  s.running.any (fun r => r.unitId == c && decide (r.unit ≤ 2) && s.endCycle r == s.now * s.fCore r.part / 1000 &&
    (touched r.puts).contains (c, line))

/-- How many entries of its plan a unit has issued in the gust, and how long its stalls have stood. -/
def State.planAt (s : State) (p u : Nat) : Nat × Nat := tabGet (s.grid p).progress u (0, 0)

/-- The plan clock of a unit in cycles (R55): it stands in calm windows and in stalls. -/
def State.planClock (s : State) (p u : Nat) : Nat :=
  let a := (s.grid p).started
  (s.now - a - s.calmNs p a s.now - (s.planAt p u).2) * s.fCore p / 1000

/-- Unit `u` has stood for `ns` nanoseconds outside calm windows: each cycle is a late cycle, by which the unit's
plan shifts (R55); the first late cycles of a gust raise its event (R84, R85, log entry 39). -/
def State.lateFor (s : State) (p u ns : Nat) : State :=
  let n := ns * s.fCore p / 1000
  if n = 0 then s
  else
    let g := s.grid p
    let x := s.planAt p u
    let s := (s.bumpReg (kLateCycles p) n).setGrid p { g with late := true, progress := tabSet g.progress u (x.1, x.2 + ns) }
    if g.late then s else s.event 0x01020011 0 p

/-- A stall of unit `u` ends that stood since `since` (R55). -/
def State.lateSince (s : State) (p u since : Nat) : State :=
  s.lateFor p u (s.now - since - s.calmNs p since s.now)

/-- The stalls of a partition end with its pass; their cycles count (R55, R81). -/
def State.dropStalls (s : State) (p : Nat) : State :=
  let s := (s.stalled.filter (fun x => x.part == p)).foldl (fun s x => s.lateSince p x.unitId x.since) s
  { s with stalled := s.stalled.filter (fun x => x.part != p) }

/-! ### The fault of R81 -/

/-- The clusters of a partition. -/
def State.clustersOf (s : State) (p : Nat) : List Nat :=
  (List.range 512).filter (fun c => bit (s.part p).cgMap (c / 16))

def Job.fresh : Job :=
  ⟨false, 0, 0, 0, 0, false, 0, false, 0, none, 0, 0, [], false, false, false, [], [], none, 0, [], none, false, false,
    none, none⟩

def State.job (s : State) (p : Nat) : Job := tabGet s.jobs p Job.fresh
def State.setJob (s : State) (p : Nat) (j : Job) : State := { s with jobs := tabSet s.jobs p j }

/-- The job fences of a partition: those that its contexts in state 2 name (R403). -/
def State.jobFences (s : State) (p : Nat) : List Handle :=
  (s.objs.contexts.filter (fun c => hPart c.handle == p && c.submitted)).map (·.jobFence)

/-- The accumulators held by a partition's arrays are discarded (R109). -/
def State.dropHeld (s : State) (p : Nat) : State :=
  { s with held := s.held.filter (fun e => !bit (s.part p).cgMap (e.1 / 16)) }

/-- An outstanding request without the lines of a stream context that it was to fill: what answers it still
settles it, and delivers nothing. -/
def Remote.dropLines (r : Remote) : Remote :=
  match r.sink with
  | .lines _ _ _ _ => { r with sink := .nothing }
  | _ => r

/-- Transfers of a partition end with the fault: their fences latch its reason, their lines' pending marks
and the meters of their rates go, and lines still under way to them are dropped (R221, R227). -/
def State.dropTransfers (s : State) (p : Nat) (reason : Reason) : State :=
  let mine := s.transfers.filter (fun t => t.part == p)
  let s := mine.foldl (fun s t => s.latch t.fence reason false) s
  let ms := s.fabric.meters
  { s with
    transfers := s.transfers.filter (fun t => t.part != p)
    fabric := { s.fabric with
      remotes := s.fabric.remotes.map (fun r => if r.part = p then r.dropLines else r)
      meters := { ms with contexts := ms.contexts.filter (fun e => !mine.any (fun t => t.cluster * 8 + t.context == e.1)) } } }

/-- Collective data in flight of a partition is discarded: counts, waiting entries, open windows,
and the commits of the gust, which are counted (R81, R274, R279). -/
def State.dropColl (s : State) (p : Nat) : State :=
  let gone := s.coll.commits.filter (fun c => c.part == p)
  let c := { s.coll with
    counts := s.coll.counts.filter (fun e => e.1 / 2 ^ 32 != p)
    buckets := s.coll.buckets.filter (fun e => e.1 / 2 ^ 32 != p)
    norms := s.coll.norms.filter (fun e => e.2.part != p)
    nans := s.coll.nans.filter (fun e => e.1 / 2 ^ 50 != p)
    overrun := s.coll.overrun.filter (fun q => q != p)
    windows := s.coll.windows.filter (fun w => w.part != p)
    active := tabErase s.coll.active p
    waits := tabErase s.coll.waits p
    commits := s.coll.commits.filter (fun c => c.part != p) }
  { s with coll := c }.bumpReg kCommitsDiscarded gone.length

/-- A snapshot step that an abort ends is void, and its trigger stays armed (R325). -/
def State.voidSnapshot (s : State) (p : Nat) : State :=
  if s.reg (kCkptState p) = 2 then
    (s.setJob p { s.job p with snapArmed := true, shards := [], snapNorm := none }).setReg (kCkptState p) 1
  else s

/-- Steps 1 and 2 of a shrink (R320): a job on more than one module clears GUST_ENABLE, sends its liveness report to
every member and waits for theirs; T_A is the earliest TIME_A, and what has arrived by a later notice stands. A
single-module job has no one to wait for. -/
def State.shrinkFrom (s : State) (p t : Nat) : State :=
  let s := s.voidSnapshot p
  let j := s.job p
  let many := s.objs.groups.any (fun g => hPart g.handle == p && g.mids.any (fun m => m != s.reg kModuleId))
  if j.submitted && many then
    let again := j.shrinkAt.isSome
    let ta := if again then min j.abortAt t else t
    let s := { s with fabric := { s.fabric with
      jobMsgs := s.fabric.jobMsgs ++ (if again then [] else [JobMsg.mk p none]) } }
    ((s.setJob p { j with reports := if again then j.reports else [], lost := if again then j.lost else []
                          lostSent := again && j.lostSent, abortAt := ta, rejoining := false, rejoin := none
                          shrinkAt := some (ta + 2 * s.reg (kShrinkWaitMs p) * 1000000) }).setReg
      (kGustEnable p) 0).setGrid p { s.grid p with on := false }
  else s

/-- What an abort does here, whether it began here or by a notice (R81): no entry issues, results in
flight are discarded, the partition is held, and the job's fences report it. -/
def State.abortWith (s : State) (p : Nat) (reason : Reason) (remote : Bool) (timeA : Nat) (ev : EventCode) : State :=
  let s := s.dropStalls p
  let g := s.grid p
  let s := s.setGrid p { g with inGust := false, held := true, paused := false, pauseAt := none,
                                resumeAt := none, slip := false, slipped := 0, stopping := false,
                                on := g.on && !g.stopping }
  let s := { s with running := s.running.filter (fun r => r.part != p) }
  let s := ((s.dropHeld p).dropTransfers p reason).dropColl p
  let s := (s.jobFences p).foldl (fun t h => t.latch h reason remote) s
  let s := s.shrinkFrom p (if remote then timeA else g.nextPoint)
  let s := if g.inGust then s.event ev reason p else s
  let s := if (s.part p).state = stRunning then s.setPartState p stHeld else s
  s.setGenSource p true

/-- An abort by a fault or a notice. -/
def State.abortHere (s : State) (p : Nat) (reason : Reason) (remote : Bool) (timeA : Nat) : State :=
  s.abortWith p reason remote timeA 0x01030013

/-- A fault in partition `p` (R81): it aborts here and an abort notice goes to every module of the
job. Only a RUNNING partition has a pass to abandon (R330). -/
def State.faultWith (s : State) (p : Nat) (reason : Reason) (ev : EventCode) : State :=
  if (s.part p).state ≠ stRunning then s
  else
    let m := mkTiming 5 1 (s.reg kModuleId % 2 ^ 14) (s.jobIdOf p) (s.grid p).nextPoint 0 reason
    let s := { s with fabric := { s.fabric with seen := s.fabric.seen ++ [noticeId m] } }
    (s.abortWith p reason false 0 ev).sendNotice p m none

/-- A fault with the event of an abort by fault (R85). -/
def State.faultPart (s : State) (p : Nat) (reason : Reason) : State := s.faultWith p reason 0x01030013

/-- A fault of every partition of a list. -/
def State.faultParts (s : State) (ps : List Nat) (reason : Reason) : State :=
  ps.foldl (fun t p => t.faultPart p reason) s

end Sys2Proof.Machine
end

