-- ==== Sys2Proof/Machine/Memory.lean ====
section
/-! DEFINITION. The two memory tiers and their encryption: where an address lies (R10, R166 to R169),
how a line is sorted (R163, R164), and how one line is read and written (R188 to R201). -/

namespace Sys2Proof.Machine

/-! ### The address map (R10, R12) -/

def nearEnd : Nat := 2 ^ 37
def farBase : Nat := 0x010000000000
def farWindow : Nat := 0xE00000000
def cellBase : Nat := 0x200000000000
def regsBase : Nat := 0x210000000000
def hostBase : Nat := 0x300000000000
def hostEnd : Nat := 0x400000000000
def cellBytes : Nat := 0x200000

/-- The row of R10 that a local address lies in. -/
inductive Place where
  | near (stack off : Nat)
  | far (group off : Nat)
  | cell (cluster off : Nat)
  | regs (off : Nat)
  | host (off : Nat)
  | nowhere
  deriving DecidableEq, Repr

/-- The place of a local address. -/
def placeOf (a : Nat) : Place :=
  if a < nearEnd then .near (a / 2 ^ 33) (a % 2 ^ 33)
  else if farBase ≤ a ∧ a < farBase + 16 * farWindow then
    .far ((a - farBase) / farWindow) ((a - farBase) % farWindow)
  else if cellBase ≤ a ∧ a < cellBase + 512 * cellBytes then
    .cell ((a - cellBase) / cellBytes) ((a - cellBase) % cellBytes)
  else if regsBase ≤ a ∧ a < regsBase + 2 ^ 32 then .regs (a - regsBase)
  else if hostBase ≤ a ∧ a < hostEnd then .host (a - hostBase)
  else .nowhere

/-- The `(i + 1)`-th set bit of a map of `w` bits, counted upwards (R166, R169, R113). -/
def nthBit (map w i : Nat) : Nat := (bitsOf map w).getD i 0

/-- Where a tier address is held: its unit (16 and up for far groups), channel (1,024 and up for
far), row, and line of the channel. -/
structure Loc where
  unit : Nat
  chan : Nat
  row  : Nat
  line : Nat
  deriving DecidableEq, Repr

/-- The unit that carries a channel, and the first channel of a unit. -/
def channelUnit (ch : Nat) : Nat := if ch < 1024 then ch / 64 else 16 + (ch - 1024) / 8
def firstChannel (u : Nat) : Nat := if u < 16 then 64 * u else 1024 + 8 * (u - 16)

/-- The place of a line of a channel. -/
def locOf (ch line : Nat) : Loc := ⟨channelUnit ch, ch, line / (if ch < 1024 then 16 else 32), line⟩

/-- The regions of a far channel (R168): data, metadata, and the reserve that holds its spare rows. -/
def farDataBytes : Nat := 7 * 2 ^ 30
def farMetaBytes : Nat := 896 * 2 ^ 20
def farReserveBytes : Nat := 128 * 2 ^ 20

/-- Where the metadata regions of the far channels begin, in the addresses of `Memories.metadata`: 16 MiB of sideband
for each near channel come first (R161). -/
def farMetaBase : Nat := 1024 * 2 ^ 24

/-- Where a channel holds the 8-byte record of a line: on its sideband, or in the metadata burst of its data group, in
line order (R162, R168). -/
def Loc.metaAt (l : Loc) : Nat :=
  if l.chan < 1024 then l.chan * 2 ^ 24 + l.line * 8
  else farMetaBase + (l.chan - 1024) * farMetaBytes + l.line / 8 * 64 + l.line % 8 * 8

/-- The line whose record a metadata byte belongs to. -/
def metaLoc (k : Nat) : Loc :=
  if k < farMetaBase then locOf (k / 2 ^ 24) (k % 2 ^ 24 / 8)
  else locOf (1024 + (k - farMetaBase) / farMetaBytes) ((k - farMetaBase) % farMetaBytes / 8)

/-- The metadata regions of a unit's channels. -/
def unitMeta (u : Nat) : Nat × Nat :=
  if u < 16 then (u * 2 ^ 30, (u + 1) * 2 ^ 30)
  else (farMetaBase + (u - 16) * 8 * farMetaBytes, farMetaBase + (u - 15) * 8 * farMetaBytes)

/-- The active map of a unit, and the pending one. -/
def State.activeMap (s : State) (u : Nat) : Nat :=
  if u < 16 then s.reg (kStackMap u) else s.reg (kGroupMap (u - 16))

def pendingKey (u : Nat) : Nat := if u < 16 then kStackMapPending u else kGroupMapPending (u - 16)

def unitWidth (u : Nat) : Nat := if u < 16 then 64 else 8

/-- Active channels of a unit; none when it is out of service (R181). -/
def State.activeChannels (s : State) (u : Nat) : Nat :=
  if s.tier.outOfService.contains u then 0 else popCount (s.activeMap u) (unitWidth u)

/-- Bytes of the populated part of a unit's window (R167, R169). -/
def State.populatedBytes (s : State) (u : Nat) : Nat :=
  s.activeChannels u * (if u < 16 then 2 ^ 27 else 7 * 2 ^ 30)

/-- The unit and offset of a near or far address. -/
def tierOffset (a : Nat) : Option (Nat × Nat) :=
  match placeOf a with
  | .near st o => some (st, o)
  | .far g o => some (16 + g, o)
  | _ => none

/-- The channel and line that hold a populated near or far address (R166, R169). -/
def State.locate (s : State) (a : Nat) : Option Loc :=
  match tierOffset a with
  | none => none
  | some (u, o) =>
    if s.populatedBytes u ≤ o then none
    else
      let n := s.activeChannels u
      let g := if u < 16 then 256 else 512
      some (locOf (firstChannel u + nthBit (s.activeMap u) (unitWidth u) (o / g % n)) ((o / g / n * g + o % g) / 64))

/-- The address that a line of a channel serves, the inverse of R166 and R169; none where the channel is mapped
out. -/
def State.addrOf (s : State) (l : Loc) : Option Nat :=
  let c := l.chan - firstChannel l.unit
  let map := s.activeMap l.unit
  if bit map c = false then none
  else
    let g := if l.unit < 16 then 4 else 8
    let o := ((l.line / g * s.activeChannels l.unit + popCount map c) * g + l.line % g) * 64
    some (if l.unit < 16 then l.unit * 2 ^ 33 + o else farBase + (l.unit - 16) * farWindow + o)

/-- The subsystem of a unit's tier: 4 near, 5 far (R2). -/
def tierSub (u : Nat) : Nat := if u < 16 then 4 else 5

/-- A near register, or the far register of the same meaning (R185). -/
def tierKey (u near far : Nat) : Nat := if u < 16 then near else far

/-- An event of R187 in the unit's tier. -/
def tierEvent (u near : Nat) : EventCode := if u < 16 then near else near + 0x01000000

/-! ### Faults of the tiers (R179) -/

/-- A channel fails in service (R179): it is fenced, its bit leaves the pending map, its repair queue
is dropped (R178), and the partition that holds its unit faults. -/
def State.failChannel (s : State) (u ch : Nat) : State :=
  if s.tier.fenced.contains ch then s
  else
    let base := if u < 16 then 64 * u else 1024 + 8 * (u - 16)
    let t := { s.tier with fenced := s.tier.fenced ++ [ch]
                           repairs := s.tier.repairs.filter (fun r => r.1 != ch) }
    let s := ({ s with tier := t }.setRegBit (pendingKey u) (ch - base) false).event
      (tierEvent u 0x04040004) 0 ch
    match s.unitPart u with
    | some p => s.faultPart p (mkReason (tierSub u) 4 0x03)
    | none => s

/-- An uncorrectable line in a row: three distinct rows within 1 s fail the channel (R179). -/
def State.noteUe (s : State) (l : Loc) : State :=
  let recent := (s.tier.ueRows ++ [(l.chan, l.row, s.now)]).filter (fun e => s.now < e.2.2 + nsPerS)
  let s := { s with tier := { s.tier with ueRows := recent } }
  let s := (s.bumpReg (tierKey l.unit kNearUeCount kFarUeCount) 1).event (tierEvent l.unit 0x04030003) 0 l.chan
  let rows := ((recent.filter (fun e => e.1 == l.chan)).map (fun e => e.2.1)).eraseDups
  if 3 ≤ rows.length then s.failChannel l.unit l.chan else s

/-- A correction counts against its row; four lines of a row, or sixteen corrections of one line,
queue the row for repair (R177). -/
def State.noteCe (s : State) (l : Loc) : State :=
  let n := tabGet s.tier.corrections l.metaAt 0 + 1
  let cs := tabSet s.tier.corrections l.metaAt n
  let s := { s with tier := { s.tier with corrections := cs } }
  let s := s.bumpReg (tierKey l.unit kNearCeCount kFarCeCount) 1
  let sameRow := (cs.filter (fun e => (metaLoc e.1).chan == l.chan && (metaLoc e.1).row == l.row)).length
  let key := (l.chan, l.row)
  if (4 ≤ sameRow ∨ 16 ≤ n) ∧ s.tier.repairs.contains key = false ∧
      s.tier.unrepaired.contains key = false ∧ s.tier.fenced.contains l.chan = false then
    { s with tier := { s.tier with repairs := s.tier.repairs ++ [key] } }
  else s

/-! ### Sorting a line (R163 to R165) -/

/-- The poison signature: what a poison-marked line's ECC field is XORed with (R165). -/
def poisonMark : Nat := 0x80000001

/-- The outcomes of R164. -/
inductive Sorted where
  | clean
  | poison
  | poisonCorrected
  | corrected
  | uncorrectable
  /-- Four or more wrong symbols that the code takes for one (free, log entry 10): the symbol it
  changes and by what. -/
  | miscorrected (sym : Nat) (x : Byte)
  deriving DecidableEq, Repr

/-- The pattern of wrong symbols: 72 bytes, of which symbols 68 to 71 are the stored ECC mark. -/
def errorPattern (errs : List (Fin 72 × Byte)) (mark : Nat) : List Byte :=
  errs.foldl (fun v e => v.set e.1.val (v.getD e.1.val 0 ^^^ e.2))
    (List.replicate 68 0 ++ leBytes 4 mark)

/-- Symbols in error. -/
def weight (v : List Byte) : Nat := (v.filter (fun b => b != 0)).length

/-- How a line with the pattern `v` of wrong symbols is sorted (R164). Two lines of the code differ in five symbols at
least, since it corrects any one and detects any two or three (R163): so a pattern can pass for clean, or for the poison
signature, only where five symbols differ, and for one symbol from either only where four do. Which patterns of that
many do is the code's own affair: `free` decides (log entry 10). -/
def sortLine (v : List Byte) (free : Nat) : Sorted :=
  let wp := weight (xorBytes v (errorPattern [] poisonMark))
  let wc := weight v
  let i := free / 5 % 72
  let b : Byte := BitVec.ofNat 8 (free / 360)
  if wc = 0 then .clean
  else if wp = 0 then .poison
  else if wp = 1 then .poisonCorrected
  else if wc = 1 then .corrected
  else if 5 ≤ wc ∧ free % 5 = 1 then .clean
  else if 5 ≤ wp ∧ free % 5 = 2 then .poison
  else if 4 ≤ wp ∧ free % 5 = 3 then .poisonCorrected
  else if 5 ≤ weight (v.set i (v.getD i 0 ^^^ b)) ∧ free % 5 = 4 then .miscorrected i b
  else .uncorrectable

/-! ### Keystream and tag (R188, R189) -/

/-- The counter block of R188. -/
def counterBlock (blk a version epoch moduleId : Nat) : List Byte :=
  leBytes 16 (blk + (a / 64) % 2 ^ 44 * 2 ^ 3 + version % 256 * 2 ^ 47 + epoch % 2 ^ 32 * 2 ^ 55 +
    moduleId % 2 ^ 14 * 2 ^ 87)

/-- The 64 keystream bytes of a line. -/
def keystream (sched : List Nat) (a version epoch moduleId : Nat) : List Byte :=
  (List.range 4).flatMap (fun b => aesBlock sched (counterBlock b a version epoch moduleId))

/-- The 24-bit tag of a ciphertext line: bits [23:0] are its first three bytes (R7, R189). -/
def lineTag (sched : List Nat) (a version epoch moduleId : Nat) (ct : List Byte) : List Byte :=
  let h := ofBe (aesBlock sched (List.replicate 16 0xFF))
  let g := beBytes 16 (ghash h (blocks16 ct))
  (xorBytes g (aesBlock sched (counterBlock 4 a version epoch moduleId))).take 3

/-! ### Ranges and keys (R194 to R198) -/

/-- Who makes an access: a partition of this module, or a borrower over a lending port (R196). -/
inductive Who where
  | part (p : Nat)
  | lent (moduleId p : Nat)
  deriving DecidableEq, Repr

/-- The enabled range that serves the requester at an address (R196). -/
def State.rangeFor (s : State) (w : Who) (a : Nat) : Option Nat :=
  (List.range 64).find? (fun e =>
    s.reg (kRangeState e) != 0 && decide (s.reg (kBase e) ≤ a) &&
      decide (a < s.reg (kBase e) + s.reg (kSize e)) &&
      match w with
      | .part p => s.reg (kOwner e) == p
      | .lent m p => s.reg (kOwner e) == 0x80 && s.reg (kLentTo e) == m + p * 2 ^ 14)

/-- The key that a handle names, while its slot is live. -/
def State.keyOf (s : State) (h : Handle) : Option (List Byte) :=
  let k := s.keySlot (hIndex h)
  if k.live ∧ k.gen = hGen h then some k.key else none

/-- The key of a request in range `e` (R197, R199): the key or the reason it has none. A range whose own slot has
been destroyed refuses every access, whatever KEY_INDEX it carries. -/
def State.rangeKey (s : State) (w : Who) (e keyIndex : Nat) : Except Reason (List Byte) :=
  match w with
  | .lent _ _ => .ok (tabGet s.enc.lentKeys e [])
  | .part p =>
    let compat := bit (s.reg kCompatPartitions) p && keyIndex != 0
    let h := if compat then s.reg (kCompatKey p keyIndex) else s.reg (kKeySlot e)
    if compat ∧ h = 0 then .error 0x6204
    else if (s.keyOf (s.reg (kKeySlot e))).isNone then .error 0x6205
    else match s.keyOf h with
      | some k => .ok k
      | none => .error 0x6205

/-- What has a temperature of its own (R171): stacks 0 to 15, packages 16 to 47. -/
def Loc.sensor (l : Loc) : Nat := if l.unit < 16 then l.unit else 16 + (l.chan - 1024) / 4

/-- The band of a stack or package (R171). -/
def State.bandAt (s : State) (q : Nat) : Nat :=
  if q < 16 then s.reg (kStackBand q) else tabGet s.tier.pkgBand (q - 16) 0

/-- Why a near or far address cannot be served by its tier: a fenced channel or a tripped stack or package
(R174, R179); 0 when it can. -/
def State.tierRefusal (s : State) (l : Loc) : Reason :=
  if s.tier.fenced.contains l.chan then mkReason (tierSub l.unit) 4 0x03
  else if s.bandAt l.sensor = 3 then mkReason (tierSub l.unit) 4 0x04
  else 0

/-- What a read of a line delivers: 64 bytes, whether they are poisoned, whether the fence records
POISON, and the reason that latches in it. -/
structure LineOut where
  data   : List Byte
  poison : Bool
  mark   : Bool
  err    : Reason
  deriving DecidableEq, Repr

def zeros64 : List Byte := List.replicate 64 0

/-- Zeros marked poisoned, with a reason. -/
def LineOut.bad (err : Reason) : LineOut := ⟨zeros64, true, true, err⟩

/-- A tag failure in range `e` (R199 step 6, R201): it is counted, and QUARANTINE_LIMIT of them
within 1 s quarantine the range. Its owner's fault waits until the fence of this read has latched its 0x6501. -/
def State.tagFail (s : State) (e : Nat) : State :=
  let s := ((s.bumpReg (kRangeTagFails e) 1).bumpReg kTagFailCount 1).event 0x06030001 0 e
  let times := ((tabGet s.enc.failTimes e []) ++ [s.now]).filter (fun t => s.now < t + nsPerS)
  let s := { s with enc := { s.enc with failTimes := tabSet s.enc.failTimes e times } }
  if times.length < s.reg kQuarantineLimit ∨ s.reg (kRangeState e) = 2 then s
  else
    let s := (s.setReg (kRangeState e) 2).event 0x06040002 0 e
    if s.reg (kOwner e) < 8 then { s with enc := { s.enc with limitHit := s.enc.limitHit ++ [e] } } else s

/-- The owners of ranges that have just been quarantined fault (R201). -/
def State.closeRanges (s : State) : State :=
  if s.enc.limitHit.isEmpty then s
  else s.enc.limitHit.foldl (fun s e => if s.reg (kOwner e) < 8 then s.faultPart (s.reg (kOwner e)) 0x6502 else s)
    { s with enc := { s.enc with limitHit := [] } }

/-- The code of a quarantined range: after a breach every range is closed with 0x6503 (R205). -/
def State.quarantineCode (s : State) : Reason := if s.reg kTamperState = 1 then 0x6503 else 0x6502

/-! ### Scrub lines (R188, R202) -/

/-- Ciphertext and tag of a scrub line under a scrub key and epoch: plaintext zero and VERSION 0. The module's id is
taken as it stands now (log entry 56). -/
def State.scrubLine (s : State) (key : List Byte) (epoch a : Nat) : List Byte × List Byte :=
  let sched := aesSchedule key
  let m := s.reg kModuleId
  let ct := keystream sched a 0 epoch m
  (ct, lineTag sched a 0 epoch m ct)

/-- A line as its channel holds it: ciphertext, tag, VERSION, and how its ECC field differs from a good one (R165). A
record of VERSION 0 is of a line not written since the last scrub of its unit. -/
def State.storedLine (s : State) (l : Loc) (a : Nat) : List Byte × List Byte × Nat × Nat :=
  let md := memRead 0 s.mem.metadata l.metaAt 8
  let version := ofLe (md.drop 7)
  let mark := ofLe (md.take 4)
  if version ≠ 0 then (memRead 0 s.mem.ram (a / 64 * 64) 64, (md.drop 4).take 3, version, mark)
  else
    match s.mem.scrubbed.find? (fun e => e.1 == l.unit) with
    | some e => ((s.scrubLine e.2.1 e.2.2 a).1, (s.scrubLine e.2.1 e.2.2 a).2, 0, mark)
    | none => (memRead 0 s.mem.ram (a / 64 * 64) 64, (md.drop 4).take 3, 0, mark)

/-- The VERSION that a line holds. -/
def State.versionAt (s : State) (a : Nat) : Nat :=
  match s.locate a with
  | some l => (memGet 0 s.mem.metadata (l.metaAt + 7)).toNat
  | none => 0

/-- The line that a read finds bears these wrong symbols from now on; where it names none, those that it bore stand
(log entry 51). -/
def State.symbolErrors (s : State) (a : Nat) (errs : List (Fin 72 × Byte)) : State :=
  if errs.isEmpty then s
  else
    match s.locate a with
    | some l => { s with mem := { s.mem with wrong := tabSet s.mem.wrong l.metaAt errs } }
    | none => s

/-- The engine's decision on a line that its tier delivered as `ct` and metadata `tag`, `version`
(R199, steps 2 to 6). -/
def State.engineRead (s : State) (w : Who) (a expect keyIndex : Nat) (ct tag : List Byte) (version u : Nat) :
    LineOut × State :=
  match s.rangeFor w a with
  | none => (.bad 0x6302, s.event 0x06020005 0x6302 0)
  | some e =>
    match s.rangeKey w e keyIndex with
    | .error r => (.bad r, s)
    | .ok key =>
      if s.reg (kRangeState e) = 2 then (.bad s.quarantineCode, s)
      else
        let s := if version = expect then s else s.bumpReg kVersionMisses 1
        let m := s.reg kModuleId
        if version = 0 then
          let ok := match s.enc.scrubKey, s.enc.scrubEpoch.find? (fun x => x.1 == u) with
            | some k, some x => decide (lineTag (aesSchedule k) a 0 x.2 m ct = tag)
            | _, _ => false
          if ok then (⟨zeros64, false, false, 0⟩, s.bumpReg kScrubbedReads 1) else (.bad 0x6501, s.tagFail e)
        else
          let sched := aesSchedule key
          let epoch := s.reg (kRangeEpoch e)
          if lineTag sched a version epoch m ct = tag then
            (⟨xorBytes ct (keystream sched a version epoch m), false, false, 0⟩, s)
          else (.bad 0x6501, s.tagFail e)

/-- One line read from near or far memory (R164, R199). `sub` is the issuing unit's subsystem (R11). -/
def State.readLine (s : State) (w : Who) (sub a expect keyIndex : Nat) : LineOut × State :=
  match s.locate a with
  | none => (.bad (mkReason sub 0 0xF8), s)
  | some l =>
    if s.tierRefusal l ≠ 0 then (.bad (s.tierRefusal l), s)
    else
      let x := s.storedLine l a
      let v := errorPattern (tabGet s.mem.wrong l.metaAt []) x.2.2.2
      let stored := x.1 ++ x.2.1 ++ leBytes 1 x.2.2.1
      let engine := fun (s : State) (line : List Byte) =>
        s.engineRead w a expect keyIndex (line.take 64) ((line.drop 64).take 3) (ofLe (line.drop 67)) l.unit
      match sortLine v (Config.eccOutcome v) with
      | .poison => (⟨zeros64, true, true, 0⟩, s.bumpReg (tierKey l.unit kNearPoisonReads kFarPoisonReads) 1)
      | .poisonCorrected =>
        (⟨zeros64, true, true, 0⟩,
          (s.bumpReg (tierKey l.unit kNearPoisonReads kFarPoisonReads) 1).noteCe l)
      | .uncorrectable => (.bad (mkReason (tierSub l.unit) 4 0x01), s.noteUe l)
      | .corrected => engine (s.noteCe l) stored
      | .clean => engine s (xorBytes stored (v.take 68))
      | .miscorrected i b => engine (s.noteCe l) (xorBytes stored ((v.set i (v.getD i 0 ^^^ b)).take 68))

/-- A stored line with its metadata (R162, R165): whatever was wrong in it is overwritten. -/
def State.storeLine (s : State) (l : Loc) (a : Nat) (ct tag : List Byte) (version : Nat) (poison : Bool) : State :=
  let md := leBytes 4 (if poison then poisonMark else 0) ++ tag ++ leBytes 1 version
  { s with mem := { s.mem with ram := memWrite 0 s.mem.ram (a / 64 * 64) (padTo 64 0 ct)
                               metadata := memWrite 0 s.mem.metadata l.metaAt (padTo 8 0 md)
                               wrong := tabErase s.mem.wrong l.metaAt } }

/-- One line written to near or far memory (R190, R196, R199, R200): the reason that latches, 0 when
it was written. -/
def State.writeLine (s : State) (w : Who) (sub a version keyIndex : Nat) (data : List Byte)
    (poison : Bool) : Reason × State :=
  match s.locate a with
  | none => (mkReason sub 0 0xF8, s)
  | some l =>
    if version % 256 = 0 then (0x6002, s)
    else if s.tierRefusal l ≠ 0 then (s.tierRefusal l, s)
    else
      match s.rangeFor w a with
      | none => (0x6302, s.event 0x06020005 0x6302 0)
      | some e =>
        match s.rangeKey w e keyIndex with
        | .error r => (r, s)
        | .ok key =>
          if s.reg (kRangeState e) = 2 then (s.quarantineCode, s)
          else
            let sched := aesSchedule key
            let epoch := s.reg (kRangeEpoch e)
            let m := s.reg kModuleId
            let ct := xorBytes (padTo 64 0 data) (keystream sched a version epoch m)
            (0, s.storeLine l a ct (lineTag sched a version epoch m ct) (version % 256) poison)

/-! ### Cell stores (R89, R91) -/

/-- The poison bit of a cell line. -/
def State.cellPoisoned (s : State) (c line : Nat) : Bool :=
  memGet 0 s.mem.cellPoison (c * cellLines + line) != 0

def State.setCellPoison (s : State) (c line : Nat) (b : Bool) : State :=
  { s with mem := { s.mem with
      cellPoison := memSet 0 s.mem.cellPoison (c * cellLines + line) (if b then 1 else 0) } }

/-- One byte of a cell store; beyond line 32,767 a zero (R91). -/
def State.cellByte (s : State) (c a : Nat) : Byte :=
  if a < cellBytes then memGet 0 s.mem.ram (cellBase + c * cellBytes + a) else 0

/-- `n` bytes of a cell store as a little-endian number. -/
def State.cellLe (s : State) (c a n : Nat) : Nat :=
  ofLe ((List.range n).map (fun i => s.cellByte c (a + i)))

/-- Whether a line reads as poisoned: beyond the store every line does (R91). -/
def State.linePoison (s : State) (c line : Nat) : Bool :=
  if line < cellLines then s.cellPoisoned c line else true

/-- One whole line read. -/
def State.cellLine (s : State) (c line : Nat) : List Byte :=
  (List.range 64).map (fun i => s.cellByte c (line * 64 + i))

/-- One whole line written, with its poison bit (R89); beyond the store it is dropped. -/
def State.putCellLine (s : State) (c line : Nat) (data : List Byte) (poison : Bool) : State :=
  if line < cellLines then
    { s with mem := { s.mem with
        ram := memWrite 0 s.mem.ram (cellBase + c * cellBytes + line * 64) (padTo 64 0 data) } }.setCellPoison
      c line poison
  else s

/-- Bytes of a line that a list of writes covers, with the poison they carry: the writes of one
entry to one line count as one write (R89). -/
def lineCover (puts : List CellPut) (c line : Nat) : Nat × Bool :=
  puts.foldl (fun acc w =>
    if w.cluster ≠ c then acc
    else
      let lo := max w.addr (line * 64)
      let hi := min (w.addr + w.data.length) (line * 64 + 64)
      if lo < hi then
        (ofBits (bitsOf acc.1 64 ++ (List.range (hi - lo)).map (fun i => lo - line * 64 + i)),
          acc.2 || w.poison)
      else acc) (0, false)

/-- The bytes of a write that lie within the store. -/
def inStore (w : CellPut) : List Byte := w.data.take (cellBytes - w.addr)

/-- The writes of one entry take effect: bytes, then the poison bit of every line touched (R89). -/
def State.applyPuts (s : State) (puts : List CellPut) : State :=
  let marks := (touched puts).map (fun cl =>
    let cov := lineCover puts cl.1 cl.2
    (cl, if cov.1 = 2 ^ 64 - 1 then cov.2 else cov.2 || s.cellPoisoned cl.1 cl.2))
  let s := puts.foldl (fun t w =>
    { t with mem := { t.mem with
        ram := memWrite 0 t.mem.ram (cellBase + w.cluster * cellBytes + w.addr) (inStore w) } }) s
  marks.foldl (fun t m => t.setCellPoison m.1.1 m.1.2 m.2) s

/-! ### Host memory and translation (R397 to R400) -/

def State.hostRead (s : State) (a n : Nat) : List Byte := memRead 0 s.mem.host a n

def State.hostWrite (s : State) (a : Nat) (l : List Byte) : State :=
  { s with mem := { s.mem with host := memWrite 0 s.mem.host a l } }

/-- Bytes of a page of a memory object. -/
def MemObj.pageSize (m : MemObj) : Nat := if m.big then 2 ^ 21 else 2 ^ 16

/-- The memory object of a partition whose span holds a virtual address. -/
def State.memobjAt (s : State) (p va : Nat) : Option MemObj :=
  s.objs.memobjs.find? (fun m => hPart m.handle == p && decide (m.base ≤ va) && decide (va < m.base + m.size))

def State.memobj? (s : State) (h : Handle) : Option MemObj := s.objs.memobjs.find? (fun m => m.handle == h)

/-- The global address that a page table gives for an address of an object. -/
def MemObj.translate (m : MemObj) (va : Nat) : Option Nat :=
  let i := (va - m.base) / m.pageSize
  match m.pages.find? (fun e => e.1 == i) with
  | some (_, t) => some (t + (va - m.base) % m.pageSize)
  | none => none

/-- Where a virtual address of partition `p` leads: the local address here, the module and local
address elsewhere, or nothing mapped (R13, R14, R400). -/
inductive Target where
  | here (a : Nat)
  | there (moduleId a : Nat)
  | unmapped
  deriving DecidableEq, Repr

/-- A global address seen from this module (R13, R14). -/
def State.targetOf (s : State) (g : Nat) : Target :=
  if g / 2 ^ 50 = s.reg kModuleId then .here (g % 2 ^ 50) else .there (g / 2 ^ 50) (g % 2 ^ 50)

def State.translate (s : State) (p va : Nat) : Target :=
  match s.memobjAt p va with
  | none => .unmapped
  | some m =>
    match m.translate va with
    | none => .unmapped
    | some g => s.targetOf g

/-- Whether a virtual address lies in near memory of this module (R87). -/
def State.inNear (s : State) (p va : Nat) : Bool :=
  match s.translate p va with
  | .here a => decide (a < nearEnd)
  | _ => false

/-- The staged forwarding tables in the register window (R238): partition and first module id of a
line. -/
def fwdWindow (off : Nat) : Option (Nat × Nat) :=
  if 0x800000 ≤ off ∧ off < 0x800000 + 8 * 0x8000 then
    some ((off - 0x800000) / 0x8000, (off - 0x800000) % 0x8000 / 2)
  else none

/-- A staged forwarding entry; reserved bits read 0 (R9, R238). -/
def State.fwdStagedAt (s : State) (p id : Nat) : Nat := tabGet s.fabric.fwdStaged (p * 16384 + id) 0

/-- A line of partition `p` read at a virtual address by an engine or a copy (R11, R400): `sub` is
the issuing unit's subsystem. Memory of another module delivers nothing here. -/
def State.readVa (s : State) (p sub va expect keyIndex : Nat) : LineOut × State :=
  match s.translate p va with
  | .unmapped => (.bad 0xA003, s.bumpReg kUnmappedAccesses 1)
  | .there _ _ => (.bad (mkReason sub 0 0xF8), s)
  | .here a =>
    match placeOf a with
    | .near _ _ => s.readLine (.part p) sub a expect keyIndex
    | .far _ _ => s.readLine (.part p) sub a expect keyIndex
    | .cell c o => (⟨s.cellLine c (o / 64), s.cellPoisoned c (o / 64), s.cellPoisoned c (o / 64), 0⟩, s)
    | .host o => (⟨s.hostRead o 64, false, false, 0⟩, s)
    | .regs o =>
      match fwdWindow o with
      | some (q, id) =>
        (⟨(List.range 32).flatMap (fun i => leBytes 2 (s.fwdStagedAt q (id + i))), false, false, 0⟩, s)
      | none => (.bad (mkReason sub 0 0xF8), s)
    | .nowhere => (.bad (mkReason sub 0 0xF8), s)

/-- A line of partition `p` written at a virtual address. -/
def State.writeVa (s : State) (p sub va version keyIndex : Nat) (data : List Byte) (poison : Bool) :
    Reason × State :=
  match s.translate p va with
  | .unmapped => (0xA003, s.bumpReg kUnmappedAccesses 1)
  | .there _ _ => (mkReason sub 0 0xF8, s)
  | .here a =>
    match placeOf a with
    | .near _ _ => s.writeLine (.part p) sub a version keyIndex data poison
    | .far _ _ => s.writeLine (.part p) sub a version keyIndex data poison
    | .cell c o => (0, s.putCellLine c (o / 64) data poison)
    | .host o => (0, s.hostWrite o (padTo 64 0 data))
    | .regs o =>
      match fwdWindow o with
      | some (q, id) =>
        if q = p then
          let t := (List.range 32).foldl (fun t i =>
            tabSet t (q * 16384 + id + i) (ofLe ((data.drop (2 * i)).take 2) % 2 ^ 12)) s.fabric.fwdStaged
          (0, { s with fabric := { s.fabric with fwdStaged := t } })
        else (mkReason sub 0 0xF8, s)
      | none => (mkReason sub 0 0xF8, s)
    | .nowhere => (mkReason sub 0 0xF8, s)

/-- What several lines deliver together. -/
structure LinesOut where
  data   : List Byte
  poison : Bool
  err    : Reason
  deriving DecidableEq, Repr

/-- `n` lines from the line of a virtual address on, read by a unit of subsystem `sub`; the first
reason stands. -/
def State.readLinesVa (s : State) (p sub va n expect keyIndex : Nat) : LinesOut × State :=
  (List.range n).foldl (fun acc i =>
    let r := acc.2.readVa p sub (va / 64 * 64 + 64 * i) expect keyIndex
    (⟨acc.1.data ++ r.1.data, acc.1.poison || r.1.poison, if acc.1.err = 0 then r.1.err else acc.1.err⟩,
      r.2)) (⟨[], false, 0⟩, s)

/-- `n` bytes at a virtual address, through the lines that hold them. -/
def State.readBytesVa (s : State) (p sub va n expect keyIndex : Nat) : LinesOut × State :=
  if n = 0 then (⟨[], false, 0⟩, s)
  else
    let r := s.readLinesVa p sub va ((va + n - 1) / 64 - va / 64 + 1) expect keyIndex
    (⟨(r.1.data.drop (va % 64)).take n, r.1.poison, r.1.err⟩, r.2)

/-- Bytes written within one line: a cell line keeps its other bytes under R89; a tier's line is read,
patched and written whole, so that a line that was poisoned stays poisoned (log entry 13). -/
def State.patchVa (s : State) (p sub va version keyIndex : Nat) (data : List Byte) (poison : Bool) :
    Reason × State :=
  match s.translate p va with
  | .here a =>
    match placeOf a with
    | .cell c o => (0, s.applyPuts [⟨c, o, data, poison⟩])
    | .host o => (0, s.hostWrite o data)
    | _ =>
      if data.length = 64 then s.writeVa p sub va version keyIndex data poison
      else
        let r := s.readVa p sub (va / 64 * 64) version keyIndex
        let o := va % 64
        r.2.writeVa p sub (va / 64 * 64) version keyIndex
          (r.1.data.take o ++ data ++ r.1.data.drop (o + data.length)) (poison || r.1.poison)
  | _ => s.writeVa p sub va version keyIndex data poison

/-- Bytes written from a virtual address on, line by line; the first reason stands. -/
def State.writeBytesVa (s : State) (p sub va version keyIndex : Nat) (data : List Byte) (poison : Bool) :
    Reason × State :=
  let first := data.take (64 - va % 64)
  let pieces := (va, first) :: ((chunksOf 64 (data.length + 1) (data.drop first.length)).zipIdx).map
    (fun e => (va / 64 * 64 + 64 * (e.2 + 1), e.1))
  pieces.foldl (fun acc e =>
    if e.2.isEmpty then acc
    else
      let r := acc.2.patchVa p sub e.1 version keyIndex e.2 poison
      (if acc.1 = 0 then r.1 else acc.1, r.2)) (0, s)

/-- Whether every line of `[va, va + 64 n)` satisfies the check. -/
def allLines (va n : Nat) (f : Nat → Bool) : Bool := (List.range n).all (fun i => f (va + 64 * i))

end Sys2Proof.Machine
end

