-- ==== Sys2Proof/Machine/Access.lean ====
section
/-! DEFINITION. One access to the object dictionary: the checks of R412, locks and leases (R417 to
R420), the expert unlock (R411), readiness (R421), and what a broken lock or a bumped epoch does
(R364, R376, R404, R420). -/

namespace Sys2Proof.Machine

/-! ### Which entry an index names -/

/-- The index lies in a set of eight indexed by partition. -/
def inSet (base index : Nat) : Bool := decide (base ≤ index) && decide (index < base + 8)

/-- The subsystem whose READY_MAP bit an index waits for (R407, R421). -/
def subsystemOf (index : Nat) : Nat :=
  if index < 0x2000 then 12
  else if index = 0x2001 ∨ inSet 0x2010 index then 1
  else if index < 0x3000 then 12
  else if index < 0x4000 then 11
  else if index < 0x4800 then 1
  else if index < 0x5000 then 2
  else if index < 0x5800 then 3
  else if index < 0x6000 then 4
  else if index < 0x6800 then 5
  else if index < 0x7000 then 6
  else if index < 0x7800 then 7
  else if index < 0x8000 then 8
  else if index < 0x8800 then 9
  else if index < 0x9000 then 10
  else if index < 0x9800 then 11
  else 12

/-- Whether the entry is served in doldrums (R435). -/
def doldrumsServes (index : Nat) : Bool :=
  decide (index < 0x3000) || (decide (0xA000 ≤ index) && decide (index < 0xA800))

/-- The lock group of an entry: the index of the staged group that guards it (R414, R417). -/
def lockGroup (index sub : Nat) : Option Nat :=
  let within := fun (hi : Nat) => if 1 ≤ sub ∧ sub ≤ hi then some index else none
  if inSet 0x2010 index then within 0x07
  else if inSet 0x3010 index then within 0x06
  else if inSet 0x5010 index then within 0x04
  else if index = 0x5801 ∨ index = 0x6001 then (if sub = 0x07 ∨ sub = 0x08 then some index else none)
  else if 0x6810 ≤ index ∧ index < 0x6850 then within 0x05
  else if inSet 0x7020 index then (if sub = 0x02 ∨ sub = 0x04 then some index else none)
  else if inSet 0x7810 index then
    (if 1 ≤ sub ∧ sub ≤ 0x13 then some index else none)
  else if inSet 0x8010 index then
    (if (1 ≤ sub ∧ sub ≤ 0x0A) ∨ sub = 0x0C then some index else none)
  else if index = 0x9001 then (if 2 ≤ sub ∧ sub ≤ 4 then some index else none)
  else if inSet 0x9020 index then within 0x03
  else if index = 0x9801 then within 0x08
  else if index = 0xA801 then within 0x04
  else none

/-- The enable sub-index of a group (R414). -/
def enableSub (group : Nat) : Nat :=
  if inSet 0x2010 group then 0x07
  else if inSet 0x3010 group then 0x06
  else if inSet 0x5010 group then 0x04
  else if group = 0x5801 ∨ group = 0x6001 then 0x08
  else if 0x6810 ≤ group ∧ group < 0x6850 then 0x05
  else if inSet 0x7020 group then 0x02
  else if inSet 0x7810 group then 0x11
  else if inSet 0x8010 group then 0x0A
  else if inSet 0x9020 group then 0x03
  else 0x04

/-- Whether a write to the entry only stages (R414). -/
def stagedSub (index sub : Nat) : Bool :=
  match lockGroup index sub with
  | none => false
  | some g =>
    if sub = enableSub g then false
    else if g = 0x9801 then decide (sub ≤ 3)
    else if inSet 0x9020 g then false
    else if inSet 0x7810 g then decide (sub ≠ 0x11)
    else true

/-- The staged keys of a group. -/
def groupKeys (g : Nat) : List Nat :=
  ((List.range 32).filter (fun sub => stagedSub g sub)).map (fun sub => dkey g sub)

/-- The partition of a group indexed by partition, or 8 for a device-wide group (R418). -/
def groupScope (g : Nat) : Nat :=
  if inSet 0x2010 g ∨ inSet 0x3010 g ∨ inSet 0x5010 g ∨ inSet 0x7020 g ∨ inSet 0x7810 g ∨
      inSet 0x8010 g ∨ inSet 0x9020 g then g % 16
  else 8

/-- The entry of a sequence lock (R417): its number `i` of 0x1030 + i. -/
def sequenceLock (g : Nat) : Option Nat :=
  if inSet 0x3010 g then some (g - 0x3010)
  else if inSet 0x9020 g then some (8 + (g - 0x9020))
  else if g = 0x9801 then some 16
  else none

/-- The group that a sequence lock's entry stands for. -/
def sequenceGroup (i : Nat) : Nat :=
  if i < 8 then 0x3010 + i else if i < 16 then 0x9020 + (i - 8) else 0x9801

/-! ### Key slots and what destroying one does (R361, R364) -/

/-- The uses that pin a key slot (R361): partition and the code its fault carries. -/
def State.keyUses (s : State) (h : Handle) : List (Nat × Reason) :=
  ((List.range 64).filter (fun e => s.reg (kRangeState e) != 0 && s.reg (kKeySlot e) == h &&
      decide (s.reg (kOwner e) < 8))).map (fun e => (s.reg (kOwner e), 0x6205)) ++
  (parts8.filter (fun p => (List.range 256).any (fun i => i != 0 && s.reg (kCompatKey p i) == h))).map
    (fun p => (p, 0xB206)) ++
  (parts8.filter (fun p => s.reg (kCkptKeySlot p) == h || s.reg (kRestoreKeySlot p) == h)).map
    (fun p => (p, 0xB206)) ++
  (parts8.filter (fun p => (s.part p).state == stRunning && (s.part p).dataKeys.any (fun d => d.2.2 == h))).map
    (fun p => (p, 0xB206))

/-- A key slot's handle (R15). -/
def State.slotHandle (s : State) (i : Nat) : Handle :=
  let k := s.keySlot i
  mkHandle 8 k.owner k.gen i

/-- The fault of a use of a key that is gone; that of an enabled range raises event 0x0603_0006 (R208). -/
def State.useGone (s : State) (u : Nat × Reason) : State :=
  (if u.2 = 0x6205 then s.event 0x06030006 u.2 u.1 else s).faultPart u.1 u.2

/-- DESTROY of slot `i` (R364): the key is overwritten and cleared, the generation advances, event
0x0B00_0008, and every function that used it faults. -/
def State.destroySlot (s : State) (i : Nat) : State :=
  let k := s.keySlot i
  let uses := if k.live then s.keyUses (s.slotHandle i) else []
  let s := match s.drbg 32 false with
    | some (_, t) => t
    | none => s
  let s := (s.setKeySlot i { KeySlot.empty with gen := nextGen k.gen }).event 0x0B000008 0 i
  uses.foldl State.useGone s

/-! ### Queues in error and epochs (R375, R376, R392, R404) -/

/-- A queue goes to error (R389, R392): its fence latches the reason, event 0x0A02_0002. -/
def State.queueError (s : State) (h : Handle) (reason : Reason) : State :=
  match s.objs.queues.find? (fun q => q.handle == h) with
  | none => s
  | some q =>
    if q.error then s
    else
      let q' := { q with error := true, errReason := reason, waiting := none }
      let qs := s.objs.queues.map (fun x => if x.handle = h then q' else x)
      ((({ s with objs := { s.objs with queues := qs } }).latch q.fence reason false).event 0x0A020002 reason
        (hPart h))

/-- The recovery epoch of a partition, or of the device for 8, with 0 skipped when it rises. -/
def State.epochOf (s : State) (p : Nat) : Nat := s.reg (kRecoveryEpoch p)

/-- A staging session ends without its commit (R474): erases, pages and copies that wait are dropped, and
the VOID record stands. -/
def State.endStaging (s : State) : State :=
  let st := s.reg kFwState
  if st = 0 ∨ st = 4 then s
  else
    let ops := s.fw.ops.filter (fun o => match o with
      | .body _ _ _ => true
      | .marker _ => true
      | _ => false)
    { s with fw := { s.fw with ops := ops, staged := 0 } }.setReg kFwState 0

/-- A lock breaks (R420): it is freed, its staged copy is gone, LOCK_BREAKS rises, event 0x0C02_0001,
its owner's expert unlock lapses (R411) and owes one refusal; a build lock returns its partition to
FREE, a key-loading lock destroys its provisional slots. -/
def State.breakLock (s : State) (g : Nat) : State :=
  match s.locks.find? (fun l => l.group == g) with
  | none => s
  | some l =>
    let s := { s with locks := s.locks.filter (fun x => x.group != g)
                      owed := s.owed ++ [(g, l.owner)]
                      expert := tabErase s.expert l.owner }
    let s := (s.dropStaged (groupKeys g)).event 0x0C020001 0 g
    let s := match sequenceLock g with
      | some i => s.bumpReg (kLockBreaks i) 1
      | none => s
    if inSet 0x3010 g then
      (if (s.part (g % 16)).state = stBuilding then s.setPartState (g % 16) stFree else s)
    else if inSet 0x9020 g then
      (s.sec.keys.filter (fun k => k.2.provisional && k.2.owner == g % 16)).foldl
        (fun t k => t.destroySlot k.1) s
    else if g = 0x9801 then s.endStaging
    else s

/-- Every lock that the check picks breaks. -/
def State.breakLocks (s : State) (f : Lock → Bool) : State :=
  (s.locks.filter f).foldl (fun t l => t.breakLock l.group) s

/-- An epoch rises (R376): event 0x0B01_0009, and every grant of the scope ends: its locks break
(R419) and, for a partition, its VF's queues go to error with 0xB205 (R404). -/
def State.bumpEpoch (s : State) (p : Nat) : State :=
  let e := s.epochOf p
  let s := (s.setReg (kRecoveryEpoch p) (if e = 0xFFFF then 1 else e + 1)).event 0x0B010009 0 p
  let s := s.breakLocks (fun l => l.scope == p && l.epoch == e)
  if p < 8 then
    (s.objs.queues.filter (fun q => hPart q.handle == p && !q.error)).foldl
      (fun t q => t.queueError q.handle 0xB205) s
  else s

/-- A request with a stale epoch is dropped (R375): event 0x0B02_000A. -/
def State.staleEpoch (s : State) (p : Nat) : State := s.event 0x0B02000A 0xB205 p

/-! ### The access (R410 to R421) -/

/-- Whether the management controller serves the dictionary at all: it runs, and its own image has
passed (R441 step 4). -/
def State.serves (s : State) : Bool :=
  (s.power.mode == .running || s.power.mode == .doldrums) && bit (s.reg kReadyMap) 12

/-- Whether the module takes part in the CAN bus (R424, R430): it has a node id, is not bus-off, and the bus
does not sleep. -/
def State.onBus (s : State) : Bool :=
  s.serves && s.reg kNodeId != 0 && !s.mgmt.busOff && s.reg kBusState != 2

/-- A requester's accesses reach the controller: a node's over the bus unless the NMT state is stopped
(R426), the mailbox's while the PF answers (R440, R485). -/
def State.reaches (s : State) (r : Requester) : Bool :=
  match r with
  | .node id => s.onBus && id.val != 0 && s.reg kNmtState != 4
  | .mailbox => s.serves && s.power.mode == .running && !s.power.perst
  | .jobServices => s.serves && s.power.mode == .running

/-- A wake-up request cancels the lull agreement while its window runs (R430). -/
def State.cancelLull (s : State) : State :=
  match s.mgmt.window with
  | none => s
  | some t =>
    if t + s.reg kToLullWindowMs * 1000000 < s.now then s
    else ({ s with mgmt := { s.mgmt with window := none } }.setReg kBusState 0).event 0x0C010005 0 0

/-- A node's access is a frame on the bus: it cancels the lull agreement. -/
def State.noteFrame (s : State) (r : Requester) : State :=
  match r with
  | .node _ => s.cancelLull
  | _ => s

/-- Whether a requester holds the expert unlock now (R411). -/
def State.expertHeld (s : State) (r : Requester) : Bool :=
  s.expert.any (fun e => e.1 == reqCode r && decide (s.now ≤ e.2.1 + e.2.2))

/-- Every access of a requester renews its unlock (R411). -/
def State.touchExpert (s : State) (r : Requester) : State :=
  if s.expertHeld r then
    { s with expert := s.expert.map (fun e => if e.1 = reqCode r then (e.1, s.now, e.2.2) else e) }
  else { s with expert := tabErase s.expert (reqCode r) }

/-- Entries of single values at sub-index 0x00 (R408). -/
def singleEntry (index : Nat) : Bool := index == 0x1000 || index == 0x1001 || index == 0x1017

/-- The row of an entry; sub-index 0x00 of a record reads as a U8 (R408). -/
def entryRow (index sub : Nat) : Option DRow :=
  if sub = 0 ∧ singleEntry index = false then some ⟨index, 1, 0, 1, 1, .ro, false, highestSub index⟩
  else dictRow index sub

/-- The checks of R412 up to the lock, for a write of `len` bytes or a read. -/
def State.accessCheck (s : State) (r : Requester) (index sub : Nat) (len : Option Nat) : Reason :=
  if 0xF000 ≤ index ∧ s.reg kLcState ≠ 2 then 0xC301
  else if indexExists index = false then 0xC001
  else
    match entryRow index sub with
    | none => 0xC002
    | some row =>
      if len.isSome ∧ len ≠ some row.bytes then 0xC004
      else if len.isSome ∧ (row.acc = .ro ∨ row.acc = .rc) then 0xC301
      else if len = none ∧ row.acc = .wo then 0xC302
      else if row.expert ∧ s.expertHeld r = false then 0xC303
      else if len.isSome ∧ bit (s.reg kReadyMap) (subsystemOf index) = false ∧
          s.power.mode ≠ .doldrums then 0xC202
      else if s.power.mode = .doldrums ∧ doldrumsServes index = false then 0xC203
      else
        match lockGroup index sub with
        | none => 0
        | some g =>
          if s.locks.any (fun l => l.group == g && l.owner != reqCode r) then 0xC201 else 0

/-- A refusal is kept in the requester's LAST_REASON (R412) and, for the 0x1000 block, in
MGMT_REFUSAL. -/
def State.keepReason (s : State) (r : Requester) (index : Nat) (reason : Reason) : State :=
  let s := match r with
    | .node id => s.setReg (kLastReason id.val) reason
    | .mailbox => s.setReg kLastReasonMbx reason
    | .jobServices => s
  if index < 0x2000 then s.setReg kMgmtRefusal reason else s

/-- A refused write: the encryption engine's block records it in ENC_REFUSAL too (R207). -/
def State.keepRefusal (s : State) (r : Requester) (index : Nat) (reason : Reason) : State :=
  let s := s.keepReason r index reason
  if 0x6801 ≤ index ∧ index < 0x6870 then s.setReg kEncRefusal reason else s

/-- The lock of the group is taken, or its lease refreshed (R418). -/
def State.takeLock (s : State) (r : Requester) (g : Nat) : State :=
  let lease := s.now + s.reg kToLeaseMs * 1000000
  if s.locks.any (fun l => l.group == g) then
    { s with locks := s.locks.map (fun l => if l.group = g then { l with leaseEnd := lease } else l) }
  else
    { s with locks := s.locks ++ [⟨g, reqCode r, s.now, lease, groupScope g, s.epochOf (groupScope g)⟩] }

/-- The lock of the group is released and its staged copy discarded (R415, R418). -/
def State.releaseLock (s : State) (g : Nat) : State :=
  { s with locks := s.locks.filter (fun l => l.group != g) }.dropStaged (groupKeys g)

/-- Requests that are a partition's own settings, or a range of one, are closed to the normal world
from LOCKED onward (R334); map entries are written while FREE or BUILDING (R330). -/
def State.stateGate (s : State) (r : Requester) (index sub : Nat) : Reason :=
  let closed := fun (p : Nat) => lockedState (s.part p).state && r != .jobServices
  if inSet 0x2010 index ∨ inSet 0x5010 index ∨ inSet 0x7020 index ∨ inSet 0x7810 index then
    (if closed (index % 16) then 0xB240 else 0)
  else if inSet 0x8010 index then
    (if closed (index % 16) ∧ sub ≠ 0x0B then 0xB240 else 0)
  else if 0x6810 ≤ index ∧ index < 0x6850 then
    let o := s.reg (kOwner (index - 0x6810))
    let o' := s.stagedReg (kOwner (index - 0x6810))
    (if (o < 8 ∧ closed o) ∨ (o' < 8 ∧ closed o') then 0xB240 else 0)
  else if inSet 0x6860 index then (if closed (index % 16) then 0xB240 else 0)
  else if inSet 0x3010 index ∧ 1 ≤ sub ∧ sub ≤ 4 then
    (if (s.part (index % 16)).state = stFree ∨ (s.part (index % 16)).state = stBuilding then 0 else 0xB240)
  else 0

/-- An enable that a commit accepted holds the 1 it was written with (R410), but for those of R185, which
read back 0, and those that follow what they enable (R49, R195). -/
def State.holdEnable (s : State) (index sub : Nat) : State :=
  if index = 0x5801 ∨ index = 0x6001 ∨ inSet 0x2010 index ∨ (0x6810 ≤ index ∧ index < 0x6850) then s
  else if (dictRow index sub).any (fun r => r.acc == .rw) then s.setReg (dkey index sub) 1
  else s

/-- A write: the checks of R412, the one refusal owed after a break (R420), the lock (R418), then the
owning chapter's operation `op`. Answers the reason, 0 for an accepted write. `commits` says that
the write is an enable: accepted, it releases the lock. -/
def State.write (s : State) (r : Requester) (index sub len : Nat) (commits : Bool)
    (op : State → Reason × State) : Reason × State :=
  if s.reaches r = false then (0xC202, s)
  else
    let s := (s.noteFrame r).touchExpert r
    let c := s.accessCheck r index sub (some len)
    if c ≠ 0 then (c, s.keepRefusal r index c)
    else
      match lockGroup index sub with
      | none =>
        let g := s.stateGate r index sub
        if g ≠ 0 then (g, s.keepRefusal r index g)
        else
          let (c, t) := op s
          (c, if c = 0 then t else t.keepRefusal r index c)
      | some g =>
        if s.owed.contains (g, reqCode r) then
          (0xC601, ({ s with owed := s.owed.erase (g, reqCode r) }).keepRefusal r index 0xC601)
        else
          let s := s.takeLock r g
          let c := s.stateGate r index sub
          if c ≠ 0 then (c, s.keepRefusal r index c)
          else
            let (c, t) := op s
            if c ≠ 0 then (c, t.keepRefusal r index c)
            else (0, if commits then (t.releaseLock g).holdEnable index sub else t)

/-- A value staged, after the checks that the owning chapter makes at the write itself: R50 for the
gust settings, and R330, by which the first staged write to a free partition's maps makes it
BUILDING. -/
def stageWrite (index sub v : Nat) (s : State) : Reason × State :=
  if inSet 0x2010 index ∧ s.reg (kGustEnable (index - 0x2010)) = 1 then
    (0x1201, s.setReg (kGustRefusal (index - 0x2010)) 0x1201)
  else
    let s := s.stage (dkey index sub) v
    if inSet 0x3010 index ∧ (s.part (index % 16)).state = stFree then
      (0, s.setPartState (index % 16) stBuilding)
    else (0, s)

/-- The state of a write of an 8-bit enable or request entry, made by a command of its own. -/
def State.writeU8 (s : State) (r : Requester) (index sub : Nat) (commits : Bool)
    (op : State → Reason × State) : State := (s.write r index sub 1 commits op).2

end Sys2Proof.Machine
end

