-- ==== Sys2Proof/Machine/Float.lean ====
section
/-! DEFINITION. Exact numbers and IEEE 754 formats: the arithmetic of R5, R94 to R101, R119 to R121
and R152. Bit patterns are natural numbers; a decoded value is exact. -/

namespace Sys2Proof.Machine

/-- An exact value: `fin s m e` is `(-1)^s · m · 2^e`, with a signed zero when `m` is 0. -/
inductive Val where
  | nan
  | inf (neg : Bool)
  | fin (neg : Bool) (m : Nat) (e : Int)
  deriving DecidableEq, Repr

/-- A binary floating format: exponent bits, fraction bits, bias, and what the top exponent holds:
0 only finite values, 1 finite values but for the all-ones NaN of FP8 E4M3, 2 as IEEE 754. -/
structure Fmt where
  eb   : Nat
  mb   : Nat
  bias : Nat
  top  : Nat
  deriving DecidableEq, Repr

def fmtF32 : Fmt := ⟨8, 23, 127, 2⟩
def fmtBf16 : Fmt := ⟨8, 7, 127, 2⟩
def fmtF16 : Fmt := ⟨5, 10, 15, 2⟩
def fmtE4m3 : Fmt := ⟨4, 3, 7, 1⟩
def fmtE5m2 : Fmt := ⟨5, 2, 15, 2⟩
def fmtE2m1 : Fmt := ⟨2, 1, 1, 0⟩
def fmtE2m3 : Fmt := ⟨2, 3, 1, 0⟩
def fmtE3m2 : Fmt := ⟨3, 2, 3, 0⟩

/-- Bits of one element of the format. -/
def Fmt.width (f : Fmt) : Nat := 1 + f.eb + f.mb

/-- The value of a bit pattern (R5, R94). -/
def Fmt.decode (f : Fmt) (x : Nat) : Val :=
  let s := x.testBit (f.eb + f.mb)
  let e := fld x f.mb f.eb
  let m := fld x 0 f.mb
  let allOnes := 2 ^ f.eb - 1
  if f.top = 2 ∧ e = allOnes then (if m = 0 then .inf s else .nan)
  else if f.top = 1 ∧ e = allOnes ∧ m = 2 ^ f.mb - 1 then .nan
  else if e = 0 then .fin s m (1 - (f.bias : Int) - f.mb)
  else .fin s (2 ^ f.mb + m) ((e : Int) - f.bias - f.mb)

/-- The canonical NaN of the format (R101). -/
def Fmt.nanBits (f : Fmt) : Nat :=
  if f.top = 1 then 2 ^ (f.eb + f.mb) - 1 else (2 ^ f.eb - 1) * 2 ^ f.mb + 2 ^ (f.mb - 1)

/-- The pattern of an infinity of the format, where it has one. -/
def Fmt.infBits (f : Fmt) (neg : Bool) : Nat := b2n neg * 2 ^ (f.eb + f.mb) + (2 ^ f.eb - 1) * 2 ^ f.mb

/-- The pattern of the largest finite value. -/
def Fmt.maxBits (f : Fmt) (neg : Bool) : Nat :=
  b2n neg * 2 ^ (f.eb + f.mb) +
    (if f.top = 2 then (2 ^ f.eb - 1) * 2 ^ f.mb - 1
     else if f.top = 1 then 2 ^ (f.eb + f.mb) - 2 else 2 ^ (f.eb + f.mb) - 1)

/-- The least exponent of a unit in the last place. -/
def Fmt.emin (f : Fmt) : Int := 1 - (f.bias : Int) - f.mb

/-- `⌊m · 2^s⌋`. -/
def scaleDown (m : Nat) (s : Int) : Nat := if 0 ≤ s then m <<< s.toNat else m >>> (-s).toNat

/-- Exponent of the unit in the last place at the magnitude `m · 2^e`. -/
def Fmt.quantum (f : Fmt) (m : Nat) (e : Int) : Int :=
  max (((Nat.log2 m : Nat) : Int) + e - f.mb) f.emin

/-- The pattern with significand count `n` at quantum `q`, where `n ≤ 2^(mb + 1)`. -/
def Fmt.pack (f : Fmt) (neg : Bool) (n : Nat) (q : Int) : Nat :=
  b2n neg * 2 ^ (f.eb + f.mb) + ((q - f.emin).toNat * 2 ^ f.mb + n)

/-- How a conversion chooses between the two neighbours: to nearest even, or by the 24-bit draw of
R152. -/
inductive Rounding where
  | nearest
  | draw (u24 : Nat)
  deriving DecidableEq, Repr

/-- The count of quanta that the exact magnitude `m · 2^e` rounds to. -/
def roundCount (r : Rounding) (m : Nat) (e q : Int) : Nat :=
  let d := (q - e).toNat
  if e ≥ q then m <<< (e - q).toNat
  else
    let lo := m >>> d
    let rest := m - (lo <<< d)
    match r with
    | .nearest => if 2 * rest > 2 ^ d ∨ (2 * rest = 2 ^ d ∧ lo % 2 = 1) then lo + 1 else lo
    | .draw u => if u * 2 ^ d < rest * 2 ^ 24 then lo + 1 else lo

/-- The result of an overflow under R97: `src` tells whether the source was infinite. -/
def Fmt.overflow (f : Fmt) (sat neg src : Bool) : Nat :=
  if f.top = 2 then (if sat && !src then f.maxBits neg else f.infBits neg)
  else if sat then f.maxBits neg else f.nanBits

/-- The exact magnitude of a pattern's finite value compared with `m · 2^e`: whether it is below. -/
def magLt (m1 : Nat) (e1 : Int) (m2 : Nat) (e2 : Int) : Bool :=
  let k := min e1 e2
  decide ((m1 <<< (e1 - k).toNat) < (m2 <<< (e2 - k).toNat))

/-- Conversion of an exact value into the format (R97, R152). For the draw, a magnitude of `M + Q`
or more overflows without a draw, and a choice of `M + Q` is an overflow. -/
def Fmt.encode (f : Fmt) (r : Rounding) (sat : Bool) (v : Val) : Nat :=
  match v with
  | .nan => f.nanBits
  | .inf neg => f.overflow sat neg true
  | .fin neg m e =>
    if m = 0 then b2n neg * 2 ^ (f.eb + f.mb)
    else
      match f.decode (f.maxBits false) with
      | .fin _ mm me =>
        if magLt m e (mm + 1) me = false then
          f.overflow sat neg false
        else
          let q := f.quantum m e
          let n := roundCount r m e q
          if magLt mm me n q then f.overflow sat neg false else f.pack neg n q
      | _ => f.nanBits

/-- Rounding to FP32, to nearest even, overflow to infinity (R99, R100). -/
def toF32 (v : Val) : Nat := fmtF32.encode .nearest false v

/-- The value of an FP32 pattern. -/
def ofF32 (x : Nat) : Val := fmtF32.decode x

/-- The sign flipped. -/
def Val.neg : Val → Val
  | .nan => .nan
  | .inf s => .inf (!s)
  | .fin s m e => .fin (!s) m e

/-- The magnitude. -/
def Val.abs : Val → Val
  | .nan => .nan
  | .inf _ => .inf false
  | .fin _ m e => .fin false m e

/-- The exact product; infinity × 0 is NaN (R101). -/
def Val.mul (a b : Val) : Val :=
  match a, b with
  | .nan, _ => .nan
  | _, .nan => .nan
  | .inf s, .inf t => .inf (s != t)
  | .inf s, .fin t m _ => if m = 0 then .nan else .inf (s != t)
  | .fin s m _, .inf t => if m = 0 then .nan else .inf (s != t)
  | .fin s m e, .fin t n f => .fin (s != t) (m * n) (e + f)

/-- The value times a power of two. -/
def Val.scale (a : Val) (k : Int) : Val :=
  match a with
  | .fin s m e => .fin s m (e + k)
  | v => v

/-- The signed numerator of a finite value at exponent `k ≤ e`. -/
def sgnAt (neg : Bool) (m : Nat) (e k : Int) : Int :=
  let n : Int := ((m <<< (e - k).toNat : Nat) : Int)
  if neg then -n else n

/-- The exact value of a signed numerator; an exact zero is +0. -/
def ofSigned (n k : Int) : Val := .fin (decide (n < 0)) n.natAbs k

/-- The exact sum of two values; −0 only for two negative zeros. -/
def Val.add (a b : Val) : Val :=
  match a, b with
  | .nan, _ => .nan
  | _, .nan => .nan
  | .inf s, .inf t => if s = t then .inf s else .nan
  | .inf s, .fin _ _ _ => .inf s
  | .fin _ _ _, .inf t => .inf t
  | .fin s m e, .fin t n f =>
    if m = 0 ∧ n = 0 then .fin (s && t) 0 (min e f)
    else
      let k := min e f
      ofSigned (sgnAt s m e k + sgnAt t n f k) k

/-- The exact sum of a list from a start, under R100 and R101. -/
def Val.sum (a : Val) (l : List Val) : Val := l.foldl Val.add a

/-- Exact comparison: `some` order, or nothing when either is NaN. -/
def Val.cmp (a b : Val) : Option Ordering :=
  match a, b with
  | .nan, _ => none
  | _, .nan => none
  | .inf s, .inf t => some (if s = t then .eq else if s then .lt else .gt)
  | .inf s, .fin _ _ _ => some (if s then .lt else .gt)
  | .fin _ _ _, .inf t => some (if t then .gt else .lt)
  | .fin s m e, .fin t n f =>
    let k := min e f
    some (compare (sgnAt s m e k) (sgnAt t n f k))

/-- The predicates of R105; every one is false on NaN but ≠. -/
def cmpHolds (cmp : Nat) (o : Option Ordering) : Bool :=
  match o with
  | none => cmp == 3
  | some o =>
    match cmp with
    | 0 => o == .lt
    | 1 => o != .gt
    | 2 => o == .eq
    | 3 => o != .eq
    | 4 => o != .lt
    | 5 => o == .gt
    | _ => false

/-- The greater value; NaN if either is (R101, R103), and +0 over −0 (R120). R103 does not say which zero max-plus
and min-plus of the array keep: they follow R120 too (DEDUCED, log entry 114). -/
def Val.max2 (a b : Val) : Val :=
  match a.cmp b with
  | none => .nan
  | some .lt => b
  | some .gt => a
  | some .eq =>
    match a with
    | .fin true 0 _ => b
    | _ => a

/-- The lesser value; NaN if either is, and −0 under +0 (R120). -/
def Val.min2 (a b : Val) : Val :=
  match a.cmp b with
  | none => .nan
  | some .lt => a
  | some .gt => b
  | some .eq =>
    match a with
    | .fin true 0 _ => a
    | _ => b

/-- The integer square root, bit by bit from bit `n - 1`. -/
def isqrtGo (x : Nat) : Nat → Nat → Nat
  | 0, r => r
  | n + 1, r =>
    let c := r + 2 ^ n
    isqrtGo x n (if c * c ≤ x then c else r)

/-- `⌊√x⌋`. -/
def isqrt (x : Nat) : Nat := isqrtGo x (Nat.log2 x / 2 + 1) 0

/-- A value that every format of at most 60 fraction bits rounds as it rounds the exact quotient
`m/n · 2^e`: the quotient's leading bits with a sticky bit below. -/
def quotient (neg : Bool) (m n : Nat) (e : Int) : Val :=
  if m = 0 then .fin neg 0 e
  else
    let k := 80 + Nat.log2 n
    let a := m <<< k
    .fin neg (2 * (a / n) + (if a % n = 0 then 0 else 1)) (e - k - 1)

/-- The quotient of two values for one rounding. -/
def Val.div (a b : Val) : Val :=
  match a, b with
  | .nan, _ => .nan
  | _, .nan => .nan
  | .inf _, .inf _ => .nan
  | .inf s, .fin t _ _ => .inf (s != t)
  | .fin s _ _, .inf t => .fin (s != t) 0 0
  | .fin s m e, .fin t n f =>
    if n = 0 then (if m = 0 then .nan else .inf (s != t))
    else quotient (s != t) m n (e - f)

/-- The square root of a value for one rounding. -/
def Val.sqrt (a : Val) : Val :=
  match a with
  | .nan => .nan
  | .inf s => if s then .nan else .inf false
  | .fin s m e =>
    if m = 0 then a
    else if s then .nan
    else
      let k : Nat := 120 + (if (e - 120) % 2 = 0 then 0 else 1)
      let x := m <<< k
      let r := isqrt x
      .fin false (2 * r + (if r * r = x then 0 else 1)) ((e - k) / 2 - 1)

/-- The reciprocal square root of a value for one rounding: the leading bits of `√(2^k / m)` with a
sticky bit below. -/
def Val.rsqrt (a : Val) : Val :=
  match a with
  | .nan => .nan
  | .inf s => if s then .nan else .fin false 0 0
  | .fin s m e =>
    if m = 0 then .inf s
    else if s then .nan
    else
      let k0 : Nat := 2 * Nat.log2 m + 160
      let k : Nat := k0 + (if ((k0 : Int) + e) % 2 = 0 then 0 else 1)
      let r := isqrt (2 ^ k / m)
      .fin false (2 * r + (if r * r * m = 2 ^ k then 0 else 1)) ((-e - k) / 2 - 1)

/-- FP32 operations on patterns, each rounded once to nearest even (R120, R297). -/
def f32add (a b : Nat) : Nat := toF32 ((ofF32 a).add (ofF32 b))
def f32sub (a b : Nat) : Nat := toF32 ((ofF32 a).add (ofF32 b).neg)
def f32mul (a b : Nat) : Nat := toF32 ((ofF32 a).mul (ofF32 b))
def f32fma (a b c : Nat) : Nat := toF32 (((ofF32 a).mul (ofF32 b)).add (ofF32 c))
def f32div (a b : Nat) : Nat := toF32 ((ofF32 a).div (ofF32 b))
def f32sqrt (a : Nat) : Nat := toF32 (ofF32 a).sqrt
def f32min (a b : Nat) : Nat := toF32 ((ofF32 a).min2 (ofF32 b))
def f32max (a b : Nat) : Nat := toF32 ((ofF32 a).max2 (ofF32 b))

/-- A whole number as an exact value. -/
def ofInt (i : Int) : Val := ofSigned i 0

/-- A whole number rounded to FP32. -/
def f32ofInt (i : Int) : Nat := toF32 (ofInt i)

/-- Whether an FP32 pattern is NaN. -/
def f32isNan (x : Nat) : Bool := decide (ofF32 x = .nan)

/-- Whether an FP32 pattern is finite. -/
def f32isFinite (x : Nat) : Bool := fld x 23 8 != 255

/-- Whether `a < b` as FP32 values. -/
def f32lt (a b : Nat) : Bool := cmpHolds 0 ((ofF32 a).cmp (ofF32 b))

/-- Whether `a ≤ b` as FP32 values. -/
def f32le (a b : Nat) : Bool := cmpHolds 1 ((ofF32 a).cmp (ofF32 b))

/-- Whether `a = b` as FP32 values. -/
def f32eq (a b : Nat) : Bool := cmpHolds 2 ((ofF32 a).cmp (ofF32 b))

def f32NegInf : Nat := 0xFF800000
def f32PosInf : Nat := 0x7F800000
def f32Nan : Nat := 0x7FC00000
def f32One : Nat := 0x3F800000

/-- A 32-bit two's-complement number clamped to its limits (R102, R121), with whether it was. -/
def satInt (w : Nat) (i : Int) : Int × Bool :=
  let hi : Int := ((2 ^ (w - 1) : Nat) : Int) - 1
  let lo : Int := -((2 ^ (w - 1) : Nat) : Int)
  if i > hi then (hi, true) else if i < lo then (lo, true) else (i, false)

/-- A value rounded to nearest even to a whole number and clamped to `w` bits; NaN gives 0 and an
infinity a limit (R121). -/
def valToInt (w : Nat) (v : Val) : Int × Bool :=
  match v with
  | .nan => (0, false)
  | .inf s => (if s then -((2 ^ (w - 1) : Nat) : Int) else ((2 ^ (w - 1) : Nat) : Int) - 1, true)
  | .fin s m e =>
    let n : Int := ((roundCount .nearest m e 0 : Nat) : Int)
    satInt w (if s then -n else n)

end Sys2Proof.Machine
end

