-- ==== Sys2Proof/Machine/Approx.lean ====
section
/-! DEFINITION. The built-in functions of the special-function unit (R129, R131, R133) and the fixed
evaluations of R501. A true value is formed to some 380 bits in fixed point; which value within the
bound the hardware gives is free (log entry 8). -/

namespace Sys2Proof.Machine

/-! ### Fixed point with 400 fraction bits -/

def fxOne : Int := 2 ^ 400
def fxMul (a b : Int) : Int := a * b / 2 ^ 400
def fxDiv (a b : Int) : Int := a * 2 ^ 400 / b

/-- ln 2 and π, to 400 fraction bits. -/
def fxLn2 : Int := 0xb17217f7d1cf79abc9e3b39803f2f6af40f343267298b62d8a0d175b8baafa2be7b876206debac98559552fb4afa1b10ed2e
def fxPi : Int := 0x3243f6a8885a308d313198a2e03707344a4093822299f31d0082efa98ec4e6c89452821e638d01377be5466cf34e90c6cc0ac

/-- `i · 2^e` as an exact value. -/
def ofScaled (i e : Int) : Val := ofSigned i e

/-- A fixed-point number as an exact value. -/
def ofFx (x : Int) : Val := ofScaled x (-400)

/-- A finite value in fixed point. -/
def Val.toFx (v : Val) : Int :=
  match v with
  | .fin s m e =>
    let k := e + 400
    let n : Int := if 0 ≤ k then ((m <<< k.toNat : Nat) : Int) else ((m >>> (-k).toNat : Nat) : Int)
    if s then -n else n
  | _ => 0

/-- `Σ rⁿ / n!` from term `n` on, `fuel` terms. -/
def expTerms (r : Int) : Nat → Int → Int → Int → Int
  | 0, _, _, acc => acc
  | fuel + 1, n, term, acc => expTerms r fuel (n + 1) (fxMul term r / n) (acc + term)

/-- `e^x` as a mantissa in fixed point and a power of two. -/
def fxExp (x : Int) : Int × Int :=
  let k := x / fxLn2
  (expTerms (x - k * fxLn2) 90 1 fxOne 0, k)

/-- `e^x` for a fixed-point `x`, as an exact value. -/
def expVal (x : Int) : Val := let r := fxExp x; ofScaled r.1 (r.2 - 400)

/-- `Σ z^(2n+1) / (2n+1)`, `fuel` terms. -/
def atanhTerms (z2 : Int) : Nat → Int → Int → Int → Int
  | 0, _, _, acc => acc
  | fuel + 1, n, term, acc => atanhTerms z2 fuel (n + 2) (fxMul term z2) (acc + term / n)

/-- `ln` of the positive value `m · 2^e`, in fixed point. -/
def fxLog (m : Nat) (e : Int) : Int :=
  let b := Nat.log2 m
  let y : Int := ((m <<< (400 - b) : Nat) : Int)
  let z := fxDiv (y - fxOne) (y + fxOne)
  2 * atanhTerms (fxMul z z) 130 1 z 0 + (e + b) * fxLn2

/-- `Σ (-1)ⁿ x^(2n) / (2n)!`, `fuel` terms. -/
def cosTerms (x2 : Int) : Nat → Int → Int → Int → Int
  | 0, _, _, acc => acc
  | fuel + 1, n, term, acc => cosTerms x2 fuel (n + 2) (-(fxMul term x2) / ((n + 1) * (n + 2))) (acc + term)

/-- The cosine of a fixed-point number of at most 7 in magnitude. -/
def fxCos (x : Int) : Int := cosTerms (fxMul x x) 90 0 fxOne 0

/-- `x + x³/3 + x⁵/15 + …`, `fuel` terms. -/
def phiTerms (x2 : Int) : Nat → Int → Int → Int → Int
  | 0, _, _, acc => acc
  | fuel + 1, n, term, acc => phiTerms x2 fuel (n + 2) (fxMul term x2 / (n + 2)) (acc + term)

/-- The normal distribution function of `x ≥ 0`, at most 16, in fixed point. -/
def fxPhi (x : Int) : Int :=
  let e := fxExp (-(fxMul x x) / 2)
  let root : Int := ((isqrt ((2 * fxPi).toNat * 2 ^ 400) : Nat) : Int)
  let density := fxDiv (e.1 / 2 ^ (-e.2).toNat) root
  fxOne / 2 + fxMul density (phiTerms (fxMul x x) 700 1 x 0)

/-! ### A result within its bound -/

/-- The unit in the last place of FP32 at a value. -/
def f32ulp (v : Val) : Val :=
  match v with
  | .fin _ m e => if m = 0 then .fin false 1 fmtF32.emin else .fin false 1 (fmtF32.quantum m e)
  | w => w

/-- Whether `|a| ≤ |b|` for finite values. -/
def Val.absLe (a b : Val) : Bool := cmpHolds 1 (a.abs.cmp b.abs)

/-- An FP32 pattern within `bound` of the true value: any that `free` picks, or the nearest one where that
pick lies farther off (a pick that is no number compares with nothing). -/
def within (free : Nat) (true_ bound : Val) : Nat :=
  let c := free % 2 ^ 32
  if ((ofF32 c).add true_.neg).absLe bound then c else toF32 true_

/-- Within `n` units in the last place. -/
def withinUlps (free : Nat) (true_ : Val) (n : Nat) : Nat :=
  within free true_ ((f32ulp true_).mul (.fin false n 0))

/-- Within `2^k`. -/
def withinAbs (free : Nat) (true_ : Val) (k : Int) : Nat := within free true_ (.fin false 1 k)

/-- `a < b` and `a ≤ b` for values. -/
def Val.lt (a b : Val) : Bool := cmpHolds 0 (a.cmp b)
def Val.le (a b : Val) : Bool := cmpHolds 1 (a.cmp b)

/-- `n · 10^-k` for the decimal limits of R133, as a fixed-point value. -/
def decimal (n : Int) (k : Nat) : Val := ofFx (n * 2 ^ 400 / 10 ^ k)

/-! ### The built-in functions (R133), on an FP32 pattern -/

/-- −0, +0 and 1 as values and patterns. -/
def vZero (neg : Bool) : Val := .fin neg 0 0
def f32NegZero : Nat := 0x80000000
def vOne : Val := .fin false 1 0

/-- EXP. -/
def builtinExp (free x : Nat) : Nat :=
  match ofF32 x with
  | .nan => f32Nan
  | .inf neg => if neg then 0 else f32PosInf
  | .fin s m e =>
    let v : Val := .fin s m e
    if m = 0 then f32One
    else if v.le (decimal (-10397) 2) then 0
    else if (decimal 8872 2).lt v then f32PosInf
    else if v.lt (decimal (-8733) 2) then withinAbs free (expVal v.toFx) (-149)
    else withinUlps free (expVal v.toFx) 2

/-- EXP2. -/
def builtinExp2 (free x : Nat) : Nat :=
  match ofF32 x with
  | .nan => f32Nan
  | .inf neg => if neg then 0 else f32PosInf
  | .fin s m e =>
    let v : Val := .fin s m e
    let y := expVal (fxMul v.toFx fxLn2)
    if v.lt (.fin true 149 0) then 0
    else if (Val.fin false 128 0).le v then f32PosInf
    else if m = 0 then withinUlps free vOne 1
    else if v.lt (.fin true 126 0) then withinAbs free y (-149)
    else withinUlps free y 1

/-- LOG and LOG2: `two` for base 2. -/
def builtinLog (two : Bool) (free x : Nat) : Nat :=
  match ofF32 x with
  | .nan => f32Nan
  | .inf neg => if neg then f32Nan else f32PosInf
  | .fin s m e =>
    if m = 0 then f32NegInf
    else if s then f32Nan
    else
      let v : Val := .fin s m e
      let l := fxLog m e
      let y := ofFx (if two then fxDiv l fxLn2 else l)
      if (decimal 9375 4).lt v ∧ v.lt (decimal 10625 4) then withinAbs free y (-26)
      else withinUlps free y 2

/-- RECIP. For ±infinity R133's table has the bound 2⁻¹⁴⁹ alone; the exact ±0 is given (DESIGN CHOICE, log entry
116). -/
def builtinRecip (free x : Nat) : Nat :=
  match ofF32 x with
  | .nan => f32Nan
  | .inf neg => if neg then f32NegZero else 0
  | .fin s m e =>
    if m = 0 then (if s then f32NegInf else f32PosInf)
    else
      let y := quotient s 1 m (-e)
      if (Val.fin false m e).le (.fin false 1 126) then withinUlps free y 1 else withinAbs free y (-149)

/-- RSQRT. -/
def builtinRsqrt (free x : Nat) : Nat :=
  match ofF32 x with
  | .nan => f32Nan
  | .inf neg => if neg then f32Nan else 0
  | .fin s m e =>
    if m = 0 then (if s then f32NegInf else f32PosInf)
    else if s then f32Nan
    else withinUlps free (Val.fin s m e).rsqrt 2

/-- SQRT. -/
def builtinSqrt (free x : Nat) : Nat :=
  match ofF32 x with
  | .nan => f32Nan
  | .inf neg => if neg then f32Nan else f32PosInf
  | .fin s m e =>
    if m = 0 then x
    else if s then f32Nan
    else withinUlps free (Val.fin s m e).sqrt 1

/-- `1 / (1 + e^-x)` for a fixed-point `x`, as an exact value. -/
def sigmoidVal (x : Int) : Val :=
  let e := fxExp (-x.natAbs)
  let t := e.1 / 2 ^ (-e.2).toNat
  if x < 0 then
    match expVal x with
    | .fin s m k => (Val.fin s m k).mul (ofFx (fxDiv fxOne (fxOne + t)))
    | w => w
  else ofFx (fxDiv fxOne (fxOne + t))

/-- TANH. -/
def builtinTanh (free x : Nat) : Nat :=
  match ofF32 x with
  | .nan => f32Nan
  | .inf neg => if neg then 0xBF800000 else f32One
  | .fin s m e =>
    if (Val.fin false m e).lt (.fin false 1 (-12)) then x
    else if (decimal 901 2).le (.fin false m e) then (if s then 0xBF800000 else f32One)
    else
      let r := fxExp (2 * (Val.fin false m e).toFx)
      let t := r.1 * 2 ^ r.2.toNat
      let y := ofFx (fxDiv (t - fxOne) (t + fxOne))
      withinUlps free (if s then y.neg else y) 2

/-- SIGMOID. -/
def builtinSigmoid (free x : Nat) : Nat :=
  match ofF32 x with
  | .nan => f32Nan
  | .inf neg => if neg then 0 else f32One
  | .fin s m e =>
    let v : Val := .fin s m e
    if (decimal 167 1).lt v then
      withinAbs free (if (decimal 2000 1).lt v then vOne else sigmoidVal v.toFx) (-24)
    else if v.lt (decimal (-873) 1) then
      withinAbs free (if v.lt (decimal (-2000) 1) then vZero false else sigmoidVal v.toFx) (-149)
    else withinUlps free (sigmoidVal v.toFx) 3

/-- GELU: below −13 the result is −0. -/
def builtinGelu (free x : Nat) : Nat :=
  match ofF32 x with
  | .nan => f32Nan
  | .inf neg => if neg then f32NegZero else f32PosInf
  | .fin s m e =>
    let v : Val := .fin s m e
    if v.lt (.fin true 13 0) then f32NegZero
    else if m = 0 then within free v (.fin false 1 (-40))
    else
      let phi := if (Val.fin false 16 0).lt v then fxOne else fxPhi (v.abs.toFx)
      let y := v.mul (ofFx (if s then fxOne - phi else phi))
      let four := (f32ulp y).mul (.fin false 4 0)
      let floor_ : Val := .fin false 1 (-40)
      within free y (if four.absLe floor_ then floor_ else four)

/-- SILU. -/
def builtinSilu (free x : Nat) : Nat :=
  match ofF32 x with
  | .nan => f32Nan
  | .inf neg => if neg then f32NegZero else f32PosInf
  | .fin s m e =>
    let v : Val := .fin s m e
    if v.lt (decimal (-873) 1) then
      within free (if v.lt (decimal (-2000) 1) then vZero true else v.mul (sigmoidVal v.toFx))
        (.fin false (2 ^ 40 - 1) (-158))
    else if m = 0 then withinUlps free v 4
    else if (decimal 2000 1).lt v then withinUlps free v 4
    else withinUlps free (v.mul (sigmoidVal v.toFx)) 4

/-- Built-in function `slot` of table revision `rev` on an FP32 pattern. -/
def builtin (rev slot x : Nat) : Nat :=
  let free := Config.sfuOffset slot rev x
  match slot with
  | 0 => builtinExp free x
  | 1 => builtinExp2 free x
  | 2 => builtinLog false free x
  | 3 => builtinLog true free x
  | 4 => builtinRecip free x
  | 5 => builtinRsqrt free x
  | 6 => builtinSqrt free x
  | 7 => builtinTanh free x
  | 8 => builtinSigmoid free x
  | 9 => builtinGelu free x
  | _ => builtinSilu free x

/-! ### The fixed evaluations of R501 -/

/-- The cosine of an FP32 angle from 0 to 2π, within 2 ulp (R152). -/
def fixedCos (rev x : Nat) : Nat :=
  match ofF32 x with
  | .fin s m e => withinUlps (Config.fixedOffset (rev * 4) x) (ofFx (fxCos (Val.fin s m e).toFx)) 2
  | _ => f32Nan

/-- `cos(π s)` for an FP32 `s` from 0 to 1, within 2 ulp (R293). -/
def fixedCosPi (rev s : Nat) : Nat :=
  match ofF32 s with
  | .fin _ m e =>
    withinUlps (Config.fixedOffset (rev * 4 + 1) s) (ofFx (fxCos (fxMul fxPi (Val.fin false m e).toFx))) 2
  | _ => f32Nan

/-- `1 − β^k` for an FP32 `β` in [0, 1), within 1 ulp (R293). -/
def fixedBias (rev beta k : Nat) : Nat :=
  match ofF32 beta with
  | .fin s m e =>
    if m = 0 ∨ s then (if k = 0 then 0 else f32One)
    else
      let l := fxLog m e * k
      let p := if l < -(400 * fxOne) then 0
               else let r := fxExp l; if r.2 < 0 then r.1 / 2 ^ (-r.2).toNat else r.1 * 2 ^ r.2.toNat
      withinUlps (Config.fixedOffset (rev * 4 + 2) (beta * 2 ^ 64 + k)) (ofFx (fxOne - p)) 1
  | _ => f32Nan

end Sys2Proof.Machine
end

