-- ==== Sys2Proof/Machine/Random.lean ====
section
/-! DEFINITION. The counter-based generator (R142 to R145) and the draws made from its words (R152). -/

namespace Sys2Proof.Machine

/-- The counter block of R142 as its four words. A module without an id enters the low bits of 0xFFFF as its
MODULE_ID (DESIGN CHOICE, log entry 120). -/
def counterWords (stream pos gust unitId moduleId : Nat) : List Nat :=
  let job := decide (0x8000 ≤ stream)
  [fld pos 0 32, fld pos 32 16 + stream * 2 ^ 16, gust % 2 ^ 32,
    if job then 0 else unitId + moduleId % 2 ^ 14 * 2 ^ 10]

/-- One round of R144. -/
def genRound (k : List Nat) (i : Nat) (x0 x1 x2 x3 : W32) : W32 × W32 × W32 × W32 :=
  let kw := fun (j : Nat) => BitVec.ofNat 32 (k.getD (j % 8) 0)
  let x0 := x0 + (x1 ^^^ kw (2 * i))
  let x3 := (x3 ^^^ x0).rotateLeft 16
  let x2 := x2 + (x3 ^^^ kw (2 * i + 1))
  let x1 := (x1 ^^^ x2).rotateLeft 12
  let x0 := x0 + (x1 + BitVec.ofNat 32 i)
  let x3 := (x3 ^^^ x0).rotateLeft 8
  let x2 := x2 + x3
  let x1 := (x1 ^^^ x2).rotateLeft 7
  (x0, x1, x2, x3)

/-- A generator word (R144). -/
def genWord (k c : List Nat) : Nat :=
  let w := fun (j : Nat) => BitVec.ofNat 32 (c.getD j 0)
  let x := (List.range 10).foldl (fun (x : W32 × W32 × W32 × W32) i => genRound k i x.1 x.2.1 x.2.2.1 x.2.2.2)
    (w 0, w 1, w 2, w 3)
  (x.1 ^^^ x.2.2.1 ^^^ BitVec.ofNat 32 (k.getD 0 0)).toNat

/-- The word at a position of a stream for a unit of partition `p` in its running gust. -/
def State.word (s : State) (p unitId stream pos : Nat) : Nat :=
  genWord (s.part p).genKey
    (counterWords stream (pos % 2 ^ 48) (s.reg (kGustNumber p)) unitId (s.reg kModuleId))

/-- U24 of a word, as a count of 2⁻²⁴ (R152). -/
def u24 (w : Nat) : Nat := w / 256

/-- The rounding rule of an output element (R97): to nearest even, or by the draw at a position. -/
def State.rounding (s : State) (p unitId : Nat) (stochastic : Bool) (stream pos : Nat) : Rounding :=
  if stochastic then .draw (u24 (s.word p unitId stream pos)) else .nearest

/-- The normal draw at a position (R152), an FP32 pattern. -/
def State.normal (s : State) (p unitId stream pos : Nat) : Nat :=
  let rev := s.reg kBuiltinTableRev
  let a := toF32 (.fin false (2 * u24 (s.word p unitId stream (2 * pos)) + 1) (-25))
  let l := builtin rev 2 a
  let r := builtin rev 6 (f32mul 0xC0000000 l)
  let u := toF32 (.fin false (u24 (s.word p unitId stream (2 * pos + 1))) (-24))
  f32mul r (fixedCos rev (f32mul 0x40C90FDB u))

end Sys2Proof.Machine
end

