-- ==== Sys2Proof/Machine/Operands.lean ====
section
/-! DEFINITION. Operand forms of the clusters' units: the formats of R94 and R119, elements and rows
in the cell store (R107, R127), the lines an entry awaits (R55), and the lines it writes (R89). -/

namespace Sys2Proof.Machine

/-! ### The formats of R94 -/

/-- Element width in bits of an FMT of R94; 0 for the reserved one. -/
def fmtBits (f : Nat) : Nat :=
  match f with
  | 0x0 => 4
  | 0x1 => 4
  | 0x2 => 4
  | 0x3 => 6
  | 0x4 => 6
  | 0x5 => 6
  | 0x6 => 6
  | 0x7 => 8
  | 0x8 => 8
  | 0x9 => 8
  | 0xA => 8
  | 0xB => 8
  | 0xC => 8
  | 0xD => 16
  | 0xE => 16
  | _ => 0

/-- MX formats have block scales (R95). -/
def fmtMx (f : Nat) : Bool := f == 1 || f == 5 || f == 6 || f == 9 || f == 0xA || f == 0xC

/-- The integer formats INT4 and INT8; MXINT8 is none (R98). -/
def fmtInt (f : Nat) : Bool := f == 2 || f == 0xB

/-- The value of an element before its scales (R94). -/
def fmtDecode (f x : Nat) : Val :=
  match f with
  | 0x0 => fmtE2m1.decode x
  | 0x1 => fmtE2m1.decode x
  | 0x2 => ofInt (sgn 4 x)
  | 0x3 => fmtE2m3.decode x
  | 0x4 => fmtE3m2.decode x
  | 0x5 => fmtE2m3.decode x
  | 0x6 => fmtE3m2.decode x
  | 0x7 => fmtE4m3.decode x
  | 0x8 => fmtE5m2.decode x
  | 0x9 => fmtE4m3.decode x
  | 0xA => fmtE5m2.decode x
  | 0xB => ofInt (sgn 8 x)
  | 0xC => (ofInt (sgn 8 x)).scale (-6)
  | 0xD => fmtBf16.decode x
  | _ => fmtF16.decode x

/-- An E8M0 scale applied; 0xFF is NaN (R95). -/
def applyScale (v : Val) (e : Nat) : Val := if e = 0xFF then .nan else v.scale ((e : Int) - 127)

/-- The rate class of R93: 0 for 4-bit, 1 for 8-bit, 2 for 16-bit. -/
def rateClass (fx fw : Nat) : Nat :=
  let c := fun (f : Nat) => if fmtBits f = 4 then 0 else if fmtBits f = 16 then 2 else 1
  max (c fx) (c fw)

/-- Cycles of a weight block load (R93). -/
def weightLoad (fw : Nat) : Nat :=
  if fmtBits fw = 4 then 4 else if fmtBits fw = 6 then 6 else if fmtBits fw = 16 then 16 else 8

/-! ### The formats of R119 -/

/-- Bytes of a VFMT. -/
def vBytes (f : Nat) : Nat :=
  match f with
  | 0 => 4
  | 1 => 2
  | 2 => 2
  | 5 => 4
  | _ => 1

def vInt (f : Nat) : Bool := f == 5 || f == 6
def vFloat (f : Nat) : Bool := decide (f ≤ 4)

/-- The binary format of a floating VFMT. -/
def vFmt (f : Nat) : Fmt :=
  match f with
  | 0 => fmtF32
  | 1 => fmtBf16
  | 2 => fmtF16
  | 3 => fmtE4m3
  | _ => fmtE5m2

/-- The integer that an INT32 or INT8 element holds. -/
def vIntVal (f x : Nat) : Int := sgn (8 * vBytes f) x

/-- The FP32 value an operand element has in a floating operation (R120, R121). -/
def vVal (f x : Nat) : Val := if vInt f then ofF32 (f32ofInt (vIntVal f x)) else (vFmt f).decode x

/-! ### Elements in a cell store -/

/-- `b` bits at bit offset `o` from byte `base` of the store of cluster `c`. -/
def State.cellBits (s : State) (c base o b : Nat) : Nat :=
  (s.cellLe c (base + o / 8) 4 >>> (o % 8)) % 2 ^ b

/-- The lines that `n` bytes from byte `base` on lie in, as a first line and a count. -/
def spanLines (base n : Nat) : Nat × Nat :=
  if n = 0 then (base / 64, 0) else (base / 64, (base + n - 1) / 64 - base / 64 + 1)

/-- Lines of a span beyond the store (R91). -/
def overLines (sp : Nat × Nat) : Nat := min sp.2 (sp.1 + sp.2 - cellLines)

/-- Whether a line of a span is poisoned; every line beyond the store is (R91). -/
def State.spanPoison (s : State) (c : Nat) (sp : Nat × Nat) : Bool :=
  decide (0 < overLines sp) ||
    (List.range (min sp.2 (cellLines - sp.1))).any (fun i => s.cellPoisoned c (sp.1 + i))

/-- Lines beyond the store that an entry touched (R91): OPERAND_OVERRUNS, and one event. -/
def State.overrun (s : State) (c n : Nat) : State :=
  if n = 0 then s else (s.bumpReg kOperandOverruns n).event 0x01020020 0 c

/-- The writes of one row from line `line` on: elements of `b` bytes with their poison marks, cut
into the lines they lie in so that each line carries its own (R111). -/
def rowPuts (c line b : Nat) (elems : List (Nat × Bool)) : List CellPut :=
  let parts := chunksOf (64 / b) (elems.length + 1) elems
  (parts.zipIdx).map (fun e =>
    ⟨c, (line + e.2) * 64, e.1.flatMap (fun x => leBytes b x.1), e.1.any (·.2)⟩)

/-- Lines of a list of writes beyond the store. -/
def putsOver (puts : List CellPut) : Nat :=
  ((puts.map (fun w => overLines (spanLines w.addr w.data.length))).foldl (· + ·) 0)

end Sys2Proof.Machine
end

