-- ==== Sys2Proof/Machine/Flags.lean ====
section
/-! DEFINITION. The conversions on write-out (R97, R121) with the saturation they report, the row
statistics record of R123, and the poison rules that units share. -/

namespace Sys2Proof.Machine

/-- The floating output format of an array FMT_Y (R97). -/
def yFmt (f : Nat) : Fmt :=
  match f with
  | 0 => fmtF32
  | 1 => fmtBf16
  | 2 => fmtF16
  | 3 => fmtE4m3
  | _ => fmtE5m2

/-- Bytes of an output format: FMT_Y of R97 and VFMT of R119 agree up to 0x5. -/
def yBytes (f : Nat) : Nat := vBytes f

/-- An FP32 accumulator converted on write-out (R97): FP32 output needs no conversion but the
canonical NaN. -/
def convertOut (f : Nat) (r : Rounding) (sat : Bool) (v : Val) : Nat :=
  if f = 0 then toF32 v else (yFmt f).encode r sat v

/-- A value of a vector operation written in VFMT `f` (R121), with whether it saturated an integer. -/
def vConvert (f : Nat) (r : Rounding) (sat : Bool) (v : Val) : Nat × Bool :=
  if vInt f then
    let x := valToInt (8 * vBytes f) v
    (unsgn (8 * vBytes f) x.1, x.2)
  else (convertOut f r sat v, false)

/-- A 32-bit integer result written in VFMT `f` (R121). -/
def vConvertInt (f : Nat) (r : Rounding) (sat : Bool) (i : Int) : Nat × Bool :=
  if vInt f then
    let x := satInt (8 * vBytes f) i
    (unsgn (8 * vBytes f) x.1, x.2)
  else ((vFmt f).encode r sat (ofInt i), false)

/-! ### Row statistics records (R123) -/

/-- A record as read. -/
structure RowRec where
  max_  : Nat
  sum   : Nat
  sumsq : Nat
  count : Nat
  flags : Nat
  deriving DecidableEq, Repr

def RowRec.empty (r : RowRec) : Bool := r.flags.testBit 0
def RowRec.pinf (r : RowRec) : Bool := r.flags.testBit 1
def RowRec.isNan (r : RowRec) : Bool := r.flags.testBit 2
def RowRec.maxValid (r : RowRec) : Bool := r.flags.testBit 3
def RowRec.sumValid (r : RowRec) : Bool := r.flags.testBit 4
def RowRec.sumsqValid (r : RowRec) : Bool := r.flags.testBit 5

/-- The record of row `r` from line `sLine` on. -/
def State.readRec (s : State) (c sLine r : Nat) : RowRec :=
  let a := sLine * 64 + r * 16
  let x := s.cellLe c a 16
  ⟨fld x 0 32, fld x 32 32, fld x 64 32, fld x 96 24, fld x 120 6⟩

/-- The bytes of a record; its reserved bits are 0 (R9). -/
def RowRec.bytes (r : RowRec) : List Byte :=
  leBytes 16 (r.max_ + r.sum * 2 ^ 32 + r.sumsq * 2 ^ 64 + (r.count % 2 ^ 24) * 2 ^ 96 +
    (r.flags % 64) * 2 ^ 120)

/-- The line of a record. -/
def recLine (sLine r : Nat) : Nat := sLine + r / 4

/-- A flag byte from its six flags. -/
def mkFlags (empty pinf nan maxV sumV sumsqV : Bool) : Nat :=
  b2n empty + 2 * b2n pinf + 4 * b2n nan + 8 * b2n maxV + 16 * b2n sumV + 32 * b2n sumsqV

/-- A block sum of R124 added to an FP32 accumulator: blocks of 64, each rounded once. -/
def blockSum (acc : Nat) (vals : List Val) : Nat :=
  (chunksOf 64 (vals.length + 1) vals).foldl (fun a blk => toF32 ((ofF32 a).sum blk)) acc

/-- The bytes of a record that an operation wrote, as writes of fields: only the fields it names are
written (R125), so a whole line of records is never one full write (log entry 12). -/
def recPuts (c sLine r : Nat) (poison : Bool) (fields : List (Nat × List Byte)) : List CellPut :=
  fields.map (fun f => ⟨c, sLine * 64 + r * 16 + f.1, f.2, poison⟩)

end Sys2Proof.Machine
end

