-- ==== Sys2Proof/Machine/Issue.lean ====
section
/-! DEFINITION. Issue of plan entries: whether a unit's plan runs, what an entry awaits, stalls and
late cycles (R55, R59, R87, R219), and the fault of a refused descriptor. -/

namespace Sys2Proof.Machine

/-- A fence signalled, where one is named. -/
def State.signalOr (s : State) (h n : Nat) : State := if h = 0 then s else s.signal h n

/-- Whether lines `[a, a + 64 n)` of a partition hold lines of an open tile window that are not written yet (R275):
its buffer's address and lines are those of its descriptor (R270). -/
def State.windowPends (s : State) (p a n : Nat) : Bool :=
  s.coll.windows.any (fun w =>
    let dst := fld w.desc 192 64
    w.part == p && decide (a < dst + 64 * fld w.desc 96 32) && decide (dst + 64 * w.rows < a + 64 * n))

/-! ### The transfer descriptor (R214, R215) -/

/-- The fields of a transfer descriptor. -/
structure XferDesc where
  kind       : Nat
  dir        : Nat
  signal     : Bool
  keyIndex   : Nat
  version    : Nat
  stream     : Nat
  offset     : Nat
  rowLines   : Nat
  rows       : Nat
  planes     : Nat
  rowStride  : Int
  planeStride : Int
  cellLine   : Nat
  cellRow    : Nat
  cellPlane  : Nat
  rate       : Nat
  deriving DecidableEq, Repr

/-- The record of R214 read. -/
def xferDesc (d : Nat) : XferDesc :=
  ⟨fld d 0 4, fld d 4 2, bit d 6, fld d 8 8, fld d 16 8, fld d 32 32, fld d 64 64, fld d 128 32,
    fld d 160 24, fld d 192 16, sgn 32 (fld d 224 32), sgn 64 (fld d 256 64), fld d 320 15, fld d 336 16,
    fld d 352 16, fld d 384 32⟩

/-- Lines that a transfer moves. -/
def XferDesc.total (x : XferDesc) : Nat := x.rowLines * x.rows * x.planes

/-- Row, plane and place in the row of line `i` of the transfer (R215). -/
def XferDesc.plane (x : XferDesc) (i : Nat) : Nat := i / (x.rowLines * x.rows)
def XferDesc.row (x : XferDesc) (i : Nat) : Nat := i / x.rowLines % x.rows
def XferDesc.inRow (x : XferDesc) (i : Nat) : Nat := i % x.rowLines

/-- The memory address of line `i`, formed exactly (R215). -/
def XferDesc.memAddr (x : XferDesc) (base i : Nat) : Int :=
  (base + x.offset : Nat) + ((x.plane i : Int) * x.planeStride + (x.row i : Int) * x.rowStride) * 64 +
    (x.inRow i : Int) * 64

/-- The cell line of line `i`. -/
def XferDesc.cellAddr (x : XferDesc) (i : Nat) : Nat :=
  x.cellLine + x.plane i * x.cellPlane + x.row i * x.cellRow + x.inRow i

/-- Whether line `i` of a transfer has not landed yet: not requested, or in flight. -/
def Transfer.outstanding (t : Transfer) (i : Nat) : Bool :=
  decide (t.next ≤ i) || t.flights.any (fun f => decide (f.first ≤ i) && decide (i < f.first + f.count)) ||
    t.unchecked.contains i

/-- Whether an updraft's pending lines include a cell line (R219). -/
def Transfer.pends (t : Transfer) (line : Nat) : Bool :=
  let x := xferDesc t.desc
  decide (t.context < 4) &&
    (List.range x.total).any (fun i => t.outstanding i && x.cellAddr i == line)

/-- Cell lines that an entry reads: first line and count. -/
abbrev Span := Nat × Nat

/-- Whether an entry of cluster `c` that reads the spans awaits a line. -/
def State.awaits (s : State) (c : Nat) (spans : List Span) : Bool :=
  let ts := s.transfers.filter (fun t => t.cluster == c && decide (t.context < 4))
  ts.any (fun t => spans.any (fun sp =>
    (List.range (min sp.2 (cellLines - sp.1))).any (fun i => t.pends (sp.1 + i))))

/-! ### Plans that run -/

/-- The plan that a unit runs in the gust in progress: the binding of the kind in force (R59). -/
def State.plan? (s : State) (p unitId : Nat) : Option Binding :=
  s.bindings.find? (fun b => b.part == p && b.unitId == unitId && b.kind == s.reg (kGustKind p) && !b.fresh)

/-- Whether a unit issues entries now (R55, R59, R72, R81, R150): a gust of its partition runs outside its calm
windows, and its plan has not reached END. -/
def State.issues (s : State) (p unitId : Nat) : Bool :=
  let g := s.grid p
  g.inGust && !g.held && !g.paused && (s.plan? p unitId).isSome && !g.ended.contains unitId &&
    !bit (s.reg kGenSource) p && (s.part p).state == stRunning && !s.calm p

/-- Whether the next entry of a unit's plan is one of UNIT `unit` at descriptor address `a`, and its plan clock has
reached that entry's ISSUE_CYCLE (R54 to R56). -/
def State.due (s : State) (p unitId unit a : Nat) : Bool :=
  (s.plan? p unitId).any (fun b => (b.entries[(s.planAt p unitId).1]?).any (fun e =>
    fld e 32 4 == unit && fld e 64 64 == a && decide (fld e 0 32 ≤ s.planClock p unitId)))

/-- The nanoseconds for which the unit's plan clock has stood past the ISSUE_CYCLE of its next entry: it stops there
until the entry's descriptor, the row's operand, has arrived (R55, R87, log entry 112). -/
def State.waited (s : State) (p unitId : Nat) : Nat :=
  let x := s.planAt p unitId
  let a := (s.grid p).started
  match (s.plan? p unitId).bind (fun b => b.entries[x.1]?) with
  | none => 0
  | some e => s.now - a - s.calmNs p a s.now - x.2 - ceilDiv (fld e 0 32 * 1000) (s.fCore p)

/-- The unit's plan moves on to its next entry. -/
def State.advance (s : State) (p unitId : Nat) : State :=
  let x := s.planAt p unitId
  s.setGrid p { s.grid p with progress := tabSet (s.grid p).progress unitId (x.1 + 1, x.2) }

/-- Whether the unit runs an entry. -/
def State.busy (s : State) (unitId unit : Nat) : Bool :=
  s.running.any (fun r => r.unitId == unitId && r.unit == unit) ||
    (decide (3 ≤ unit) && decide (unit ≤ 8) &&
      s.transfers.any (fun t => t.cluster == unitId && t.context == unit - 3))

/-- The stalled entry of a unit's plan: its plan clock stands, so there is one at most. -/
def State.stalledOf (s : State) (p unitId : Nat) : List Stalled :=
  s.stalled.filter (fun x => x.part == p && x.unitId == unitId)

/-- An entry that is due stalls its unit (R55, R56). -/
def State.stall (s : State) (p unitId unit : Nat) (entry : Instr) : State :=
  { s with stalled := s.stalled ++ [⟨p, unitId, unit, s.now, entry⟩] }

/-- An entry of a unit of partition `p` issues: it runs, or stalls its unit while the unit is busy or while a line
it reads is pending; the cycles for which its descriptor came late count first (R87). A row that is not the plan's
next entry, or comes before its cycle or while the plan clock stands, changes nothing (log entry 103). -/
def State.issue (s : State) (p unitId unit a : Nat) (awaiting : Bool) (entry : Instr)
    (run : State → State) : State :=
  if s.issues p unitId = false ∨ (s.stalledOf p unitId).isEmpty = false ∨ s.due p unitId unit a = false then s
  else
    let s := s.lateFor p unitId (s.waited p unitId)
    if s.busy unitId unit || awaiting then s.stall p unitId unit entry
    else run (s.advance p unitId)

/-- An entry of a cluster's unit. -/
def State.issueCluster (s : State) (c unit a : Nat) (spans : List Span) (entry : Instr)
    (run : Nat → State → State) : State :=
  match s.clusterPart c with
  | none => s
  | some p => s.issue p c unit a (s.awaits c spans) entry (run p)

/-- A running entry added, unless a fault that its own accesses met has abandoned the pass (R81). -/
def State.runEntry (s : State) (r : Running) : State :=
  if (s.grid r.part).held then s else { s with running := s.running ++ [r] }

/-- A refused descriptor (R108, R137, R157, R216): the code is kept, an event raised, and the pass
faults (R81). -/
def State.refuseEntry (s : State) (p key : Nat) (ev : EventCode) (reason : Reason) : State :=
  ((s.setReg key reason).event ev reason p).faultPart p reason

/-- The first failing check of a list of conditions with their codes; 0 when all hold. -/
def firstOf : List (Bool × Reason) → Reason
  | [] => 0
  | (b, r) :: rest => if b then r else firstOf rest

end Sys2Proof.Machine
end

