-- ==== Sys2Proof/Machine/Array.lean ====
section
/-! DEFINITION. The matrix array (R92 to R118): its descriptor, the exact block accumulation of its
six modes, poison, and the commands of the array family. -/

namespace Sys2Proof.Machine

/-- The fields of an array descriptor (R106). -/
structure ArrayDesc where
  kind    : Nat
  op      : Nat
  fx      : Nat
  fw      : Nat
  fy      : Nat
  cmp     : Nat
  init    : Nat
  dest    : Nat
  roundY  : Bool
  satY    : Bool
  rows    : Nat
  cols    : Nat
  k       : Nat
  scaleX  : Nat
  scaleW  : Nat
  xLine   : Nat
  wLine   : Nat
  yLine   : Nat
  biasLine : Nat
  sxLine  : Nat
  swLine  : Nat
  xStride : Nat
  yStride : Nat
  sxStride : Nat
  stream  : Nat
  deriving DecidableEq, Repr

/-- The record of R106 read. -/
def arrayDesc (d : Nat) : ArrayDesc :=
  ⟨fld d 0 4, fld d 4 4, fld d 8 4, fld d 12 4, fld d 16 4, fld d 20 3, fld d 24 2, fld d 26 2, bit d 28,
    bit d 29, fld d 32 10, fld d 42 7, fld d 64 32, fld d 96 8, fld d 104 8, fld d 128 15, fld d 160 15,
    fld d 192 15, fld d 224 15, fld d 256 15, fld d 288 15, fld d 320 16, fld d 336 16, fld d 352 16,
    fld d 368 16⟩

/-- The integer path (R98). -/
def ArrayDesc.intPath (x : ArrayDesc) : Bool := (fmtInt x.fx && fmtInt x.fw) || x.op == 5

/-- The operands' spans in the cell store (R107). -/
def ArrayDesc.xSpan (x : ArrayDesc) (r : Nat) : Span :=
  spanLines ((x.xLine + r * x.xStride) * 64) (ceilDiv (x.k * fmtBits x.fx) 8)
def ArrayDesc.wSpan (x : ArrayDesc) : Span := spanLines (x.wLine * 64) (x.k * 8 * fmtBits x.fw)
def ArrayDesc.sxSpan (x : ArrayDesc) (r : Nat) : Span :=
  if fmtMx x.fx then spanLines ((x.sxLine + r * x.sxStride) * 64) (ceilDiv x.k 32) else (0, 0)
def ArrayDesc.swSpan (x : ArrayDesc) : Span := if fmtMx x.fw then (x.swLine, ceilDiv x.k 32) else (0, 0)
def ArrayDesc.biasSpan (x : ArrayDesc) : Span :=
  if x.init = 1 then spanLines (x.biasLine * 64) (4 * x.cols) else (0, 0)

/-- Every span that the entry reads; none where M_ROWS or N_COLS is 0 (R112). -/
def ArrayDesc.spans (x : ArrayDesc) : List Span :=
  if x.rows = 0 ∨ x.cols = 0 then []
  else [x.wSpan, x.swSpan, x.biasSpan] ++
    (List.range x.rows).flatMap (fun r => [x.xSpan r, x.sxSpan r])

/-- The checks of R108 at issue. -/
def State.arrayCheck (s : State) (p c a : Nat) (x : ArrayDesc) : Reason :=
  let width := match s.plan? p c with
    | some b => b.widthClass
    | none => 0
  let heldMatches := match tabGet (s.held.map (fun h => (h.1, some h.2))) c none with
    | some h => h.rows == x.rows && h.cols == x.cols && h.op == x.op && h.intPath == x.intPath
    | none => false
  firstOf [
    (x.kind != 1 || decide (6 ≤ x.op), 0x1008),
    (x.fx == 0xF || x.fw == 0xF || decide (6 ≤ x.fy), 0x1009),
    (decide (512 < x.rows), 0x100A),
    (decide (width < x.cols), 0x100B),
    (!s.inNear p a, 0x100C),
    (x.op == 5 && decide (6 ≤ x.cmp), 0x100D),
    (x.init == 3 || x.dest == 3, 0x100E),
    (fmtInt x.fx != fmtInt x.fw || (x.fy == 5) != x.intPath, 0x1108),
    (x.init == 2 && !heldMatches, 0x1109)]

/-- Element k of X row r, and W[k][j], as their scaled values (R94 to R96). -/
def State.arrayX (s : State) (c : Nat) (x : ArrayDesc) (r k : Nat) : Val :=
  let b := fmtBits x.fx
  let v := fmtDecode x.fx (s.cellBits c ((x.xLine + r * x.xStride) * 64) (k * b) b)
  if fmtInt x.fx then v
  else
    let v := if fmtMx x.fx then
        applyScale v (s.cellLe c ((x.sxLine + r * x.sxStride) * 64 + k / 32) 1) else v
    applyScale v x.scaleX

def State.arrayW (s : State) (c : Nat) (x : ArrayDesc) (k j : Nat) : Val :=
  let b := fmtBits x.fw
  let v := fmtDecode x.fw (s.cellBits c (x.wLine * 64 + k * 8 * b) (j * b) b)
  if fmtInt x.fw then v
  else
    let v := if fmtMx x.fw then applyScale v (s.cellLe c ((x.swLine + k / 32) * 64 + j) 1) else v
    applyScale v x.scaleW

/-- What one PE forms (R103). -/
def arrayTerm (op cmp : Nat) (x w : Val) : Val :=
  match op with
  | 0 => x.mul w
  | 1 => (x.add w.neg).abs
  | 2 => let t := x.add w.neg; t.mul t
  | 3 => x.add w
  | 4 => x.add w
  | _ => if cmpHolds cmp (x.cmp w) then .fin false 1 0 else .fin false 0 0

/-- A finite value as the integer it is, for the integer path (R102, R104). -/
def Val.toInt (v : Val) : Int :=
  match v with
  | .fin s m e =>
    let n : Int := ((scaleDown m e : Nat) : Int)
    if s then -n else n
  | _ => 0

/-- One block of at most 64 terms combined into an accumulator pattern (R99, R102, R103), with
whether it saturated. -/
def arrayBlock (op : Nat) (int : Bool) (acc : Nat) (terms : List Val) : Nat × Bool :=
  if int then
    let ts := terms.map Val.toInt
    let a := sgn 32 acc
    match op with
    | 3 => (unsgn 32 (ts.foldl max a), false)
    | 4 => (unsgn 32 (ts.foldl min a), false)
    | _ =>
      let r := satInt 32 (ts.foldl (· + ·) a)
      (unsgn 32 r.1, r.2)
  else
    match op with
    | 3 => (toF32 (terms.foldl Val.max2 (ofF32 acc)), false)
    | 4 => (toF32 (terms.foldl Val.min2 (ofF32 acc)), false)
    | _ => (toF32 ((ofF32 acc).sum terms), false)

/-- The identity of a mode (R103, R104). -/
def arrayIdentity (op : Nat) (int : Bool) : Nat :=
  match op with
  | 3 => if int then 0x80000000 else f32NegInf
  | 4 => if int then 0x7FFFFFFF else f32PosInf
  | _ => 0

/-- One accumulator of the entry: from its initial value through the blocks in ascending k. -/
def State.arrayCell (s : State) (c : Nat) (x : ArrayDesc) (r j init : Nat) : Nat × Bool :=
  (List.range (ceilDiv x.k 64)).foldl (fun acc b =>
    let n := min 64 (x.k - 64 * b)
    let terms := (List.range n).map (fun i =>
      arrayTerm x.op x.cmp (s.arrayX c x r (64 * b + i)) (s.arrayW c x (64 * b + i) j))
    let y := arrayBlock x.op x.intPath acc.1 terms
    (y.1, acc.2 || y.2)) (init, false)

/-- The running time of R110. -/
def ArrayDesc.cycles (x : ArrayDesc) : Nat :=
  let nb := ceilDiv x.k 64
  let rc := match rateClass x.fx x.fw with
    | 0 => ceilDiv x.rows 2
    | 1 => x.rows
    | _ => 2 * x.rows
  let wl := if nb = 0 then 0 else weightLoad x.fw
  let dr := if x.dest = 1 then 0 else ceilDiv (x.rows * x.cols * yBytes x.fy) 512
  20 + wl + nb * max rc wl + dr

/-- The effect of an array entry that has passed its checks, computed as it issues and put in force
when it ends. Where Y_STRIDE makes rows of Y overlap, rows are written in ascending order and the last one stands:
R107 says only how overlapping rows are read (DESIGN CHOICE, log entry 114). -/
def State.arrayRun (s : State) (p c : Nat) (x : ArrayDesc) : State :=
  let old := tabGet (s.held.map (fun h => (h.1, some h.2))) c none
  let cells := (List.range x.rows).flatMap (fun r => (List.range x.cols).map (fun j => (r, j)))
  let initOf := fun (r j : Nat) =>
    match x.init with
    | 1 => s.cellLe c (x.biasLine * 64 + 4 * j) 4
    | 2 => match old with
      | some h => h.vals.getD (r * x.cols + j) 0
      | none => 0
    | _ => arrayIdentity x.op x.intPath
  let results := cells.map (fun rj => s.arrayCell c x rj.1 rj.2 (initOf rj.1 rj.2))
  let wPoison := s.spanPoison c x.wSpan || s.spanPoison c x.swSpan || s.spanPoison c x.biasSpan
  let rowPoison := (List.range x.rows).map (fun r =>
    wPoison || s.spanPoison c (x.xSpan r) || s.spanPoison c (x.sxSpan r))
  let marks := cells.map (fun rj =>
    rowPoison.getD rj.1 false || (x.init == 2 && match old with
      | some h => h.poison.getD (rj.1 * x.cols + rj.2) false
      | none => false))
  let empty := decide (x.rows = 0 ∨ x.cols = 0)
  let outRow := fun (r : Nat) => (List.range x.cols).map (fun j =>
    let v := (results.getD (r * x.cols + j) (0, false)).1
    let bits := if x.intPath then v
      else convertOut x.fy (s.rounding p c x.roundY x.stream (r * 64 + j)) x.satY (ofF32 v)
    (bits, marks.getD (r * x.cols + j) false))
  let puts := if x.dest = 0 ∧ empty = false then
      (List.range x.rows).flatMap (fun r => rowPuts c (x.yLine + r * x.yStride) (yBytes x.fy) (outRow r))
    else []
  let tiles : Option (List TileRow) := if x.dest = 2 then
      some (if empty then [] else (List.range x.rows).map (fun r => ⟨c, r, (outRow r).map (·.1), (outRow r).any (·.2)⟩))
    else none
  let lost := (x.spans.map overLines).foldl (· + ·) 0 + putsOver puts
  let s := { s with held := tabErase s.held c }
  let s := if x.k = 0 ∧ empty = false then s.bumpReg kEmptyReductions 1 else s
  let s := if results.any (·.2) then s.bumpReg kIntSaturations 1 else s
  let s := s.overrun c lost
  let held := if x.dest = 1 then
      some ⟨x.rows, x.cols, x.op, x.intPath, results.map (·.1), marks⟩ else none
  s.runEntry ⟨p, c, 0, s.now, x.cycles, puts, held, tiles, x.fy, 0, none, none⟩

/-- An array entry of mode `op`: refused under R108, or run. -/
def State.arrayEntry (op c a d p : Nat) (s : State) : State :=
  let x := arrayDesc d
  let x := if x.op < 6 then { x with op := op } else x
  let r := s.arrayCheck p c a x
  if r ≠ 0 then
    (s.setReg kArrayFaultCluster c).refuseEntry p kArrayRefusal 0x01030021 r
  else s.arrayRun p c x

/-- The meanings of the array's commands: the entry issues in its cluster's plan. -/
def execMultiplyAdd (c : Fin 512) (a : BitVec 64) (d : Desc) (s : State) : Host.Outcome State Fault Refusal :=
  .next (s.issueCluster c.val 0 a.toNat (arrayDesc d.toNat).spans (.multiplyAdd c a d)
    (State.arrayEntry 0 c.val a.toNat d.toNat))

def execSumOfAbsoluteDifferences (c : Fin 512) (a : BitVec 64) (d : Desc) (s : State) :
    Host.Outcome State Fault Refusal :=
  .next (s.issueCluster c.val 0 a.toNat (arrayDesc d.toNat).spans (.sumOfAbsoluteDifferences c a d)
    (State.arrayEntry 1 c.val a.toNat d.toNat))

def execSumOfSquaredDifferences (c : Fin 512) (a : BitVec 64) (d : Desc) (s : State) :
    Host.Outcome State Fault Refusal :=
  .next (s.issueCluster c.val 0 a.toNat (arrayDesc d.toNat).spans (.sumOfSquaredDifferences c a d)
    (State.arrayEntry 2 c.val a.toNat d.toNat))

def execMaxPlus (c : Fin 512) (a : BitVec 64) (d : Desc) (s : State) : Host.Outcome State Fault Refusal :=
  .next (s.issueCluster c.val 0 a.toNat (arrayDesc d.toNat).spans (.maxPlus c a d)
    (State.arrayEntry 3 c.val a.toNat d.toNat))

def execMinPlus (c : Fin 512) (a : BitVec 64) (d : Desc) (s : State) : Host.Outcome State Fault Refusal :=
  .next (s.issueCluster c.val 0 a.toNat (arrayDesc d.toNat).spans (.minPlus c a d)
    (State.arrayEntry 4 c.val a.toNat d.toNat))

def execCompareAndCount (c : Fin 512) (a : BitVec 64) (d : Desc) (s : State) :
    Host.Outcome State Fault Refusal :=
  .next (s.issueCluster c.val 0 a.toNat (arrayDesc d.toNat).spans (.compareAndCount c a d)
    (State.arrayEntry 5 c.val a.toNat d.toNat))

/-- The physical columns of a cluster under a bypass map, in the order of its logical columns (R113). -/
def columnMap (bypass : Nat) : List Nat := (List.range 64).filter (fun i => !bit bypass i)

/-- The physical column that logical column `j` of a cluster maps to; none beyond its width (R113). -/
def State.physicalColumn (s : State) (c j : Nat) : Option Nat :=
  (columnMap (s.reg (kColumnBypass (c / 128) (c % 128 + 1))))[j]?

/-- Whether a physical column of a cluster carries one of its logical columns (R113). -/
def State.columnMapped (s : State) (c col : Nat) : Bool :=
  (List.range (s.reg (kClusterWidth (c / 128) (c % 128 + 1)))).any (fun j => s.physicalColumn c j == some col)

/-- COLUMN_SELF_CHECK_FAIL (R115) of a physical column: the running array entry faults with 0x1110. Where no array
entry runs, or the column is bypassed and so no column of the array, there is nothing to fault (log entry 113). -/
def execColumnSelfCheckFail (c : Fin 512) (col : Fin 64) (s : State) : Host.Outcome State Fault Refusal :=
  match s.running.find? (fun r => r.unitId == c.val && r.unit == 0) with
  | none => .next s
  | some r =>
    if s.columnMapped c.val col.val = false then .next s
    else .next ((s.setReg kArrayFaultCluster c.val).refuseEntry r.part kArrayRefusal 0x01030022 0x1110)

end Sys2Proof.Machine
end

