-- ==== Sys2Proof/Machine/Capability.lean ====
section
/-! DEFINITION. The capability table (R383, R384) and the partition view (R381) as software reads
them. -/

namespace Sys2Proof.Machine

/-- Where the region of image `i` of a slot begins, and its size (R467). -/
def imageBase (slot i : Nat) : Nat :=
  slot * 0x6000000 + [0, 0x100000, 0x500000, 0xD00000, 0x1D00000, 0x2500000, 0x2D00000].getD i 0
def imageRoom (i : Nat) : Nat := [0, 4, 8, 16, 8, 8, 51].getD i 0 * 2 ^ 20

/-- Bytes of the flash (R460); an erased byte reads 0xFF. -/
def State.flashRead (s : State) (a n : Nat) : List Byte := memRead flashErased s.mem.flash a n

/-- The header of an image (R468). -/
def State.imageHeader (s : State) (slot i : Nat) : Nat := ofLe (s.flashRead (imageBase slot i) 128)

/-- An image of a slot: its interface revision, security version and length. -/
def State.imageAt (s : State) (slot i : Nat) : Image :=
  match s.fw.factory.find? (fun e => e.1 == slot * 8 + i) with
  | some e => e.2
  | none =>
    let h := s.imageHeader slot i
    ⟨fld h 32 16, fld h 20 6, 224 + fld h 160 32⟩

/-- The image of a number in the running slot. -/
def State.image (s : State) (i : Nat) : Image := s.imageAt (s.reg kActiveSlot) i

/-- HOST_IF_REV and SEQ_IF_REV (R468): the interface revisions of images 3 and 6. -/
def State.hostIfRev (s : State) : Nat := (s.image 3).version
def State.seqIfRev (s : State) : Nat := (s.image 6).version

/-- The width of a cluster in force (R113, R114). -/
def State.clusterWidth (s : State) (c : Nat) : Nat := s.reg (kClusterWidth (c / 128) (c % 128 + 1))

/-- Clusters in service: those whose width is not 0 (R114). -/
def State.clustersInService (s : State) : Nat :=
  ((List.range 512).filter (fun c => s.clusterWidth c != 0)).length

/-- The fields of the capability table but CAP_GEN, as (lowest bit, value) (R383). -/
def State.capFields (s : State) : List (Nat × Nat) :=
  let inService := fun (base : Nat) => ofBits ((List.range 16).filter (fun u => !s.tier.outOfService.contains (base + u)))
  [(32, 1), (48, s.hostIfRev), (64, s.seqIfRev), (80, s.reg kModuleId), (96, s.clustersInService),
    (112, s.reg kFullWidthClusters), (128, s.reg kActiveColumns), (160, inService 0), (176, inService 16),
    (192, ofBits ((List.range 16).filter (fun n => !(s.fabric.ports.any (fun e => e.1 == n && e.2.failed))))),
    (208, 8), (216, s.reg kLcState), (224, s.reg kColmapGen),
    (256, ((List.range 16).map s.populatedBytes).sum),
    (320, ((List.range 16).map (fun u => s.populatedBytes (16 + u))).sum), (384, 1048576)]

/-- The table as one number; its 128 bytes are little-endian. -/
def State.capability (s : State) : Nat :=
  s.capFields.foldl (fun a f => a + f.2 * 2 ^ f.1) (s.reg kCapGen)

/-- CAP_GEN follows a change of any other field (R384): it rises, skipping 0, with event
0x0A01_0005. -/
def State.capFollow (s old : State) : State :=
  if s.capFields = old.capFields then s
  else
    let g := s.reg kCapGen
    (s.setReg kCapGen (if g = 0xFFFFFFFF then 1 else g + 1)).event 0x0A010005 0 0

/-- A change of the machine with what it does to the capability table. -/
def State.withCap (s : State) (f : State → State) : State := (f s).capFollow s

/-- A partition's view as its bytes are read (R381): the state and generation that the copies of R347
hold, the recovery epoch, and the sticky access error. -/
def State.viewWord (s : State) (i : Nat) : Nat :=
  let v := s.view i
  let epoch := s.epochOf i
  v.state + v.gen * 2 ^ 32 + epoch * 2 ^ 64 + b2n v.err * 2 ^ 96 + v.reason * 2 ^ 112 + v.offset * 2 ^ 128

end Sys2Proof.Machine
end

