-- ==== Sys2Proof/Machine/Sha.lean ====
section
/-! DEFINITION. SHA-384 (R4, R350, R500), the derivation function D of R356, the CRC-32 of R134 and
R462. -/

namespace Sys2Proof.Machine

/-- The 80 round constants of FIPS 180-4, constant `i` in bits `[64i + 63 : 64i]`. -/
def shaK : Nat :=
  0x6c44198c4a4758175fcb6fab3ad6faec597f299cfc657e2a4cc5d4becb3e42b6431d67c49c100d4c3c9ebe0a15c9bebc32caab7b40c7249328db77f523047d841b710b35131c471b113f9804bef90dae0a637dc5a2c898a606f067aa72176fbaf57d4f7fee6ed178eada7dd6cde0eb1ed186b8c721c0c207ca273eceea26619cc67178f2e372532bbef9a3f7b2c67915a4506cebde82bde990befffa23631e288cc702081a6439ec84c87814a1f0ab7278a5636f43172f60748f82ee5defb2fc682e6ff3d6b2b8a35b9cca4f7763e3734ed8aa4ae3418acb391c0cb3c5c95a6334b0bcb5e19b48a82748774cdf8eeb991e376c085141ab5319a4c116b8d2d0c8106aa07032bbd1b8f40e35855771202ad69906245565a910d192e819d6ef5218c76c51a30654be30c24b8b70d0f89791a81a664bbc423001a2bfe8a14cf1036492722c851482353b81c2c92e47edaee6766a0abb3c77b2a8650a73548baf63de53380d139d95b3df4d2c6dfc5ac42aed2e1b21385c26c92627b70a8546d22ffc142929670a0e6e7006ca6351e003826fd5a79147930aa725c6e00bf33da88fc2bf597fc7beef0ee4b00327c898fb213fa831c66d2db43210983e5152ee66dfab76f988da831153b55cb0a9dcbd41fbd44a7484aa6ea6e4832de92c6f592b0275240ca1cc77ac9c650fc19dc68b8cd5b5efbe4786384f25e3e49b69c19ef14ad2c19bf174cf6926949bdc06a725c7123580deb1fe3b1696b172be5d74f27b896f550c7dc3d5ffb4e2243185be4ee4b28c12835b0145706fbed807aa98a3030242ab1c5ed5da6d8118923f82a4af194f9b59f111f1b605d0193956c25bf348b538e9b5dba58189dbbcb5c0fbcfec4d3b2f7137449123ef65cd428a2f98d728ae22

/-- The initial hash value of SHA-384. -/
def shaInit : List Nat :=
  [0xcbbb9d5dc1059ed8, 0x629a292a367cd507, 0x9159015a3070dd17, 0x152fecd8f70e5939, 0x67332667ffc00b31, 0x8eb44a8768581511, 0xdb0c2e0d64f98fa7, 0x47b5481dbefa4fa4]

/-- A 64-bit word turned right by `n`. -/
def rotr64 (x n : Nat) : Nat := (x >>> n) ||| ((x % 2 ^ n) <<< (64 - n))

/-- `n` further words of the message schedule; `ws` holds the last 16, newest first. -/
def shaExpand : Nat → List Nat → List Nat
  | 0, _ => []
  | n + 1, ws =>
    let a := ws.getD 14 0
    let b := ws.getD 1 0
    let s0 := rotr64 a 1 ^^^ rotr64 a 8 ^^^ (a >>> 7)
    let s1 := rotr64 b 19 ^^^ rotr64 b 61 ^^^ (b >>> 6)
    let w := (ws.getD 15 0 + s0 + ws.getD 6 0 + s1) % 2 ^ 64
    w :: shaExpand n (w :: ws.take 15)

/-- One round on the eight working words. -/
def shaRound (v : List Nat) (k w : Nat) : List Nat :=
  match v with
  | [a, b, c, d, e, f, g, h] =>
    let s1 := rotr64 e 14 ^^^ rotr64 e 18 ^^^ rotr64 e 41
    let ch := (e &&& f) ^^^ ((2 ^ 64 - 1 - e) &&& g)
    let t1 := h + s1 + ch + k + w
    let s0 := rotr64 a 28 ^^^ rotr64 a 34 ^^^ rotr64 a 39
    let mj := (a &&& b) ^^^ (a &&& c) ^^^ (b &&& c)
    [(t1 + s0 + mj) % 2 ^ 64, a, b, c, (d + t1) % 2 ^ 64, e, f, g]
  | _ => v

/-- The rounds over the schedule, from round `i`. -/
def shaRounds : Nat → List Nat → List Nat → List Nat
  | _, [], v => v
  | i, w :: r, v => shaRounds (i + 1) r (shaRound v ((shaK >>> (64 * i)) % 2 ^ 64) w)

/-- One 128-byte block into the hash value. -/
def shaBlock (h : List Nat) (blk : List Byte) : List Nat :=
  let ws := (chunksOf 8 16 blk).map ofBe
  let v := shaRounds 0 (ws ++ shaExpand 64 ws.reverse) h
  List.zipWith (fun a b => (a + b) % 2 ^ 64) h v

/-- The message with its padding. -/
def shaPad (m : List Byte) : List Byte :=
  let z := (128 - (m.length + 17) % 128) % 128
  m ++ 0x80#8 :: List.replicate z 0 ++ beBytes 16 (8 * m.length)

/-- SHA-384, 48 bytes. -/
def sha384 (m : List Byte) : List Byte :=
  let p := shaPad m
  (((chunksOf 128 (p.length / 128 + 1) p).foldl shaBlock shaInit).flatMap (beBytes 8)).take 48

/-- D(K, L, C) of R356, 48 bytes. -/
def derive (k label ctx : List Byte) : List Byte :=
  sha384 (k ++ label ++ 0#8 :: ctx ++ leBytes 4 ctx.length)

/-- An ASCII label as bytes. -/
def ascii (s : String) : List Byte := s.toList.map (fun c => BitVec.ofNat 8 c.toNat)

/-- Eight shift steps of the reflected CRC-32. -/
def crcShift : Nat → Nat → Nat
  | 0, c => c
  | n + 1, c => crcShift n (if c % 2 = 1 then (c / 2) ^^^ 0xEDB88320 else c / 2)

/-- CRC-32 with the IEEE 802.3 polynomial (R134, R462). -/
def crc32 (m : List Byte) : Nat :=
  (m.foldl (fun c b => crcShift 8 (c ^^^ b.toNat)) 0xFFFFFFFF) ^^^ 0xFFFFFFFF

end Sys2Proof.Machine
end

