-- ==== Sys2Proof/Machine/P384.lean ====
section
/-! DEFINITION. ECDSA on curve P-384 as R500 lays it down, and the ephemeral Diffie–Hellman
exchange of R253. -/

namespace Sys2Proof.Machine

/-- The field prime of P-384. -/
def p384p : Nat := 2 ^ 384 - 2 ^ 128 - 2 ^ 96 + 2 ^ 32 - 1

/-- The order of P-384. -/
def p384n : Nat :=
  0xffffffffffffffffffffffffffffffffffffffffffffffffc7634d81f4372ddf581a0db248b0a77aecec196accc52973

/-- The curve constant b of P-384. -/
def p384b : Nat :=
  0xb3312fa7e23ee7e4988e056be3f82d19181d9c6efe8141120314088f5013875ac656398d8a2ed19d2a85c8edd3ec2aef

/-- The base point of P-384. -/
def p384g : Nat × Nat :=
  (0xaa87ca22be8b05378eb1c71ef320ad746e1d3b628ba79b9859f741e082542a385502f25dbf55296c3a545e3872760ab7,
   0x3617de4a96262c6f5d9e98bf9292dc29f8f41dbd289a147ce9da3113b5f0b8c00a60b1ce1d7e819d7a431d7c90ea0e5f)

/-- Euclid's algorithm on `(r₀, r₁)` with the cofactors of one argument modulo `m`. -/
def invGo (m : Nat) : Nat → Nat → Nat → Nat → Nat → Nat
  | 0, _, _, t0, _ => t0
  | n + 1, r0, r1, t0, t1 =>
    if r1 = 0 then t0
    else invGo m n r1 (r0 % r1) t1 ((t0 + m - (r0 / r1 * t1) % m) % m)

/-- The inverse of `a` modulo the prime `m` (0 for 0). -/
def modInv (a m : Nat) : Nat := invGo m 800 m (a % m) 0 1

/-- A point (x, y) as X = x Z², Y = y Z³; Z = 0 is the point at infinity. -/
structure EcPoint where
  x : Nat
  y : Nat
  z : Nat
  deriving DecidableEq, Repr

def ecZero : EcPoint := ⟨1, 1, 0⟩

/-- `a - b` modulo the field prime. -/
def fSub (a b : Nat) : Nat := (a + (p384p - b % p384p)) % p384p

/-- Twice a point. -/
def ecDouble (q : EcPoint) : EcPoint :=
  if q.z = 0 ∨ q.y = 0 then ecZero
  else
    let p := p384p
    let yy := q.y * q.y % p
    let s := 4 * q.x * yy % p
    let zz := q.z * q.z % p
    let m := 3 * fSub q.x zz * (q.x + zz) % p
    let x := fSub (m * m) (2 * s)
    ⟨x, fSub (m * fSub s x) (8 * yy * yy), 2 * q.y * q.z % p⟩

/-- The sum of two points. -/
def ecAdd (a b : EcPoint) : EcPoint :=
  if a.z = 0 then b
  else if b.z = 0 then a
  else
    let p := p384p
    let za := a.z * a.z % p
    let zb := b.z * b.z % p
    let ua := a.x * zb % p
    let h := fSub (b.x * za) ua
    let sa := a.y * zb * b.z % p
    let r := fSub (b.y * za * a.z) sa
    if h = 0 then (if r = 0 then ecDouble a else ecZero)
    else
      let hh := h * h % p
      let v := ua * hh % p
      let x := fSub (r * r) (h * hh + 2 * v)
      ⟨x, fSub (r * fSub v x) (sa * h % p * hh), a.z * b.z % p * h % p⟩

/-- The affine coordinates of a point; none of the point at infinity. -/
def EcPoint.affine (q : EcPoint) : Option (Nat × Nat) :=
  if q.z = 0 then none
  else
    let w := modInv q.z p384p
    let ww := w * w % p384p
    some (q.x * ww % p384p, q.y * ww % p384p * w % p384p)

/-- Double-and-add over the low `n` bits of `k`. -/
def ecMulGo (q : EcPoint) (k : Nat) : Nat → EcPoint → EcPoint
  | 0, acc => acc
  | n + 1, acc =>
    let d := ecDouble acc
    if k.testBit n then ecMulGo q k n (ecAdd d q) else ecMulGo q k n d

/-- `k · q` for an affine point. -/
def ecMul (k : Nat) (q : Nat × Nat) : EcPoint := ecMulGo ⟨q.1, q.2, 1⟩ k 384 ecZero

/-- Whether the pair is an affine point of the curve. -/
def ecOnCurve (q : Nat × Nat) : Bool :=
  let p := p384p
  q.1 < p && q.2 < p && (q.2 * q.2) % p == (q.1 * q.1 * q.1 + (p - 3) * q.1 + p384b) % p

/-- ECDSA verification of `(r, s)` on the hash `e` under the key `q`. -/
def ecdsaCheck (q : Nat × Nat) (e r s : Nat) : Bool :=
  let n := p384n
  if r = 0 ∨ r ≥ n ∨ s = 0 ∨ s ≥ n ∨ ecOnCurve q = false then false
  else
    let w := modInv s n
    match (ecAdd (ecMul (e * w % n) p384g) (ecMul (r * w % n) q)).affine with
    | none => false
    | some (x, _) => x % n == r

/-- A 96-byte stored public key or signature as its two 48-byte numbers (R500, R337). -/
def pair48 (l : List Byte) : Nat × Nat := (ofBe (l.take 48), ofBe ((l.drop 48).take 48))

/-- Whether the 96-byte signature over `msg` holds under the 96-byte public key (R500). -/
def ecdsaVerify (key msg sig : List Byte) : Bool :=
  let rs := pair48 sig
  sig.length == 96 && ecdsaCheck (pair48 key) (ofBe (sha384 msg)) rs.1 rs.2

/-- ECDSA signing of `msg` under scalar `d` with the per-signature secret `k` (R500). -/
def ecdsaSign (d k : Nat) (msg : List Byte) : List Byte :=
  let n := p384n
  let r := match (ecMul (k % n) p384g).affine with
           | none => 0
           | some (x, _) => x % n
  let s := modInv k n * (ofBe (sha384 msg) + r * d) % n
  beBytes 48 r ++ beBytes 48 s

/-- The public key of scalar `d`, x then y. -/
def ecPublic (d : Nat) : List Byte :=
  match (ecMul d p384g).affine with
  | none => List.replicate 96 0
  | some (x, y) => beBytes 48 x ++ beBytes 48 y

/-- The private scalar that the derivation function gives (R356). -/
def scalarOf (d48 : List Byte) : Nat := ofBe d48 % (p384n - 1) + 1

end Sys2Proof.Machine
end

