-- ==== Sys2Proof/Machine/Firmware.lean ====
section
/-! DEFINITION. The flash and the firmware slots (R460 to R482): flash operations with their verify
failures and retirement, two-phase records, staging, activation, and the check of a slot at boot. -/

namespace Sys2Proof.Machine

/-! ### Fuses as latched (R352, R354) -/

/-- A fuse word as latched at cold boot: the nominal reading. -/
def State.latched (s : State) (w : Nat) : Nat := tabGet s.sec.fuseSeen w 0

/-- The bitwise majority of three words. -/
def maj3 (a b c : Nat) : Nat := (a &&& b) ||| (a &&& c) ||| (b &&& c)

/-- Word `w` of a triplicated field of `n` words that starts at `a`, by a reading (R352). -/
def field3 (rd : Nat → Nat) (a n w : Nat) : Nat := maj3 (rd (a + w)) (rd (a + n + w)) (rd (a + 2 * n + w))

/-- Bits of a fuse word are blown (R352). -/
def State.blow (s : State) (w bits : Nat) : State :=
  { s with sec := { s.sec with fuses := tabSet s.sec.fuses w (tabGet s.sec.fuses w 0 ||| bits) } }

/-- Bits of a word of a triplicated field, in all three copies. -/
def State.blow3 (s : State) (a n w bits : Nat) : State :=
  ((s.blow (a + w) bits).blow (a + n + w) bits).blow (a + 2 * n + w) bits

/-! ### Records (R462, R463, R470) -/

/-- The records of an area: the directories of the slots, or the dictionary store. -/
def State.recs (s : State) (area : Nat) : List Rec := if area < 2 then tabGet s.fw.dirs area [] else s.fw.store

def State.setRecs (s : State) (area : Nat) (l : List Rec) : State :=
  { s with fw := if area < 2 then { s.fw with dirs := tabSet s.fw.dirs area l } else { s.fw with store := l } }

/-- The sequence number of an area's next record. -/
def nextSeq (l : List Rec) : Nat := (l.map (·.seq)).foldl max 0 + 1

/-- The index that a directory record names. -/
def Rec.index (r : Rec) : Nat := fld (ofLe r.data) 0 8

/-- The record of an image index that stands in a directory. -/
def State.dirRec (s : State) (slot i : Nat) : Option Rec :=
  ((s.recs slot).filter (fun r => r.committed && r.index == i)).getLast?

/-- The IMAGE record of an index, where that one stands. -/
def State.imageRec (s : State) (slot i : Nat) : Option Rec :=
  match s.dirRec slot i with
  | some r => if r.kind = 0x0101 then some r else none
  | none => none

/-- The newest valid record of a kind in the dictionary store. -/
def State.storeRec (s : State) (kind : Nat) : Option Rec :=
  (s.fw.store.filter (fun r => r.committed && r.kind == kind)).getLast?

/-- SLOT_IMAGES (R480). -/
def State.slotImages (s : State) : Nat :=
  ofBits ((List.range 16).filter (fun b => decide (b % 8 < 6) && (s.imageRec (b / 8) (b % 8 + 1)).isSome))

/-- The bytes that a record takes: header, padded data and marker. -/
def Rec.size (r : Rec) : Nat := 32 + 16 * ceilDiv r.data.length 16

/-- A directory half with room for fewer than six records more is left for the other (R470). -/
def State.makeRoom (s : State) (area : Nat) : State :=
  let l := s.recs area
  if 2 ≤ area ∨ l.length + 6 ≤ 5461 then s
  else
    let keep := (List.range 7).filterMap (fun i => s.dirRec area i)
    let h := tabGet s.fw.halves area 0
    let first := area * 1536 + h * 8
    let s := s.setRecs area keep
    { s with fw := { s.fw with halves := tabSet s.fw.halves area (1 - h)
                               ops := s.fw.ops ++ (List.range 8).map (fun i => .erase (first + i)) } }

/-- The data phase of a record, its marker not yet programmed. -/
def State.putBody (s : State) (area kind : Nat) (data : List Byte) : State :=
  let s := s.makeRoom area
  let l := s.recs area
  s.setRecs area (l ++ [⟨kind, nextSeq l, data, false⟩])

/-- A record is queued: its data phase, then its marker. -/
def State.queueRec (s : State) (area kind : Nat) (data : List Byte) : State :=
  { s with fw := { s.fw with ops := s.fw.ops ++ [.body area kind data, .marker area] } }

/-- A record written whole, before any core but the boot's runs (R476). -/
def State.writeRec (s : State) (area kind : Nat) (data : List Byte) : State :=
  let s := s.makeRoom area
  let l := s.recs area
  s.setRecs area (l ++ [⟨kind, nextSeq l, data, true⟩])

/-! ### Flash operations (R461, R465, R466) -/

/-- The sector that an operation works on. -/
def State.opSector (s : State) (o : FlashOp) : Nat :=
  let recSector := fun (area : Nat) =>
    let used := ((s.recs area).map Rec.size).sum
    if area < 2 then area * 1536 + tabGet s.fw.halves area 0 * 8 + used / 65536 else 3072 + min 255 (used / 65536)
  match o with
  | .erase n => n
  | .page a _ => a / 65536
  | .body area _ _ => recSector area
  | .marker area => recSector area
  | .copy i off _ => (imageBase (1 - s.reg kActiveSlot) i + off) / 65536

/-- The sector that serves a sector's accesses: its spare once it is retired. -/
def State.servedBy (s : State) (n : Nat) : Nat := tabGet s.fw.retired n n

/-- SECTOR_STATE (R480): good, warned from 80,000 erases on, or retired. -/
def State.sectorState (s : State) (n : Nat) : Nat :=
  if s.fw.retired.any (fun e => e.1 == n) then 2
  else if 80000 ≤ tabGet s.fw.erases n 0 then 1 else 0

/-- A sector is retired onto the lowest free spare; `none` when none is left. -/
def State.retire (s : State) (n : Nat) : Option State :=
  match (List.range 256).find? (fun k => !s.fw.retired.any (fun e => e.2 == 3840 + k)) with
  | none => none
  | some k =>
    let s := { s with fw := { s.fw with retired := tabSet s.fw.retired n (3840 + k) } }
    let s := s.setReg kSparesLeft (s.reg kSparesLeft - 1)
    some ((s.queueRec 2 0x0203 (leBytes 4 n ++ leBytes 4 (3840 + k))).event 0x0C020016 0 n)

/-- What follows the last operation of a session's step: a region that is erased receives or is copied, and
a commit is done (R472, R474). -/
def State.drainFlash (s : State) : State :=
  if s.fw.ops.isEmpty = false then s
  else
    match s.reg kFwState with
    | 1 =>
      if s.reg kFwStageSrc = 0 then s.setReg kFwState 2
      else ({ s with fw := { s.fw with ops := [.copy (s.reg kFwStageIndex) 0 (s.reg kFwStageBytes)] } }).setReg kFwState 3
    | 4 => (s.setReg kFwState 0).event 0x0C010011 0 (s.reg kFwStageIndex)
    | _ => s

/-- The front operation fails for good (R466): a chunk's other pages go with it, and a record's marker. -/
def State.failOp (s : State) (o : FlashOp) (rest : List FlashOp) : State :=
  let s := s.setReg kFlashRefusal 0xC405
  let keep := match o with
    | .page _ _ => rest.filter (fun x => match x with
        | .page _ _ => false
        | _ => true)
    | .body _ _ _ => rest.drop 1
    | _ => rest
  let s := { s with fw := { s.fw with ops := keep } }
  match o with
  | .page _ _ => s.setReg kFwRefusal 0xC405
  | .copy _ _ _ => s.setReg kFwRefusal 0xC405
  | _ => s

/-- A verify failure (R465): the operation stands for its retry; the third one in the sector's life retires
the sector, and without a spare fails the operation. -/
def State.verifyFail (s : State) (o : FlashOp) (rest : List FlashOp) : State :=
  let n := s.opSector o
  let m := s.servedBy n
  let k := tabGet s.fw.fails m 0 + 1
  let s := { s with fw := { s.fw with fails := tabSet s.fw.fails m k } }
  if k < 3 then s
  else
    match s.retire n with
    | some t => t
    | none => (s.failOp o rest).drainFlash

/-- An erase is counted (R465). -/
def State.countErase (s : State) (n ms : Nat) : State :=
  let m := s.servedBy n
  let k := tabGet s.fw.erases m 0 + 1
  let s := { s with fw := { s.fw with erases := tabSet s.fw.erases m k, total := s.fw.total + 1 } }
  let s := if 400 < ms then (s.bumpReg kSlowErases 1).event 0x0C020014 0 n else s
  let s := if k = 80000 then s.event 0x0C020015 0 n else s
  let s := if s.fw.total % 64 = 0 then s.queueRec 2 0x0204 [] else s
  if 100000 < k then (s.retire n).getD s else s

/-- An erased sector reads all ones, and no image of the factory stands in it any longer. -/
def State.eraseSector (s : State) (n : Nat) : State :=
  let lo := n * 65536
  let hit := fun (e : Nat × Image) =>
    decide (imageBase (e.1 / 8) (e.1 % 8) < lo + 65536) && decide (lo < imageBase (e.1 / 8) (e.1 % 8) + e.2.length)
  { s with mem := { s.mem with flash := memForget s.mem.flash lo (lo + 65536) }
           fw := { s.fw with factory := s.fw.factory.filter (fun e => !hit e) } }

/-- FLASH_ERASE_DONE (R461, R465): an erase that fails its blank check, or passes its bound, is a verify
failure. -/
def execFlashEraseDone (ok : Bool) (ms : Nat) (s : State) : Host.Outcome State Fault Refusal :=
  match s.fw.ops with
  | .erase n :: rest =>
    let s := s.countErase n ms
    if ok ∧ ms ≤ 2000 then
      let s := s.eraseSector n
      .next { s with fw := { s.fw with ops := s.fw.ops.drop 1 } }.drainFlash
    else .next (s.verifyFail (.erase n) rest)
  | _ => .next s

/-- One page of a copied image: 256 bytes of the active slot's, or of an image that the factory wrote. -/
def State.copyPage (s : State) (i off len : Nat) : State :=
  let a := s.reg kActiveSlot
  let n := min 256 (len - off)
  let src := s.fw.factory.find? (fun e => e.1 == a * 8 + i)
  let s := match src with
    | some e =>
      if off + n = len then { s with fw := { s.fw with factory := tabSet s.fw.factory ((1 - a) * 8 + i) e.2 } } else s
    | none =>
      let d := s.flashRead (imageBase a i + off) n
      { s with mem := { s.mem with flash := memWrite flashErased s.mem.flash (imageBase (1 - a) i + off) d } }
  let s := { s with fw := { s.fw with staged := off + n } }
  if off + n < len then { s with fw := { s.fw with ops := .copy i (off + n) len :: s.fw.ops.drop 1 } }
  else { s with fw := { s.fw with ops := s.fw.ops.drop 1 } }

/-- The last record of an area is valid from its marker on (R462). -/
def State.putMarker (s : State) (area : Nat) : State :=
  let l := s.recs area
  match l.getLast? with
  | none => s
  | some r =>
    let s := s.setRecs area (l.dropLast ++ [{ r with committed := true }])
    if area = 2 ∧ r.kind = 0x0201 then s.event 0x0C010012 0 r.index
    else if area = 2 ∧ r.kind = 0x0204 then { s with fw := { s.fw with saved := s.fw.erases } }
    else s

/-- A program that has verified takes effect. -/
def State.programOk (s : State) (o : FlashOp) : State :=
  let pop := fun (s : State) => { s with fw := { s.fw with ops := s.fw.ops.drop 1 } }
  match o with
  | .erase _ => s
  | .page a d =>
    let s := { s with mem := { s.mem with flash := memWrite flashErased s.mem.flash a d } }
    pop { s with fw := { s.fw with staged := s.fw.staged + d.length } }
  | .body area kind d => (pop s).putBody area kind d
  | .marker area => (pop s).putMarker area
  | .copy i off len => s.copyPage i off len

/-- PAGE_PROGRAM_DONE (R461): a page, or a phase of a record, has been programmed and read back. -/
def execPageProgramDone (ok : Bool) (s : State) : Host.Outcome State Fault Refusal :=
  match s.fw.ops with
  | [] => .next s
  | .erase _ :: _ => .next s
  | o :: rest => .next (if ok then (s.programOk o).drainFlash else s.verifyFail o rest)

/-! ### Staging (R471 to R474) -/

/-- A refusal of the firmware block (R480). -/
def State.fwRefuse (s : State) (r : Reason) : Reason × State := (r, s.setReg kFwRefusal r)

/-- The slot that staging works on. -/
def State.inactive (s : State) : Nat := 1 - s.reg kActiveSlot

/-- The sectors of a region that fail their blank check. -/
def State.dirtySectors (s : State) (slot i : Nat) : List Nat :=
  let b := imageBase slot i / 65536
  let img := match s.fw.factory.find? (fun e => e.1 == slot * 8 + i) with
    | some e => ceilDiv e.2.length 65536
    | none => 0
  (List.range (imageRoom i / 65536)).filterMap (fun k =>
    if k < img ∨ s.mem.flash.any (fun c => c.1 / 65536 == b + k) then some (b + k) else none)

/-- The write of 1 to FW_STAGE_ENABLE (R472). -/
def fwStageOp (s : State) : Reason × State :=
  let i := s.stagedReg kFwStageIndex
  let src := s.stagedReg kFwStageSrc
  let n := s.stagedReg kFwStageBytes
  let r := firstOf [
    (i == 0 || decide (6 < i) || decide (1 < src) || n == 0 || decide (imageRoom i < n), 0xC006),
    (s.reg kFwState != 0, 0xC207),
    (src == 1 && (s.image i).length != n, 0xC108)]
  if r ≠ 0 then s.fwRefuse r
  else
    let s := s.commitStaged [kFwStageIndex, kFwStageSrc, kFwStageBytes]
    let s := s.queueRec s.inactive 0x0102 (leBytes 4 i ++ List.replicate 60 0)
    (0, ({ s with fw := { s.fw with ops := s.fw.ops ++ (s.dirtySectors s.inactive i).map FlashOp.erase
                                    staged := 0 } }.setReg kFwStageEnable 1).setReg kFwState 1)

/-- FW_STAGE_ENABLE (R472): the lock stays, since a session ends with its commit (R471). -/
def execFwStageEnable (r : Requester) (s : State) : Host.Outcome State Fault Refusal :=
  .next (s.writeU8 r 0x9801 0x04 false fwStageOp)

/-- The write of FW_CHUNK (R473): a session that receives takes the chunk at the next offset, once the pages
of the one before have verified. -/
def fwChunkOp (data : List Byte) (s : State) : Reason × State :=
  let off := s.reg kFwChunkOffset
  let base := imageBase s.inactive (s.reg kFwStageIndex) + off
  let r := firstOf [
    (s.reg kFwState == 2 && !s.fw.ops.isEmpty, 0xC207),
    (s.reg kFwState != 2 || off != s.fw.staged || decide (s.reg kFwStageBytes ≤ off), 0xC106)]
  if r ≠ 0 then s.fwRefuse r
  else if s.mem.flash.any (fun c => decide (base ≤ c.1) && decide (c.1 < base + data.length)) then
    (s.setReg kFlashRefusal 0xC107).fwRefuse 0xC107
  else
    let pages := (chunksOf 256 data.length data).zipIdx.map (fun e => FlashOp.page (base + 256 * e.2) e.1)
    (0, { s with fw := { s.fw with ops := pages } })

/-- FW_CHUNK (R473). -/
def execFwChunk (r : Requester) (data : List Byte) (s : State) : Host.Outcome State Fault Refusal :=
  .next (s.write r 0x9801 0x06 data.length false (fwChunkOp data)).2

/-- The SHA-384 of what a session has staged: none is known of an image that the factory wrote. -/
def State.stagedDigest (s : State) (i n : Nat) : List Byte :=
  if s.fw.factory.any (fun e => e.1 == s.inactive * 8 + i) then List.replicate 48 0
  else sha384 (s.flashRead (imageBase s.inactive i) n)

/-- The write of FW_STAGE_COMMIT (R474). -/
def fwCommitOp (v : Nat) (s : State) : Reason × State :=
  if v ≠ 1 then (0, s)
  else
    let n := s.reg kFwStageBytes
    let i := s.reg kFwStageIndex
    let st := s.reg kFwState
    if (st ≠ 2 ∧ st ≠ 3) ∨ s.fw.ops.isEmpty = false ∨ s.fw.staged < n then s.fwRefuse 0xC106
    else
      (0, (s.queueRec s.inactive 0x0101 (leBytes 4 i ++ leBytes 4 n ++ List.replicate 8 0 ++ s.stagedDigest i n)).setReg
        kFwState 4)

/-- FW_STAGE_COMMIT (R474). -/
def execFwStageCommit (r : Requester) (s : State) : Host.Outcome State Fault Refusal :=
  .next (s.writeU8 r 0x9801 0x07 true (fwCommitOp 1))

/-! ### Activation (R475, R478) -/

/-- The write of FW_ACTIVATE (R475); a session under way refuses it first (R479). -/
def fwActivateOp (v : Nat) (s : State) : Reason × State :=
  if v ≠ 1 then (0, s)
  else
    let r := firstOf [(s.reg kFwState != 0, 0xC207),
      ((List.range 6).any (fun i => (s.imageRec s.inactive (i + 1)).isNone), 0xC108)]
    if r ≠ 0 then s.fwRefuse r else (0, s.queueRec 2 0x0201 (leBytes 4 s.inactive))

/-- FW_ACTIVATE (R475). -/
def execFwActivate (r : Requester) (s : State) : Host.Outcome State Fault Refusal :=
  .next (s.writeU8 r 0x9802 0x02 false (fwActivateOp 1))

/-- The write of FW_CONFIRM (R478): FW_MIN_SVN of each image rises to the running image's SVN, as that many
bits blown. -/
def fwConfirmOp (v : Nat) (s : State) : Reason × State :=
  if v ≠ 1 then (0, s)
  else if s.fw.fellBack then s.fwRefuse 0xC207
  else (0, (List.range 6).foldl (fun s i => s.blow3 57 6 i (2 ^ (s.image (i + 1)).svn - 1)) s)

/-- FW_CONFIRM (R478). -/
def execFwConfirm (r : Requester) (s : State) : Host.Outcome State Fault Refusal :=
  .next (s.writeU8 r 0x9802 0x03 false (fwConfirmOp 1))

/-! ### The check of a slot (R469, R476) -/

/-- COMPAT of an image: the least interface revision that it needs of image `j`. -/
def State.imageNeeds (s : State) (slot i j : Nat) : Nat :=
  if s.fw.factory.any (fun e => e.1 == slot * 8 + i) then 0 else fld (s.imageHeader slot i) (64 + 16 * (j - 1)) 16

/-- Revision `r` meets need `n` (R469). -/
def meets (r n : Nat) : Bool := n == 0 || (r / 256 == n / 256 && decide (n % 256 ≤ r % 256))

/-- The header of an image agrees with its record. -/
def State.headerOk (s : State) (slot i : Nat) : Bool :=
  match s.imageRec slot i with
  | none => false
  | some r =>
    let len := fld (ofLe r.data) 32 32
    match s.fw.factory.find? (fun e => e.1 == slot * 8 + i) with
    | some e => e.2.length == len
    | none =>
      let h := s.imageHeader slot i
      fld h 16 4 == i && fld h 0 16 == 1 && 224 + fld h 160 32 == len

/-- What an image's own checks find: digest, signature and key, security version. -/
def State.imageCheck (s : State) (slot i : Nat) : Reason :=
  let img := s.imageAt slot i
  let old := (decide (img.svn < s.sec.latchedSvn.getD (i - 1) 0), 0xC502)
  if s.fw.factory.any (fun e => e.1 == slot * 8 + i) then firstOf [old]
  else
    let b := s.flashRead (imageBase slot i) img.length
    let rec_ := match s.imageRec slot i with
      | some r => r.data.drop 16
      | none => []
    let key := (b.drop 32).take 96
    let fuse := (List.range 12).flatMap (fun w => leBytes 4 (field3 s.latched 21 12 w))
    let body := b.take (img.length - 96)
    firstOf [(sha384 b != rec_, 0xC10A),
      (sha384 key != fuse || !ecdsaVerify key body (b.drop (img.length - 96)), 0xC501), old]

/-- The first failure of a slot, with the index that failed (R476). -/
def State.slotCheckBoot (s : State) (slot : Nat) : Option (Reason × Nat) :=
  let six := (List.range 6).map (· + 1)
  match six.find? (fun i => !s.headerOk slot i) with
  | some i => some (0xC10A, i)
  | none =>
    match six.find? (fun i => six.any (fun j => !meets (s.imageAt slot j).version (s.imageNeeds slot i j))) with
    | some i => some (0xC109, i)
    | none =>
      match six.find? (fun i => s.imageCheck slot i != 0) with
      | some i => some (s.imageCheck slot i, i)
      | none => none

end Sys2Proof.Machine
end

