-- ==== Sys2Proof/Machine/Packets.lean ====
section
/-! DEFINITION. Crosswind packets: the header of R242, forwarding tables (R238, R240), meters and credits of a
port (R244, R256), sending, and failure notices (R247). -/

namespace Sys2Proof.Machine

/-- The fields of a packet header (R242). -/
structure Hdr where
  kind      : Nat
  vc        : Nat
  hops      : Nat
  srcPart   : Nat
  dstPart   : Nat
  srcModule : Nat
  len       : Nat
  stage     : Nat
  tag       : Nat
  version   : Nat
  keyIndex  : Nat
  addr      : Nat
  fence     : Nat
  reasonOp  : Nat
  poison    : Nat
  deriving DecidableEq, Repr

/-- A header read. -/
def unpackHdr (h : Nat) : Hdr :=
  ⟨fld h 0 4, fld h 4 3, fld h 7 3, fld h 10 3, fld h 13 3, fld h 16 14, fld h 32 4, fld h 36 4,
    fld h 48 16, fld h 64 8, fld h 72 8, fld h 80 64, fld h 144 32, fld h 176 16, fld h 192 16⟩

/-- A header written; reserved bits are 0. -/
def packHdr (h : Hdr) : Nat :=
  h.kind % 2 ^ 4 + (h.vc % 2 ^ 3) * 2 ^ 4 + (h.hops % 2 ^ 3) * 2 ^ 7 + (h.srcPart % 2 ^ 3) * 2 ^ 10 +
    (h.dstPart % 2 ^ 3) * 2 ^ 13 + (h.srcModule % 2 ^ 14) * 2 ^ 16 + (h.len % 2 ^ 4) * 2 ^ 32 +
    (h.stage % 2 ^ 4) * 2 ^ 36 + (h.tag % 2 ^ 16) * 2 ^ 48 + (h.version % 2 ^ 8) * 2 ^ 64 +
    (h.keyIndex % 2 ^ 8) * 2 ^ 72 + (h.addr % 2 ^ 64) * 2 ^ 80 + (h.fence % 2 ^ 32) * 2 ^ 144 +
    (h.reasonOp % 2 ^ 16) * 2 ^ 176 + (h.poison % 2 ^ 16) * 2 ^ 192

/-- The virtual channel of a kind (R243). -/
def kindVc (k : Nat) : Nat :=
  if k = 2 ∨ k = 5 ∨ k = 7 ∨ k = 8 then 0 else if k = 9 then 2 else 1

/-- Kinds that carry data (R243). -/
def kindData (k : Nat) : Bool := k == 2 || k == 3 || k == 4 || k == 6 || k == 7 || k == 9

/-! ### Forwarding (R238, R240) -/

/-- The committed entry of partition `p` for a module; 0 is no entry. -/
def State.fwdEntry (s : State) (p id : Nat) : Nat := tabGet s.fabric.fwd (p * 16384 + id) 0

def fwdPort (e : Nat) : Nat := fld e 0 4
def fwdHops (e : Nat) : Nat := fld e 4 3
def fwdValid (e : Nat) : Bool := bit e 7
def fwdPeer (e : Nat) : Nat := fld e 8 3
def fwdLender (e : Nat) : Bool := bit e 11

/-- The members of partition `p`'s job besides this module (R239). -/
def State.members (s : State) (p : Nat) : List Nat :=
  (s.fabric.fwd.filter (fun e => e.1 / 16384 == p && fwdValid e.2 && !fwdLender e.2)).map (fun e => e.1 % 16384)

/-! ### Meters (R66, R244) -/

/-- The number of the aligned 1 µs window of a partition, counted from its last boundary's phase. -/
def State.window (s : State) (p : Nat) : Nat := (s.now + 1000 - (s.grid p).boundary % 1000) / 1000

/-- A meter moved on to window `w` of capacity `cap`: what exceeds a window is carried on. -/
def Meter.roll (m : Meter) (w cap : Nat) : Meter :=
  if m.window = w then m else ⟨w, 0, m.carry + m.charge - (w - m.window) * cap⟩

/-- Whether a rolled meter admits a charge (R66). -/
def Meter.admits (m : Meter) (cap x : Nat) : Bool :=
  m.carry == 0 && (decide (m.charge + x ≤ cap) || m.charge == 0)

def Meter.add (m : Meter) (x : Nat) : Meter := { m with charge := m.charge + x }

/-- A port's data flits in bytes per µs (R233). -/
def portRate : Nat := 188000

/-- The slice of a port's data flits for collective data or for everything else (R244). -/
def State.portSlice (s : State) (n : Nat) (coll : Bool) : Nat :=
  let o := s.reg (kPortOwner n)
  let c := if o < 8 then s.reg (kPortCollShare o) * portRate / 32 else 0
  if coll then c else portRate - c

/-- A port's meter as it stands in the running window; a port that no partition holds counts from time 0. -/
def State.portMeter (s : State) (n : Nat) (coll : Bool) : Meter :=
  let o := s.reg (kPortOwner n)
  (tabGet s.fabric.meters.ports (2 * n + b2n coll) ⟨0, 0, 0⟩).roll
    (if o < 8 then s.window o else s.now / 1000) (s.portSlice n coll)

/-! ### A port and its credits (R256) -/

/-- A port that is DOWN. -/
def Port.down : Port :=
  ⟨0, false, none, [], 0, 0, 0, 0, [], [], 0, [], [], 0, none, [], [], [], []⟩

def State.port (s : State) (n : Nat) : Port := tabGet s.fabric.ports n Port.down

def State.setPort (s : State) (n : Nat) (x : Port) : State :=
  { s with fabric := { s.fabric with ports := tabSet s.fabric.ports n x } }

/-- The sub-lane of a packet at the next module: its HOPS_LEFT there, and its STAGE on VC 2. -/
def subLane (h : Hdr) : Nat :=
  let hops := min 5 (h.hops - 1)
  if kindVc h.kind = 2 then 6 * h.stage + hops else hops

/-- The units of 32 B that a sub-lane of a virtual channel reserves. -/
def vcReserve (vc : Nat) : Nat := if vc = 2 then 33 else 9

/-- The units that the sub-lanes of a virtual channel share: what the reserves leave of 160 KiB. -/
def vcShared (vc : Nat) : Nat := 5120 - (if vc = 2 then 96 else 6) * vcReserve vc

/-- Where a port counts the credits of a sub-lane's reserve. -/
def reserveKey (vc lane : Nat) : Nat := 3 + 96 * vc + lane

/-- The bytes of a packet on its port, header included (R244). -/
def packetBytes (data : Nat) : Nat := 32 + data

/-- A port with a packet's credits taken: from the shared part, or else from the reserve of its sub-lane; nothing when
neither has room. -/
def Port.spend (p : Port) (h : Hdr) (data : Nat) : Option Port :=
  let vc := kindVc h.kind
  let k := reserveKey vc (subLane h)
  let u := packetBytes data / 32
  if tabGet p.used vc 0 + u ≤ vcShared vc then some { p with used := tabSet p.used vc (tabGet p.used vc 0 + u) }
  else if tabGet p.used k 0 + u ≤ vcReserve vc then some { p with used := tabSet p.used k (tabGet p.used k 0 + u) }
  else none

/-- Whether two packets go the same way through a port: within one sub-lane order is kept. -/
def sameLane (a b : Hdr) : Bool := kindVc a.kind == kindVc b.kind && subLane a == subLane b

/-- Whether a packet may leave on a port at once: none of its sub-lane waits, its slice admits it (R244), and a credit
is free (R256). -/
def State.portRoom (s : State) (n : Nat) (h : Hdr) (data : Nat) : Bool :=
  let p := s.port n
  let coll := h.kind == 9
  p.waiting.all (fun w => !sameLane (unpackHdr w.1) h) &&
    (s.portMeter n coll).admits (s.portSlice n coll) (packetBytes data) && (p.spend h data).isSome

/-- A packet leaves: its bytes are charged and its credits spent. -/
def State.sendNow (s : State) (n : Nat) (h : Hdr) (data : List Byte) : State :=
  let coll := h.kind == 9
  let m := (s.portMeter n coll).add (packetBytes data.length)
  let ms := s.fabric.meters
  let s := s.setPort n (((s.port n).spend h data.length).getD (s.port n))
  { s with fabric := { s.fabric with
      packets := s.fabric.packets ++ [⟨n, packHdr h, data⟩]
      meters := { ms with ports := tabSet ms.ports (2 * n + b2n coll) m } } }

/-- A packet put on a port: it leaves when it may, and waits otherwise; on a port that is not UP it is lost (R261). -/
def State.putPacket (s : State) (n : Nat) (h : Hdr) (data : List Byte) : State :=
  if s.reg (kPortState n) ≠ 3 then s
  else if s.portRoom n h data.length then s.sendNow n h data
  else
    let p := s.port n
    s.setPort n { p with waiting := p.waiting ++ [(packHdr h, data)] }

/-- What waits for a port is put on it again, oldest first. -/
def State.pump (s : State) (n : Nat) : State :=
  let p := s.port n
  p.waiting.foldl (fun t w => t.putPacket n (unpackHdr w.1) w.2) (s.setPort n { p with waiting := [] })

/-- A returned credit. -/
def Port.credit (p : Port) (c : CreditReturn) : Port :=
  let k := match c.lane with
    | some l => reserveKey c.vc.val l.val
    | none => c.vc.val
  { p with used := tabSet p.used k (tabGet p.used k 0 - c.units) }

/-- A dropped packet is counted (R240). -/
def State.countDrop (s : State) (reason n : Nat) : State :=
  (s.bumpReg kPacketsDropped 1).event 0x07020009 reason n

/-- A fence by handle, as R17 lets a notice to partition `p` name it. -/
def State.noticeFence (s : State) (p : Nat) (h : Handle) : Option Fence :=
  if hType h = 4 ∧ hPart h = p ∧ s.handleLive h then s.fence? h else none

/-- A failure notice taken at the issuer, partition `p` (R247): the fence latches it, or it is stale. -/
def State.takeNotice (s : State) (p fence reason : Nat) : State :=
  match s.noticeFence p fence with
  | none => s.bumpReg kNoticesStale 1
  | some _ => ((s.latch fence reason true).bumpReg kNoticesReceived 1).event 0x07020006 reason 0

/-- A packet from this module for partition `p` (R240, R242): `some` when it left. Without a valid
entry it is dropped here, and its fence latches 0x7304 as if by a notice. -/
def State.sendPacket (s : State) (p : Nat) (h : Hdr) (data : List Byte) : Bool × State :=
  let e := s.fwdEntry p (h.addr / 2 ^ 50)
  if fwdValid e then
    let h := { h with vc := kindVc h.kind, hops := fwdHops e, srcPart := p, srcModule := s.reg kModuleId % 2 ^ 14,
                      dstPart := if fwdLender e then 0 else fwdPeer e }
    (true, s.putPacket (fwdPort e) h data)
  else
    let s := s.countDrop 0x7304 0xFF
    (false, s.takeNotice p h.fence 0x7304)

/-- Whether a packet of partition `p` for a module could leave at once; without an entry it is dropped at once. -/
def State.roomFor (s : State) (p module kind data : Nat) : Bool :=
  let e := s.fwdEntry p module
  let h : Hdr := ⟨kind, kindVc kind, fwdHops e, p, 0, 0, 0, 0, 0, 0, 0, 0, 0, 0, 0⟩
  fwdValid e = false || s.portRoom (fwdPort e) h data

/-- A header of a request: kind, units, address and the fence that answers for it. -/
def reqHdr (kind units addr version keyIndex fence tag poison : Nat) : Hdr :=
  ⟨kind, 0, 0, 0, 0, 0, units - 1, 0, tag, version, keyIndex, addr, fence, 0, poison⟩

/-- The next free tag; 0 is left to posted writes. -/
def State.freeTag (s : State) : Nat :=
  let used := s.fabric.remotes.map (·.tag)
  let c := (List.range (used.length + 1)).map (fun i => (s.fabric.nextTag - 1 + i) % 0xFFFF + 1)
  (c.find? (fun t => !used.contains t)).getD 1

/-- A request that awaits an answer: sent, and held outstanding (R245, R248). -/
def State.request (s : State) (p kind units addr version keyIndex fence poison : Nat) (data : List Byte)
    (sink : Sink) : Bool × State :=
  let tag := s.freeTag
  let r := s.sendPacket p (reqHdr kind units addr version keyIndex fence tag poison) data
  if r.1 then
    (true, { r.2 with fabric := { r.2.fabric with
        nextTag := tag % 0xFFFF + 1
        remotes := r.2.fabric.remotes ++ [⟨tag, kind, p, fence, s.now, units, sink⟩] } })
  else r

/-- The answer to a packet that came in on port `n`: along the partition's own entry for the issuer,
or back by the arrival port where there is none (R240, R247). -/
def State.answer (s : State) (n kind : Nat) (req : Hdr) (reason poison : Nat) (data : List Byte) : State :=
  let q := s.reg (kPortOwner n)
  let e := if q < 8 then s.fwdEntry q req.srcModule else 0
  let own := fwdValid e
  let h : Hdr := ⟨kind, kindVc kind, if own then fwdHops e else 6, if q < 8 then q else 0, req.srcPart,
    s.reg kModuleId % 2 ^ 14, data.length / 64 - 1, 0, req.tag, req.version, req.keyIndex,
    req.srcModule * 2 ^ 50, req.fence, reason, poison⟩
  s.putPacket (if own then fwdPort e else n) h data

/-- A failure notice to the issuer of a request (R247). -/
def State.notice (s : State) (n : Nat) (req : Hdr) (reason : Nat) : State :=
  (s.bumpReg kNoticesSent 1).answer n 8 req reason 0 []

/-- A packet dropped, of whatever kind: counted, and answered by a notice to where it came from (R240, R247). -/
def State.dropPacket (s : State) (n : Nat) (h : Hdr) (reason : Nat) : State :=
  (s.countDrop reason n).notice n h reason

end Sys2Proof.Machine
end

