-- ==== Sys2Proof/Machine/Meters.lean ====
section
/-! DEFINITION. The meters of the traffic classes (R65, R66, R170, R183) and of the transfers' own rates (R221). -/

namespace Sys2Proof.Machine

/-- The temperature band of a unit (R171). -/
def State.band (s : State) (u : Nat) : Nat :=
  if u < 16 then s.reg (kStackBand u) else s.reg (kGroupBand (u - 16))

/-- The guaranteed bandwidth of one channel in a band, in bytes per µs (R64, R183): T0 figures in band T0, T1 figures
in T1, and half of those beyond (R173). -/
def channelRate (far : Bool) (band : Nat) : Nat :=
  match band with
  | 0 => if far then 15400 else 589000
  | 1 => if far then 14500 else 565000
  | _ => if far then 7250 else 282500

/-- The guaranteed bandwidth of a unit: its active channels, each in the band of its stack or package. -/
def State.unitRate (s : State) (u : Nat) : Nat :=
  if u < 16 then s.activeChannels u * channelRate false (s.bandAt u)
  else if s.activeChannels u = 0 then 0
  else
    let map := s.activeMap u
    popCount (fld map 0 4) 4 * channelRate true (s.bandAt (16 + 2 * (u - 16))) +
      popCount (fld map 4 4) 4 * channelRate true (s.bandAt (17 + 2 * (u - 16)))

/-- The slice of a class in bytes per µs (R65): classes 0 to 2 near read, write and remote, 3 to 5
far. -/
def State.slice (s : State) (p cls : Nat) : Nat :=
  let share := match cls % 3 with
    | 0 => s.reg (kReadShare p)
    | 1 => s.reg (kWriteShare p)
    | _ => s.reg (kRemoteShare p)
  let us := if cls < 3 then bitsOf (s.part p).stackMap 16 else (bitsOf (s.part p).fgMap 16).map (16 + ·)
  share * (us.map s.unitRate).sum / 32

/-- The charge of an access to `k` lines of one granule or group (R170). -/
def chargeOf (far write : Bool) (k : Nat) : Nat :=
  if far then (if write ∧ k ≠ 8 then 1024 else 512) else 64 * k

/-- The meter of a class of a partition, as it stands in the running window. -/
def State.classMeter (s : State) (p cls : Nat) : Meter :=
  (tabGet s.fabric.meters.classes (cls * 8 + p) ⟨0, 0, 0⟩).roll (s.window p) (s.slice p cls)

/-- The meter of a context's transfer against its RATE_BPU (R221). -/
def State.ctxMeter (s : State) (t : Transfer) : Meter :=
  (tabGet s.fabric.meters.contexts (t.cluster * 8 + t.context) ⟨0, 0, 0⟩).roll (s.window t.part)
    (xferDesc t.desc).rate

/-- A charge against a class. -/
def State.chargeClass (s : State) (p cls x : Nat) : State :=
  let ms := s.fabric.meters
  { s with fabric := { s.fabric with meters :=
      { ms with classes := tabSet ms.classes (cls * 8 + p) ((s.classMeter p cls).add x) } } }

/-- A charge against a context's own rate. -/
def State.chargeCtx (s : State) (t : Transfer) (x : Nat) : State :=
  let ms := s.fabric.meters
  { s with fabric := { s.fabric with meters :=
      { ms with contexts := tabSet ms.contexts (t.cluster * 8 + t.context) ((s.ctxMeter t).add x) } } }

/-- The charges of an access to `n` lines from virtual address `va` on, near and far (R170). -/
def State.spanCharge (s : State) (p : Nat) (write : Bool) (va n : Nat) : Nat × Nat :=
  let ps := (List.range n).filterMap (fun i => match s.translate p (va + 64 * i) with
    | .here a => some a
    | _ => none)
  let near := ps.filter (fun a => match placeOf a with
    | .near _ _ => true
    | _ => false)
  let far := (ps.filter (fun a => match placeOf a with
    | .far _ _ => true
    | _ => false)).map (· / 512)
  (64 * near.length, (far.eraseDups.map (fun g => chargeOf true write (far.count g))).sum)

/-- What an engine reads or writes counts against its partition's classes (R65, R66). The engine's own pace is
timing, so nothing waits here (log entry 9). -/
def State.chargeSpan (s : State) (p : Nat) (write : Bool) (va n : Nat) : State :=
  let c := s.spanCharge p write va n
  let s := if c.1 = 0 then s else s.chargeClass p (b2n write) c.1
  if c.2 = 0 then s else s.chargeClass p (3 + b2n write) c.2

/-! ### What arrives from Crosswind (R66, R217, R250) -/

/-- The bytes that a request for `k` lines from address `a` on counts for in the tier (R170); an atomic reads its
line and writes it (R246). -/
def arrivalCharge (kind a k : Nat) : Nat :=
  let gs := (List.range k).map (fun i => (a + 64 * i) / 512)
  let of := fun (write : Bool) => match placeOf a with
    | .far _ _ => (gs.eraseDups.map (fun g => chargeOf true write (gs.count g))).sum
    | _ => 64 * k
  match kind with
  | 1 => of false
  | 6 => of false + of true
  | _ => of true

/-- The meter that counts a request: the partition's remote class of the tier as class times 8 plus partition (R65),
or 64 plus the range entry of a lending (R250). Nothing meters what no range serves. -/
def State.arrivalKey (s : State) (w : Who) (a : Nat) : Option Nat :=
  match s.rangeFor w a with
  | none => none
  | some e =>
    match w, placeOf a with
    | .lent _ _, _ => some (64 + e)
    | .part q, .near _ _ => some (16 + q)
    | .part q, .far _ _ => some (40 + q)
    | .part _, _ => none

/-- What a meter of arrivals lets through in a window. -/
def State.arrivalRate (s : State) (key : Nat) : Nat :=
  if key < 64 then s.slice (key % 8) (key / 8) else s.reg (kLendRate (key - 64))

/-- A meter of arrivals as it stands in the running window. -/
def State.arrivalMeter (s : State) (key : Nat) : Meter :=
  if key < 64 then s.classMeter (key % 8) (key / 8)
  else (tabGet s.fabric.meters.lends (key - 64) ⟨0, 0, 0⟩).roll (s.now / 1000) (s.arrivalRate key)

/-- An arrival counted. -/
def State.chargeArrival (s : State) (key x : Nat) : State :=
  if key < 64 then s.chargeClass (key % 8) (key / 8) x
  else
    let ms := s.fabric.meters
    { s with fabric := { s.fabric with meters :=
        { ms with lends := tabSet ms.lends (key - 64) ((s.arrivalMeter key).add x) } } }

/-- Every meter moved on to the running window (R66, R221, R244, R250). -/
def State.rollMeters (s : State) : State :=
  let ms := s.fabric.meters
  { s with fabric := { s.fabric with meters :=
      { classes := ms.classes.map (fun e => (e.1, s.classMeter (e.1 % 8) (e.1 / 8)))
        contexts := ms.contexts.map (fun e => (e.1, match s.transfers.find? (fun t => t.cluster * 8 + t.context == e.1) with
          | some t => s.ctxMeter t
          | none => e.2))
        ports := ms.ports.map (fun e => (e.1, s.portMeter (e.1 / 2) (e.1 % 2 == 1)))
        lends := ms.lends.map (fun e => (e.1, s.arrivalMeter (64 + e.1))) } } }

end Sys2Proof.Machine
end

