-- ==== Sys2Proof/Machine/Streams.lean ====
section
/-! DEFINITION. Updraft and downdraft streams (R209 to R232): transfer entries, their requests, landing lines, and
the bandwidth shares. -/

namespace Sys2Proof.Machine

/-! ### Transfers -/

def State.transfer? (s : State) (c x : Nat) : Option Transfer :=
  s.transfers.find? (fun t => t.cluster == c && t.context == x)

/-- A context's transfer rewritten. -/
def State.setTransfer (s : State) (t : Transfer) : State :=
  { s with transfers := s.transfers.map (fun u =>
      if u.cluster = t.cluster ∧ u.context = t.context then t else u) }

def State.stream? (s : State) (h : Handle) : Option Stream := s.objs.streams.find? (fun x => x.handle == h)

/-- The UNIT of a context (R54): updrafts 3 to 6, downdrafts 7 and 8. -/
def ctxUnit (x : Nat) : Nat := 3 + x

/-- The check of a descriptor's STREAM (R17, R216): a stale handle whose slot stands free names a stream that
has been destroyed and is free (R228, log entry 111). -/
def State.streamHandle (s : State) (p h : Nat) : Reason :=
  let r := s.checkHandle 3 5 p h
  if r = 0x32F0 ∧ s.objs.streams.all (fun x => hIndex x.handle != hIndex h) then 0x3202 else r

/-- The checks of R216, in its order, after that of R87. -/
def State.xferCheck (s : State) (p c x a : Nat) (d : XferDesc) : Reason :=
  let r := s.streamHandle p d.stream
  let st := s.stream? d.stream
  firstOf [
    (!s.inNear p a, 0x100C),
    (d.kind != 5 || decide (2 ≤ d.dir), 0x3004),
    (d.offset % 64 != 0, 0x3102),
    ((d.dir == 0) != decide (x < 4), 0x3103),
    (r != 0, r),
    (!st.any (fun t => t.cluster == c && t.context == x), 0x3104),
    (!st.any (fun t => t.state == 2 || t.state == 3), 0x3202)]

/-- A transfer that has moved its last line signals and ends, and the meter of its rate with it (R218, R20,
R221). -/
def State.endTransfer (s : State) (t : Transfer) : State :=
  let ms := s.fabric.meters
  let s := { s with
    transfers := s.transfers.filter (fun u => !(u.cluster == t.cluster && u.context == t.context))
    fabric := { s.fabric with meters := { ms with contexts := tabErase ms.contexts (t.cluster * 8 + t.context) } } }
  if (xferDesc t.desc).signal then s.signal t.fence 1 else s

/-- A transfer entry of context `x` of cluster `c`: it becomes the context's transfer, complete at issue when
it moves no line (R215, R216, R218, R223). The context says what issues it, so a DIR of the other kind faults. -/
def State.xferEntry (c x a d p : Nat) (s : State) : State :=
  let y := xferDesc d
  let r := s.xferCheck p c x a y
  if r ≠ 0 then s.refuseEntry p kStreamRefusal 0x03030001 r
  else
    match s.stream? y.stream with
    | none => s
    | some st =>
      let t : Transfer := ⟨p, c, x, st.handle, st.fence, d, st.base, st.memobj, 0, 0, [], [], false, false, false, s.now⟩
      if y.total = 0 then (s.bumpReg kEmptyTransfers 1).endTransfer t
      else { s with transfers := s.transfers ++ [t] }

/-- Whether an updraft reads lines of an open tile window that are not written yet (R275). -/
def State.xferAwaits (s : State) (p : Nat) (d : XferDesc) : Bool :=
  !s.coll.windows.isEmpty && (s.stream? d.stream).any (fun st =>
    (List.range d.total).any (fun i => s.windowPends p (d.memAddr st.base i).toNat 1))

/-- UPDRAFT (R215). -/
def execUpdraft (c : Fin 512) (x : Fin 4) (a : BitVec 64) (d : Desc) (s : State) :
    Host.Outcome State Fault Refusal :=
  .next (match s.clusterPart c.val with
    | none => s
    | some p => s.issue p c.val (ctxUnit x.val) a.toNat (s.xferAwaits p (xferDesc d.toNat)) (.updraft c x a d)
        (State.xferEntry c.val x.val a.toNat d.toNat p))

/-- DOWNDRAFT (R215). -/
def execDowndraft (c : Fin 512) (x : Fin 2) (a : BitVec 64) (d : Desc) (s : State) :
    Host.Outcome State Fault Refusal :=
  .next (s.issueCluster c.val (ctxUnit (4 + x.val)) a.toNat [] (.downdraft c x a d)
    (State.xferEntry c.val (4 + x.val) a.toNat d.toNat))

/-! ### Landing and leaving lines (R218, R224 to R226) -/

/-- A cell line beyond the store (R225): 0x3003 latches, counted, one event a transfer. -/
def State.cellOver (s : State) (c x : Nat) : State :=
  match s.transfer? c x with
  | none => s
  | some t =>
    let s := (s.latch t.fence 0x3003 false).bumpReg kCellOverruns 1
    if t.cellOver then s else (s.setTransfer { t with cellOver := true }).event 0x03020003 0x3003 c

/-- A memory line beyond the object (R224). -/
def State.memOver (s : State) (c x : Nat) : State :=
  match s.transfer? c x with
  | none => s
  | some t =>
    let s := (s.latch t.fence 0x3002 false).bumpReg kBufferOverruns 1
    if t.memOver then s else (s.setTransfer { t with memOver := true }).event 0x03020002 0x3002 c

/-- Line `i` of an updraft lands in its cell line with what was read (R218, R225, R226). -/
def State.landLine (s : State) (c x i : Nat) (o : LineOut) : State :=
  match s.transfer? c x with
  | none => s
  | some t =>
    let line := (xferDesc t.desc).cellAddr i
    let s := if o.mark then s.poisonFence t.fence else s
    let s := s.latch t.fence o.err false
    let s := if cellLines ≤ line then s.cellOver c x
      else if s.cellTaken c line then s else s.putCellLine c line o.data o.poison
    match s.transfer? c x with
    | none => s
    | some t => s.setTransfer { t with landed := t.landed + 1 }

/-- Line `i` of an updraft that lies outside its memory object lands as poisoned zeros, or nowhere where its
cell line lies beyond the store (R224, R228). -/
def State.landOver (s : State) (c x i : Nat) : State :=
  match s.transfer? c x with
  | none => s
  | some t =>
    if (xferDesc t.desc).cellAddr i < cellLines then s.landLine c x i (.bad 0)
    else (s.poisonFence t.fence).setTransfer { t with landed := t.landed + 1 }

/-- Whether a line of the transfer lies in its memory object (R224). -/
def State.inExtent (s : State) (t : Transfer) (i : Nat) : Bool :=
  let a := (xferDesc t.desc).memAddr t.base i
  match s.memobj? t.memobj with
  | none => false
  | some m => decide ((m.base : Int) ≤ a) && decide (a + 64 ≤ (m.base + m.size : Nat))

/-! ### Shard records (R401, R402) -/

/-- Whether a transfer is an updraft from a SHARD object. -/
def State.shardSide (s : State) (t : Transfer) : Bool :=
  decide (t.context < 4) && (s.memobj? t.memobj).any (fun m => m.shard)

/-- The checks of a row that should be one record: 0 when its lines are one record that a delivered data
key opens, and its payload. -/
def State.shardCheck (s : State) (p n : Nat) (raw : List Byte) : Reason × List Byte :=
  let hdr := raw.take 64
  let h := ofLe hdr
  let pl := fld h 32 32
  if fld h 0 16 ≠ 1 ∨ pl = 0 ∨ 32766 < pl ∨ n ≠ pl + 2 then (0xA104, [])
  else
    match (s.part p).dataKeys.find? (fun k => k.1 == fld h 16 3 && k.2.1 == fld h 19 3) with
    | none => (0xA502, [])
    | some k =>
      match s.keyOf k.2.2 with
      | none => (0xA502, [])
      | some key =>
        match gcmOpen key ((hdr.drop 16).take 12) hdr ((raw.drop 64).take (64 * pl)) ((raw.drop (64 + 64 * pl)).take 16) with
        | none => (0xA501, [])
        | some b => (0, b)

/-- The lines of row `k` of a transfer on a SHARD object that wait for the check. -/
def Transfer.shardRow (t : Transfer) (k : Nat) : List Nat :=
  let n := (xferDesc t.desc).rowLines
  t.unchecked.filter (fun i => i / n == k)

/-- A row is all in: each of its lines has arrived or lay beyond the object (R224). -/
def State.shardReady (s : State) (t : Transfer) (k : Nat) : Bool :=
  let n := (xferDesc t.desc).rowLines
  decide ((k + 1) * n ≤ t.next) && !(t.shardRow k).isEmpty &&
    (List.range n).all (fun i => t.unchecked.contains (k * n + i) || !s.inExtent t (k * n + i))

/-- A row on a SHARD object is checked once all of it is in, and delivered: a valid record in plaintext,
any other row as poisoned zeros (R402). Lines that cannot be read fail under R400 first. -/
def State.shardRowIn (s : State) (c x k : Nat) : State :=
  match s.transfer? c x with
  | none => s
  | some t =>
    if s.shardReady t k = false then s
    else
      let d := xferDesc t.desc
      let mine := t.shardRow k
      let rd := (List.range d.rowLines).foldl (fun (acc : List Byte × State) i =>
        if mine.contains (k * d.rowLines + i) then
          let r := acc.2.readVa t.part 3 (d.memAddr t.base (k * d.rowLines + i)).toNat d.version d.keyIndex
          (acc.1 ++ r.1.data, (r.2.latch t.fence r.1.err false).closeRanges)
        else (acc.1 ++ zeros64, acc.2)) ([], s)
      let raw := rd.1
      let o := if mine.length = d.rowLines then rd.2.shardCheck t.part d.rowLines raw else (0xA104, [])
      let s := rd.2.setTransfer { t with unchecked := t.unchecked.filter (fun i => !mine.contains i) }
      if o.1 = 0 then
        let out := raw.take 64 ++ o.2 ++ raw.drop (64 + o.2.length)
        (List.range d.rowLines).foldl (fun s i =>
          s.landLine c x (k * d.rowLines + i) ⟨(out.drop (64 * i)).take 64, false, false, 0⟩) (s.bumpReg kShardRecords 1)
      else
        let s := ((s.latch t.fence o.1 false).bumpReg kShardRefused 1).event 0x0A030003 o.1 c
        mine.foldl (fun s i => s.landLine c x i (.bad 0)) s

/-! ### Requests (R220 to R222) -/

/-- The next request of a transfer (R220): how many lines, where they lie, and the class and charge
that a local tier asks for. -/
structure Req where
  count  : Nat
  target : Target
  cls    : Option Nat
  charge : Nat
  deriving DecidableEq, Repr

/-- Lines from ordinal `i` on that share a row and a block of `g` bytes and lie in the object. -/
def State.runOf (s : State) (t : Transfer) (g : Nat) : Nat :=
  let d := xferDesc t.desc
  let a := (d.memAddr t.base t.next).toNat
  let most := min (d.rowLines - d.inRow t.next) ((g - a % g) / 64)
  ((List.range most).takeWhile (fun j => s.inExtent t (t.next + j))).length

def State.nextReq (s : State) (t : Transfer) : Req :=
  let d := xferDesc t.desc
  let tgt := s.translate t.part (d.memAddr t.base t.next).toNat
  let wr := decide (4 ≤ t.context)
  match tgt with
  | .here a =>
    match placeOf a with
    | .near _ _ =>
      let k := s.runOf t 256
      ⟨k, tgt, some (if wr then 1 else 0), chargeOf false wr k⟩
    | .far _ _ =>
      let k := s.runOf t 512
      ⟨k, tgt, some (if wr then 4 else 3), chargeOf true wr k⟩
    | _ => ⟨s.runOf t 256, tgt, none, 64 * s.runOf t 256⟩
  | _ => ⟨s.runOf t 256, tgt, none, 64 * s.runOf t 256⟩

/-- Both limits of R221 admit the request, and what goes to another module finds room on its port (R244, R256). -/
def State.admitted (s : State) (t : Transfer) (q : Req) : Bool :=
  let rate := (xferDesc t.desc).rate
  (match q.cls with
    | some c => (s.classMeter t.part c).admits (s.slice t.part c) q.charge
    | none => true) && (rate == 0 || (s.ctxMeter t).admits rate q.charge) &&
  match q.target with
  | .there m _ => if t.context < 4 then s.roomFor t.part m 1 0 else s.roomFor t.part m 4 (64 * q.count)
  | _ => true

/-- The request's charges. -/
def State.chargeReq (s : State) (t : Transfer) (q : Req) : State :=
  let s := match q.cls with
    | some c => s.chargeClass t.part c q.charge
    | none => s
  if (xferDesc t.desc).rate = 0 then s else s.chargeCtx t q.charge

/-- A line that a downdraft takes from its cell store, with its poison; beyond the store it is poisoned zeros
(R19, R225, R226). -/
def State.takeLine (s : State) (t : Transfer) (i : Nat) : (List Byte × Bool) × State :=
  let line := (xferDesc t.desc).cellAddr i
  if line < cellLines then
    let b := s.cellPoisoned t.cluster line
    ((s.cellLine t.cluster line, b), if b then s.poisonFence t.fence else s)
  else ((zeros64, true), (s.cellOver t.cluster t.context).poisonFence t.fence)

/-- A downdraft's request: each line is written where it translates to (R217, R226); a remote one
leaves as one posted write that carries the fence. -/
def State.sendLines (s : State) (t : Transfer) (q : Req) : State :=
  let d := xferDesc t.desc
  match q.target with
  | .there m a =>
    let r := (List.range q.count).foldl (fun (acc : List Byte × Nat × State) j =>
      let o := acc.2.2.takeLine t (t.next + j)
      (acc.1 ++ o.1.1, if o.1.2 then setBit acc.2.1 j else acc.2.1, o.2)) ([], 0, s)
    (r.2.2.sendPacket t.part (reqHdr 4 q.count (m * 2 ^ 50 + a) d.version d.keyIndex t.fence 0 r.2.1) r.1).2
  | _ =>
    (List.range q.count).foldl (fun s j =>
      let o := s.takeLine t (t.next + j)
      let w := o.2.writeVa t.part 3 (d.memAddr t.base (t.next + j)).toNat d.version d.keyIndex o.1.1 o.1.2
      w.2.latch t.fence w.1 false) s

/-- An updraft's request: its lines are under way from here on (R219); a remote one leaves as a read
request, and delivers poisoned zeros at once when it cannot leave. -/
def State.fetchLines (s : State) (t : Transfer) (q : Req) : State :=
  let d := xferDesc t.desc
  match q.target with
  | .there m a =>
    let r := s.request t.part 1 q.count (m * 2 ^ 50 + a) d.version d.keyIndex t.fence 0 []
      (.lines t.cluster t.context t.next q.count)
    if r.1 then
      match r.2.transfer? t.cluster t.context with
      | none => r.2
      | some t => r.2.setTransfer { t with flights := t.flights ++ [⟨t.next - q.count, q.count, true⟩] }
    else (List.range q.count).foldl (fun s j => s.landLine t.cluster t.context (t.next + j) (.bad 0)) r.2
  | _ =>
    match s.transfer? t.cluster t.context with
    | none => s
    | some u => s.setTransfer { u with flights := u.flights ++ [⟨t.next, q.count, false⟩] }

/-- One request of a context's transfer (R220 to R222), or one line that needs none (R224). -/
def State.streamRequest (s : State) (c x : Nat) : State :=
  match s.transfer? c x with
  | none => s
  | some t =>
    if (xferDesc t.desc).total ≤ t.next ∨ (s.grid t.part).held ∨ s.calm t.part then s
    else if s.inExtent t t.next = false then
      let i := t.next
      let s := (s.setTransfer { t with next := i + 1, suspended := false }).memOver c x
      if x < 4 then (s.landOver c x i).shardRowIn c x (i / (xferDesc t.desc).rowLines) else s
    else
      let q := s.nextReq t
      if s.admitted t q = false then s
      else
        let s := (s.chargeReq t q).setTransfer { t with next := t.next + q.count, suspended := false }
        if x < 4 then s.fetchLines t q else s.sendLines t q

/-- STREAM_REQUEST (R220). -/
def execStreamRequest (c : Fin 512) (x : Fin 6) (s : State) : Host.Outcome State Fault Refusal :=
  .next (s.streamRequest c.val x.val)

/-- The flights of a transfer without line `i`. -/
def dropLine (fs : List Flight) (i : Nat) : List Flight :=
  fs.flatMap (fun f =>
    if f.first ≤ i ∧ i < f.first + f.count then
      (if f.first < i then [{ f with count := i - f.first }] else []) ++
        (if i + 1 < f.first + f.count then [⟨i + 1, f.first + f.count - (i + 1), f.remote⟩] else [])
    else [f])

/-- The wrong symbols that a line of a partition is found to bear (R163). -/
def State.bearErrors (s : State) (p va : Nat) (errs : List (Fin 72 × Byte)) : State :=
  match s.translate p va with
  | .here a => s.symbolErrors a errs
  | _ => s

/-- Line `i` of an updraft arrives from a tier, the host window or another cell store: it is sorted,
checked and decrypted (R164, R199), and lands. -/
def State.lineArrives (s : State) (c x i : Nat) (errs : List (Fin 72 × Byte)) : State :=
  match s.transfer? c x with
  | none => s
  | some t =>
    if t.flights.any (fun f => !f.remote && decide (f.first ≤ i) && decide (i < f.first + f.count)) then
      let d := xferDesc t.desc
      let s := s.bearErrors t.part (d.memAddr t.base i).toNat errs
      if s.shardSide t then
        let u := { t with flights := dropLine t.flights i, unchecked := t.unchecked ++ [i] }
        (s.setTransfer u).shardRowIn c x (i / d.rowLines)
      else
      let s := s.setTransfer { t with flights := dropLine t.flights i }
      let r := s.readVa t.part 3 (d.memAddr t.base i).toNat d.version d.keyIndex
      (r.2.landLine c x i r.1).closeRanges
    else s

/-- Whether a context's transfer has requested and landed everything. -/
def Transfer.over (t : Transfer) : Bool := decide ((xferDesc t.desc).total ≤ t.next) && t.flights.isEmpty && t.unchecked.isEmpty

/-! ### Shares (R229, R230) -/

/-- The checks and commit of SHARE_ENABLE. -/
def shareOp (p v : Nat) (s : State) : Reason × State :=
  let a := s.stagedReg (kReadShare p)
  let b := s.stagedReg (kWriteShare p)
  let c := s.stagedReg (kRemoteShare p)
  let r := firstOf [
    (v != 1 || a == 0 || decide (30 < a) || b == 0 || decide (30 < b) || decide (30 < c), 0x3001),
    (a + b + c != 32, 0x3101),
    (s.reg (kGustEnable p) == 1, 0x3201)]
  if r ≠ 0 then (r, s.setReg (kShareRefusal p) r)
  else (0, s.commitStaged [kReadShare p, kWriteShare p, kRemoteShare p])

/-- SHARE_ENABLE (R230). -/
def execShareEnable (r : Requester) (p : Fin 8) (s : State) : Host.Outcome State Fault Refusal :=
  .next (s.writeU8 r (0x5010 + p.val) 0x04 true (shareOp p.val 1))

end Sys2Proof.Machine
end

