-- ==== Sys2Proof/Machine/Tiers.lean ====
section
/-! DEFINITION. What changes a memory tier: temperature bands (R171 to R174), calibration and repair
(R175, R177), maps (R179 to R181, R186), readiness (R182), and the start of a scrub (R202). -/

namespace Sys2Proof.Machine

def tempKey (u : Nat) : Nat := if u < 16 then kStackTemp u else kGroupTemp (u - 16)
def mapKey (u : Nat) : Nat := if u < 16 then kStackMap u else kGroupMap (u - 16)
def readyKey (u : Nat) : Nat := if u < 16 then kNearReady else kFarReady
def scrubbedKey (u : Nat) : Nat := if u < 16 then kNearScrubbed else kFarScrubbed
def unitBit (u : Nat) : Nat := if u < 16 then u else u - 16

/-- The unit named by its number. -/
def unitOf (u : Nat) : MemUnit :=
  if u < 16 then .stack ⟨u % 16, Nat.mod_lt _ (by decide)⟩ else .group ⟨u % 16, Nat.mod_lt _ (by decide)⟩

/-- Range entries of lent memory, live or ending, that lie in a unit. -/
def State.lentIn (s : State) (u : Nat) : List Nat :=
  (List.range 64).filter (fun e => s.reg (kOwner e) == 0x80 &&
    (match tierOffset (s.reg (kBase e)) with
      | some (v, _) => v == u
      | none => false))

/-- No partition holds the unit and none borrows from it (R180). -/
def State.unitFree (s : State) (u : Nat) : Bool := (s.unitPart u).isNone && (s.lentIn u).isEmpty

/-- No partition's grid can meet a change of the unit: none holds it, or its holder's grid is not
running (R172, R175). -/
def State.unitIdle (s : State) (u : Nat) : Bool :=
  match s.unitPart u with
  | none => true
  | some p => !(s.grid p).on

/-! ### Scrubs and maps -/

/-- A whole-unit scrub is queued (R202): the unit is not offered until it ends. Without a scrub key it
stays unscrubbed. -/
def State.startScrub (s : State) (u : Nat) : State :=
  let s := s.setRegBit (scrubbedKey u) (unitBit u) false
  if s.enc.scrubKey.isNone ∨ s.tier.outOfService.contains u ∨ s.enc.scrubbing.contains (.unit (unitOf u)) then s
  else { s with enc := { s.enc with scrubbing := s.enc.scrubbing ++ [.unit (unitOf u)] } }

/-- The byte addresses of a unit's window. -/
def unitWindow (u : Nat) : Nat × Nat :=
  if u < 16 then (u * 2 ^ 33, (u + 1) * 2 ^ 33)
  else (farBase + (u - 16) * farWindow, farBase + (u - 15) * farWindow)

/-- The contents of a unit are gone: lines, metadata, and what a scrub left in the lines not written since. -/
def State.forgetUnit (s : State) (u : Nat) : State :=
  let w := unitWindow u
  let m := unitMeta u
  { s with mem := { s.mem with ram := memForget s.mem.ram w.1 w.2
                               metadata := memForget s.mem.metadata m.1 m.2
                               wrong := s.mem.wrong.filter (fun e => !(decide (m.1 ≤ e.1) && decide (e.1 < m.2)))
                               scrubbed := tabErase s.mem.scrubbed u } }

/-- The channels below which a unit leaves service (R181). -/
def leastChannels (u : Nat) : Nat := if u < 16 then 32 else 4

/-- A unit leaves service (R181). -/
def State.dropUnit (s : State) (u : Nat) : State :=
  if s.tier.outOfService.contains u then s
  else
    let t := { s.tier with outOfService := s.tier.outOfService ++ [u] }
    (({ s with tier := t }.setRegBit (scrubbedKey u) (unitBit u) false).event (tierEvent u 0x04040009) 0
      (unitBit u)).errorBit

/-- The pending map of a free unit takes effect (R180, R181): its lines have new places, so it is
scrubbed again before it is offered (R206). -/
def State.applyMap (s : State) (u : Nat) : State :=
  let pend := s.reg (pendingKey u)
  if s.unitFree u = false ∨ pend = s.reg (mapKey u) then s
  else
    let s := ((s.setReg (mapKey u) pend).forgetUnit u).event (tierEvent u 0x04010008) 0 (unitBit u)
    if popCount pend (unitWidth u) < leastChannels u then s.dropUnit u
    else if bit (s.reg (readyKey u)) (unitBit u) then s.startScrub u else s

/-- The same where the module has started already: a map changes on a scrubbed unit only (R206). -/
def State.mapFree (s : State) (u : Nat) : State :=
  if bit (s.reg (scrubbedKey u)) (unitBit u) then s.withCap (·.applyMap u) else s

/-- A start of the module (R180, R181): the pending map is the active one from here on, and a unit whose map has too
few channels is out of service. -/
def State.startMap (s : State) (u : Nat) : State :=
  let s := s.applyMap u
  if popCount (s.reg (mapKey u)) (unitWidth u) < leastChannels u then s.dropUnit u else s

/-- A channel fails (R179); on a unit that nobody holds the map changes at once (R180). -/
def State.failChannelNow (s : State) (u ch : Nat) : State := (s.failChannel u ch).mapFree u

/-- The checks and effect of MAP_OUT_ENABLE and FAR_MAP_OUT_ENABLE (R186). -/
def mapOutOp (far : Bool) (v : Nat) (s : State) : Reason × State :=
  let key := if far then kFarMapOutChannel else kMapOutChannel
  let ch := s.stagedReg key
  let g := if far then 1024 + ch else ch
  let u := channelUnit g
  let base := if far then 0x1000 else 0
  let r := firstOf [
    (v != 1 || decide ((if far then 128 else 1024) ≤ ch), 0x4001 + base),
    (!bit (s.reg (pendingKey u)) (g - firstChannel u), 0x4101 + base)]
  if r ≠ 0 then (r, s.setReg (if far then kFarRefusal else kNearRefusal) r)
  else
    let s := s.commitStaged [key]
    (0, (s.setRegBit (pendingKey u) (g - firstChannel u) false).mapFree u)

/-- MAP_OUT_ENABLE (R186). -/
def execMapOutEnable (r : Requester) (s : State) : Host.Outcome State Fault Refusal :=
  .next (s.writeU8 r 0x5801 0x08 true (mapOutOp false 1))

/-- FAR_MAP_OUT_ENABLE (R186). -/
def execFarMapOutEnable (r : Requester) (s : State) : Host.Outcome State Fault Refusal :=
  .next (s.writeU8 r 0x6001 0x08 true (mapOutOp true 1))

/-! ### Readiness (R176, R182) -/

/-- The failed connections that a unit reports as it becomes ready: up to eight of a channel go onto
spares, one event each, and a channel with more is mapped out (R176). -/
def State.testConnections (s : State) (u : Nat) (failed : List (Nat × Nat)) : State :=
  failed.foldl (fun s f =>
    if unitWidth u ≤ f.1 then s
    else if 8 < f.2 ∨ (16 ≤ u ∧ 0 < f.2) then s.setRegBit (pendingKey u) f.1 false
    else if u < 16 then
      let s := s.setReg (kSpareConnectionsUsed u) (max (s.reg (kSpareConnectionsUsed u)) f.2)
      (List.range f.2).foldl (fun s _ => s.event 0x0400000A 0 (firstChannel u + f.1)) s
    else s) s

/-- The channels of a far group as their training leaves them: their timed calibration tasks count from here (R175). -/
def State.calibrated (s : State) (u : Nat) : State :=
  if u < 16 then s
  else (List.range 16).foldl (fun s i =>
    { s with tier := { s.tier with calDone := tabSet s.tier.calDone (16 * (u - 16) + i) s.now } }) s

/-- MEMORY_UNIT_READY (R182): the unit's map is applied, it reports ready and is queued for scrub. A
unit that is ready already, or out of service, has no such report to make; in SCRAP the memory controllers
are held in reset (R368). -/
def execMemoryUnitReady (u : MemUnit) (failed : List (Nat × Nat)) (s : State) :
    Host.Outcome State Fault Refusal :=
  let u := unitIndex u
  if bit (s.reg (readyKey u)) (unitBit u) ∨ s.tier.outOfService.contains u ∨ s.power.mode ≠ .running ∨
      s.reg kLcState = 5 then .next s
  else
    let s := (s.testConnections u failed).withCap (·.applyMap u)
    if s.tier.outOfService.contains u then .next s
    else .next (((s.setRegBit (readyKey u) (unitBit u) true).calibrated u).startScrub u)

/-- MEMORY_READY_TIMEOUT (R182): the unit fails in every channel and leaves service. -/
def execMemoryReadyTimeout (u : MemUnit) (s : State) : Host.Outcome State Fault Refusal :=
  let u := unitIndex u
  if bit (s.reg (readyKey u)) (unitBit u) ∨ s.tier.outOfService.contains u ∨ s.power.mode ≠ .running then .next s
  else .next ((s.setReg (pendingKey u) 0).withCap (fun s =>
    let s := s.applyMap u
    if s.unitFree u then s.dropUnit u else s))

/-! ### Bands (R171 to R174) -/

/-- The unit that a stack or package belongs to, and what of a unit has a temperature of its own. -/
def sensorUnit (q : Nat) : Nat := if q < 16 then q else 16 + (q - 16) / 2
def unitSensors (u : Nat) : List Nat := if u < 16 then [u] else [16 + 2 * (u - 16), 17 + 2 * (u - 16)]

/-- The stack or package as an event names it. -/
def sensorNumber (q : Nat) : Nat := if q < 16 then q else q - 16

/-- The units that a partition holds (R40). -/
def State.unitsHeld (s : State) (p : Nat) : List Nat :=
  bitsOf (s.part p).stackMap 16 ++ (bitsOf (s.part p).fgMap 16).map (16 + ·)

/-- Event 0x0102_0017 once a gust, where a T0 plan runs while a stack or package that serves the partition is in
band T1 (R71). -/
def State.warnBand (s : State) (p : Nat) : State :=
  let g := s.grid p
  let hot := ((s.unitsHeld p).flatMap unitSensors).any (fun q => s.bandAt q == 1)
  let t0 := s.bindings.any (fun b => b.part == p && b.kind == s.reg (kGustKind p) && !b.fresh && b.tempBand == 0)
  if g.inGust ∧ g.warned = false ∧ hot ∧ t0 then
    (s.setGrid p { g with warned := true }).event 0x01020017 0 p
  else s

/-- The band that a temperature in tenths of a degree calls for (R171), and the least one that a refresh multiplier of
MR4 does (R172). -/
def bandOf (temp : Int) : Nat := if temp ≤ 850 then 0 else if temp ≤ 950 then 1 else if temp < 1000 then 2 else 3
def mr4Band (m : Nat) : Nat := if m ≤ 1 then 0 else if m = 2 then 1 else 2

/-- A band written where software reads it; GROUP_BAND is the higher of its two packages' (R185). -/
def State.setBand (s : State) (q b : Nat) : State :=
  if q < 16 then s.setReg (kStackBand q) b
  else
    let f := (q - 16) / 2
    let s := { s with tier := { s.tier with pkgBand := tabSet s.tier.pkgBand (q - 16) b } }
    s.setReg (kGroupBand f) (max (s.bandAt (16 + 2 * f)) (s.bandAt (17 + 2 * f)))

/-- A stack or package enters a band: its event, and for a trip the fault of its holder (R173, R174, R187). -/
def State.enterBand (s : State) (q b : Nat) : State :=
  let u := sensorUnit q
  let s := s.setBand q b
  match b with
  | 0 => s
  | 1 => s.event (tierEvent u 0x04010005) 0 (sensorNumber q)
  | 2 => s.event (tierEvent u 0x04020006) 0 (sensorNumber q)
  | _ =>
    let s := s.event (tierEvent u 0x04040007) (mkReason (tierSub u) 4 0x04) (sensorNumber q)
    match s.unitPart u with
    | some p => s.faultPart p (mkReason (tierSub u) 4 0x04)
    | none => s

/-- A band is lowered by one step where the readings have allowed it for 1 ms (R172). -/
def State.lowerBand (s : State) (q : Nat) : State :=
  let cool := fun (t : Tab Nat) => decide (tabGet t q 0 + 1000000 ≤ s.now)
  match s.bandAt q with
  | 2 => if cool s.tier.above93 then s.enterBand q 1 else s
  | 1 => if cool s.tier.above83 then s.enterBand q 0 else s
  | _ => s

/-- The bands of what a partition holds, lowered at its start boundary (R172). -/
def State.lowerBands (s : State) (p : Nat) : State :=
  ((s.unitsHeld p).flatMap unitSensors).foldl State.lowerBand s

/-- A reading keeps a band from being lowered for 1 ms: above 93.0 and above 83.0 degrees, or by a refresh multiplier
that asks for the band (R172). -/
def State.markWarm (s : State) (q : Nat) (out2 out1 : Bool) : State :=
  let t := s.tier
  let t := if out2 then { t with above93 := tabSet t.above93 q s.now } else t
  { s with tier := if out1 then { t with above83 := tabSet t.above83 q s.now } else t }

/-- MR4 of a package is read (R172): its multiplier calls for a band at least. -/
def State.readMr4 (s : State) (pkg : Nat) : State :=
  let m := tabGet s.tier.mr4Held pkg 0
  let q := 16 + pkg
  let s := { s with tier := { s.tier with mr4Read := tabSet s.tier.mr4Read pkg m } }
  let s := s.markWarm q (decide (2 < m)) (decide (1 < m))
  if s.bandAt q < mr4Band m then s.enterBand q (mr4Band m) else s

/-- One reading of a stack or package (R172, R174); a package's band is also held up by the MR4 last read. -/
def State.sense (s : State) (q : Nat) (temp : Int) : State :=
  let m := if q < 16 then 0 else tabGet s.tier.mr4Read (q - 16) 0
  let s := s.markWarm q (decide (930 < temp) || decide (2 < m)) (decide (830 < temp) || decide (1 < m))
  let b := max (bandOf temp) (mr4Band m)
  if s.bandAt q = 3 then (if temp ≤ 900 then s.enterBand q 2 else s)
  else if s.bandAt q < b then s.enterBand q b
  else if s.unitIdle (sensorUnit q) then s.lowerBand q else s

/-! ### Repair (R177, R178) -/

/-- A line whose symbols are wrong, copied into the spare row: corrected where the code can, with the poison signature
where it cannot (R178); a pattern that the code takes for a good line is copied as it stands. -/
def State.copySpareLine (s : State) (k : Nat) : State :=
  let errs := tabGet s.mem.wrong k []
  let v := errorPattern errs (ofLe (memRead 0 s.mem.metadata k 4))
  let l := metaLoc k
  let put := fun (s : State) (mark : Nat) =>
    { s with mem := { s.mem with metadata := memWrite 0 s.mem.metadata k (leBytes 4 mark)
                                 wrong := tabErase s.mem.wrong k } }
  match sortLine v (Config.eccOutcome v) with
  | .clean => s
  | .poison => s
  | .corrected => put (s.noteCe l) 0
  | .poisonCorrected => put (s.noteCe l) poisonMark
  | .uncorrectable => put (s.noteUe l) poisonMark
  | .miscorrected i b => { s with mem := { s.mem with wrong := tabSet s.mem.wrong k (errs ++ [(⟨i % 72, Nat.mod_lt _ (by decide)⟩, b)]) } }

/-- The lines of a row that bear wrong symbols. -/
def State.wrongIn (s : State) (r : Nat × Nat) : List Nat :=
  (s.mem.wrong.map (·.1)).filter (fun k => (metaLoc k).chan == r.1 && (metaLoc k).row == r.2)

/-- A queued row is copied into a spare row of its bank, which serves it from then on, and the repair is recorded in the
dictionary store; or the row stays in use where its bank has no spare row left (R177). A channel that the copy itself
finds failing has no row to repair (R178). -/
def State.repairRow (s : State) (r : Nat × Nat) : State :=
  let u := channelUnit r.1
  let bank := Config.bankOf r.1 r.2
  let used := (s.tier.spares.filter (fun e => e.1 == r.1 && Config.bankOf e.1 e.2 == bank)).length
  let s := { s with tier := { s.tier with repairs := s.tier.repairs.filter (fun x => x != r) } }
  if used < Config.spareRows bank then
    let s := (s.wrongIn r).foldl State.copySpareLine s
    if s.tier.fenced.contains r.1 then s
    else
      let cs := s.tier.corrections.filter (fun e => ((metaLoc e.1).chan, (metaLoc e.1).row) != r)
      let t := { s.tier with corrections := cs, spares := s.tier.spares ++ [r]
                             repairs := s.tier.repairs.filter (fun x => x != r) }
      (({ s with tier := t }.bumpReg (tierKey u kNearRepairs kFarRepairs) 1).event (tierEvent u 0x04000001) 0
        r.1).queueRec 2 0x0210 (leBytes 4 r.1 ++ leBytes 4 r.2)
  else
    ({ s with tier := { s.tier with unrepaired := s.tier.unrepaired ++ [r] } }).event (tierEvent u 0x04020002) 0 r.1

/-- The rows of a channel that wait for repair, none while its stack or package has tripped (R178). -/
def State.rowsQueued (s : State) (ch : Nat) : List (Nat × Nat) :=
  if s.bandAt (locOf ch 0).sensor = 3 then [] else s.tier.repairs.filter (fun r => r.1 == ch)

/-- Repairs of the units that no running grid's calm windows serve, as they fall due (R51): at most four a channel at a
time. -/
def State.repairIdle (s : State) : State :=
  let chans := ((s.tier.repairs.map (·.1)).eraseDups).filter (fun ch => s.unitIdle (channelUnit ch))
  (chans.flatMap (fun ch => (s.rowsQueued ch).take 4)).foldl State.repairRow s

/-! ### Calibration (R175) -/

/-- How often a timed task is due, and how long each takes, in nanoseconds. -/
def calInterval : CalTask → Nat
  | .mr4 => 0
  | .oscillator => 4000000
  | .zq => 64000000
def calTime : CalTask → Nat
  | .mr4 => 20
  | .oscillator => 600
  | .zq => 30

/-- A timed task of far channel `ch`, as `calDone` lists it. -/
def calKey (ch : Nat) (task : CalTask) : Nat := 2 * ch + (if task = .zq then 1 else 0)

/-- When a task of a channel falls due. -/
def State.calDue (s : State) (ch : Nat) (task : CalTask) : Nat :=
  if task = .mr4 then 0 else tabGet s.tier.calDone (calKey ch task) 0 + calInterval task

/-- A timed task left waiting more than 2 ms beyond its interval is counted, with its event, once. -/
def State.calOverdue (s : State) (ch : Nat) (task : CalTask) : State :=
  let k := calKey ch task
  if task = .mr4 ∨ s.now ≤ s.calDue ch task + 2000000 ∨ s.tier.calLate.contains k then s
  else
    (({ s with tier := { s.tier with calLate := s.tier.calLate ++ [k] } }.bumpReg (kCalOverdue (ch / 8)) 1).event
      0x0502000B 0 ch)

/-- A calibration task of a far channel runs; an oscillator check that finds a drift beyond the correctable range fails
the channel (R179). -/
def State.calibrate (s : State) (c : CalRun) : State :=
  let ch := c.channel.val
  let s := s.calOverdue ch c.task
  if c.task = .mr4 then s.readMr4 (ch / 4)
  else
    let k := calKey ch c.task
    let s := { s with tier := { s.tier with calDone := tabSet s.tier.calDone k s.now
                                            calLate := s.tier.calLate.filter (· != k) } }
    if c.task = .oscillator ∧ c.correctable = false then s.failChannelNow (16 + ch / 8) (1024 + ch) else s

/-- CALIBRATION_TASK_DUE (R175): it runs at once where no running grid's calm windows serve the
group; else the next window with room for it does it. -/
def execCalibrationTaskDue (c : CalRun) (s : State) : Host.Outcome State Fault Refusal :=
  .next (if s.unitIdle (16 + c.channel.val / 8) then s.calibrate c else s)

/-- What a channel has done in the calm window that began at `start`. -/
def State.calmUsed (s : State) (start ch : Nat) : CalmUse :=
  match s.tier.calmUse.find? (fun e => e.1 == ch && e.2.start == start) with
  | some e => e.2
  | none => ⟨start, start, 0⟩

def State.setCalmUse (s : State) (ch : Nat) (w : CalmUse) : State :=
  { s with tier := { s.tier with calmUse := tabSet s.tier.calmUse ch w } }

/-- A task in a calm window that ends at `stop`, MR4 once a window: it starts only with its full time left, after
what the channel has done in the window already. `cal` says what the oscillator checks find. -/
def State.calmTask (s : State) (start stop : Nat) (cal : List CalRun) (ch : Fin 128) (task : CalTask) : State :=
  let w := s.calmUsed start (1024 + ch.val)
  let begin_ := max w.until_ s.now
  if s.now < s.calDue ch.val task ∨ (task = .mr4 ∧ w.until_ ≠ start) then s
  else if begin_ + calTime task ≤ stop then
    let ok := !cal.any (fun c => c.channel == ch && c.task == task && !c.correctable)
    (s.setCalmUse (1024 + ch.val) { w with until_ := begin_ + calTime task }).calibrate ⟨ch, task, ok⟩
  else s.calOverdue ch.val task

/-- The calibration of a far group's channels in a calm window. -/
def State.calmCalibrate (s : State) (start stop : Nat) (cal : List CalRun) (f : Nat) : State :=
  (bitsOf (s.activeMap (16 + f)) 8).foldl (fun s i =>
    if s.tier.fenced.contains (1024 + 8 * f + i) then s
    else [CalTask.mr4, .oscillator, .zq].foldl (fun s task =>
      s.calmTask start stop cal ⟨(8 * f + i) % 128, Nat.mod_lt _ (by decide)⟩ task) s) s

/-- The repairs of one channel in a calm window that ends at `stop`: 400 ns each, at most four (R177). -/
def State.calmRepair (s : State) (start stop ch : Nat) : State :=
  (s.rowsQueued ch).foldl (fun s r =>
    let w := s.calmUsed start ch
    let begin_ := max w.until_ s.now
    if 4 ≤ w.repairs ∨ stop < begin_ + 400 then s
    else (s.setCalmUse ch ⟨start, begin_ + 400, w.repairs + 1⟩).repairRow r) s

/-- Timed tasks of the groups that running grids' calm windows serve, left waiting too long (R175). -/
def State.noteOverdue (s : State) : State :=
  ((List.range 16).filter (fun f => !s.unitIdle (16 + f))).foldl (fun s f =>
    (bitsOf (s.activeMap (16 + f)) 8).foldl (fun s i => (s.calOverdue (8 * f + i) .oscillator).calOverdue (8 * f + i) .zq) s) s

/-- SENSOR_SAMPLE (R172): every stack and package is read; the bands, rows and MR4 registers of units that no
running grid holds are seen to as they fall due (R51, R175). -/
def execSensorSample (t : Nat) (v : SensorReading) (s : State) : Host.Outcome State Fault Refusal :=
  let s := s.tick t
  let s := (v.nearTemps.take 16).zipIdx.foldl (fun s e => (s.setReg (kStackTemp e.2) (unsgn 32 e.1)).sense e.2 e.1) s
  let s := { s with tier := { s.tier with
    mr4Held := (v.mr4.take 32).zipIdx.foldl (fun t e => tabSet t e.2 e.1) s.tier.mr4Held } }
  let s := (v.farTemps.take 32).zipIdx.foldl (fun (s : State) (e : Int × Nat) =>
    let s := if s.unitIdle (16 + e.2 / 2) then s.readMr4 e.2 else s
    let other := v.farTemps.getD (if e.2 % 2 = 0 then e.2 + 1 else e.2 - 1) e.1
    (s.setReg (kGroupTemp (e.2 / 2)) (unsgn 32 (max e.1 other))).sense (16 + e.2) e.1) s
  .next (parts8.foldl State.warnBand (s.repairIdle.noteOverdue))

end Sys2Proof.Machine
end

