-- ==== Sys2Proof/Machine/Encryption.lean ====
section
/-! DEFINITION. Key ranges, compatibility mode, scrubs and the tamper mesh (R194 to R206). -/

namespace Sys2Proof.Machine

/-- The units whose windows meet `[b, b + n)`. -/
def unitsOf (b n : Nat) : List Nat :=
  (List.range 32).filter (fun u => decide (b < (unitWindow u).2) && decide ((unitWindow u).1 < b + n))

/-- Whether `[b, b + n)` lies wholly within the populated parts of units that satisfy `f`. -/
def State.covered (s : State) (b n : Nat) (f : Nat → Bool) : Bool :=
  let us := unitsOf b n
  let part := us.map (fun u => min (b + n) (unitWindow u).2 - max b (unitWindow u).1)
  decide (part.sum = n) &&
    us.all (fun u => f u && decide (min (b + n) (unitWindow u).2 ≤ (unitWindow u).1 + s.populatedBytes u))

/-- The checks of R195 for writing 1. -/
def State.rangeCheck (s : State) (e : Nat) : Reason :=
  let o := s.stagedReg (kOwner e)
  let b := s.stagedReg (kBase e)
  let n := s.stagedReg (kSize e)
  let k := s.stagedReg (kKeySlot e)
  let others := (List.range 64).filter (fun i => i != e && s.reg (kRangeState i) != 0)
  let h := s.checkHandle 6 8 o k
  firstOf [
    (b % 65536 != 0 || n % 65536 != 0 || n == 0 || decide (8 ≤ o), 0x6001),
    (!s.covered b n (fun u => s.unitPart u == some o), 0x6101),
    (others.any (fun i => decide (s.reg (kBase i) < b + n) && decide (b < s.reg (kBase i) + s.reg (kSize i))), 0x6102),
    (s.reg (kGustEnable o) == 1, 0x6201),
    (s.reg (kRangeState e) == 1, 0x6206),
    (s.reg (kRangeState e) == 2, 0x6202),
    (!(unitsOf b n).all (fun u => s.enc.scrubEpoch.any (fun x => x.1 == u)), 0x6203),
    (h != 0, h),
    ((s.keySlot (hIndex k)).attr != 0, 0x6301),
    (s.reg (kOwner e) == 0x80, 0x6303),
    (decide (8 ≤ (others.filter (fun i => s.reg (kOwner i) == o)).length), 0x6401)]

/-- A range takes effect with a new RANGE_EPOCH (R191). -/
def State.openRange (s : State) (e : Nat) : State :=
  let s := ((s.setReg (kRangeState e) 1).setReg (kRangeEnable e) 1).setReg (kRangeEpoch e) s.enc.epochNext
  { s with enc := { s.enc with epochNext := (s.enc.epochNext + 1) % 2 ^ 32,
                               failTimes := tabErase s.enc.failTimes e } }

/-- A range entry returns to free (R194, R195, R201). -/
def State.freeRange (s : State) (e : Nat) : State :=
  let s := ((((s.setReg (kOwner e) 0xFF).setReg (kBase e) 0).setReg (kSize e) 0).setReg (kKeySlot e) 0)
  let s := ((s.setReg (kRangeEnable e) 0).setReg (kRangeState e) 0).setReg (kLentTo e) 0
  { s with enc := { s.enc with failTimes := tabErase s.enc.failTimes e, lentKeys := tabErase s.enc.lentKeys e } }

/-- A refusal of this block (R207). -/
def State.encRefuse (s : State) (r : Reason) : Reason × State := (r, s.setReg kEncRefusal r)

/-- The write of RANGE_ENABLE (R195). -/
def rangeOp (e v : Nat) (s : State) : Reason × State :=
  if v = 1 then
    let r := s.rangeCheck e
    if r ≠ 0 then s.encRefuse r
    else (0, (s.commitStaged [kOwner e, kBase e, kSize e, kKeySlot e]).openRange e)
  else
    let o := s.reg (kOwner e)
    let r := firstOf [
      (v != 0, 0xC003),
      (decide (o < 8) && s.reg (kGustEnable o) == 1, 0x6201),
      (s.reg (kRangeState e) == 2, 0x6202),
      (o == 0x80, 0x6303)]
    if r ≠ 0 then s.encRefuse r
    else if s.reg (kRangeState e) = 0 then (0, s) else (0, s.freeRange e)

/-- RANGE_ENABLE (R195). -/
def execRangeEnable (r : Requester) (e : Fin 64) (s : State) : Host.Outcome State Fault Refusal :=
  .next (s.writeU8 r (0x6810 + e.val) 0x05 true (rangeOp e.val 1))

/-- RANGE_DISABLE (R195). -/
def execRangeDisable (r : Requester) (e : Fin 64) (s : State) : Host.Outcome State Fault Refusal :=
  .next (s.writeU8 r (0x6810 + e.val) 0x05 false (rangeOp e.val 0))

/-! ### Compatibility mode (R197, R198) -/

/-- The write of COMPAT_PARTITIONS: no partition changes its mode while its grid is enabled. -/
def compatOp (v : Nat) (s : State) : Reason × State :=
  if parts8.any (fun p => bit v p != bit (s.reg kCompatPartitions) p && s.reg (kGustEnable p) == 1) then
    s.encRefuse 0x6201
  else (0, s.setReg kCompatPartitions v)

/-- COMPAT_PARTITIONS (R198). -/
def execCompatPartitions (r : Requester) (v : BitVec 8) (s : State) : Host.Outcome State Fault Refusal :=
  .next (s.writeU8 r 0x6801 0x06 false (compatOp v.toNat))

/-- The write of a compatibility key. -/
def compatKeyOp (p i h : Nat) (s : State) : Reason × State :=
  let c := s.checkHandle 6 8 p h
  let r := firstOf [
    (s.reg (kGustEnable p) == 1, 0x6201),
    (h != 0 && c != 0, c),
    (h != 0 && (s.keySlot (hIndex h)).attr != 0, 0x6301)]
  if r ≠ 0 then s.encRefuse r else (0, s.setReg (kCompatKey p i) h)

/-- COMPAT_KEY (R198). -/
def execCompatKey (r : Requester) (p : Fin 8) (i : BitVec 8) (h : BitVec 32) (s : State) :
    Host.Outcome State Fault Refusal :=
  .next (s.write r (0x6860 + p.val) i.toNat 4 false (compatKeyOp p.val i.toNat h.toNat)).2

/-! ### Scrubs (R202) -/

/-- The lines of a tier that a scrub of `[lo, hi)` writes: not those of fenced channels. -/
def State.scrubbedAway (s : State) (lo hi a : Nat) : Bool :=
  decide (lo ≤ a) && decide (a < hi) &&
    (match s.locate a with
      | some l => !s.tier.fenced.contains l.chan
      | none => true)

/-- The same of a byte of a line's metadata. -/
def State.scrubbedMeta (s : State) (lo hi k : Nat) : Bool :=
  match s.addrOf (metaLoc k) with
  | some a => s.scrubbedAway lo hi a
  | none => false

/-- Every line of `[lo, hi)` becomes a scrub line: nothing is listed of it, whatever was wrong in it is overwritten, and
`State.scrubLine` says what it holds. -/
def State.scrubLines (s : State) (lo hi : Nat) : State :=
  { s with mem := { s.mem with
      ram := s.mem.ram.filter (fun c => !s.scrubbedAway lo hi c.1)
      metadata := s.mem.metadata.filter (fun c => !s.scrubbedMeta lo hi c.1)
      wrong := s.mem.wrong.filter (fun c => !s.scrubbedMeta lo hi c.1) } }

/-- What a whole-unit scrub under key `k` leaves: its lines, the unit's new scrub epoch, its bit and event. -/
def State.scrubUnit (s : State) (n : Nat) (k : List Byte) : State :=
  let w := unitWindow n
  let s := s.scrubLines w.1 w.2
  let s := { s with enc := { s.enc with scrubEpoch := tabSet s.enc.scrubEpoch n s.enc.epochNext,
                                        epochNext := (s.enc.epochNext + 1) % 2 ^ 32 }
                    mem := { s.mem with scrubbed := tabSet s.mem.scrubbed n (k, s.enc.epochNext) } }
  (s.setRegBit (scrubbedKey n) (unitBit n) true).event 0x06000004 0 n

/-- A far group from which a lent range has gone: where a breach has left it without a scrub under the present key, that
scrub follows at once; else a pending map may take effect (R180, R202). -/
def State.afterLent (s : State) (u : Nat) : State :=
  if s.unitFree u ∧ bit (s.reg (scrubbedKey u)) (unitBit u) = false ∧ bit (s.reg (readyKey u)) (unitBit u) then
    s.startScrub u
  else s.mapFree u

/-- SCRUB_COMPLETE (R202): a whole-unit scrub under a new scrub epoch sets the unit's bit, and a map that waited for it
takes effect (R206); the scrub of a lent range under the unit's own epoch frees its entry. Nothing completes that is not
running, nor without a scrub key: a breach stops the scrub until a new key is drawn (R206). -/
def execScrubComplete (u : ScrubScope) (s : State) : Host.Outcome State Fault Refusal :=
  match s.enc.scrubKey with
  | none => .next s
  | some k =>
    if s.enc.scrubbing.contains u = false then .next s
    else
      let s := { s with enc := { s.enc with scrubbing := s.enc.scrubbing.filter (fun x => x != u) } }
      match u with
      | .unit m => .next ((s.scrubUnit (unitIndex m) k).mapFree (unitIndex m))
      | .lent e =>
        let b := s.reg (kBase e.val)
        let s := s.scrubLines b (b + s.reg (kSize e.val))
        let s := ((s.freeRange e.val).setReg (kLendState e.val) 0).event 0x06000004 0 (64 + e.val)
        .next ((unitsOf b 1).foldl State.afterLent s)

/-! ### The tamper mesh (R205, R374) -/

def zeroKey : List Byte := List.replicate 32 0

/-- Every key of the cache is overwritten: key slots, the scrub key, lent keys and job secrets. -/
def State.zeroise (s : State) : State :=
  let ks := s.sec.keys.map (fun e => (e.1, if e.2.live then { e.2 with key := zeroKey } else e.2))
  let ps := s.parts.map (fun e => (e.1, { e.2 with secret := none, genKey := [], salt := [] }))
  { s with sec := { s.sec with keys := ks, wrapKey := zeroKey }
           enc := { s.enc with scrubKey := none, lentKeys := s.enc.lentKeys.map (fun (e : Nat × List Byte) => (e.1, zeroKey)) }
           parts := ps }.setReg kGenKeyLoaded 0

/-- A new scrub key is drawn and every free unit scrubbed with it (R202); a unit that is held or lent follows when it
is free again. -/
def State.scrubModule (s : State) : State :=
  let s := match s.drbg 32 false with
    | some (k, t) => { t with enc := { t.enc with scrubKey := some k } }
    | none => s
  ((List.range 32).filter (fun u => bit (s.reg (readyKey u)) (unitBit u))).foldl (fun s u =>
    if s.unitFree u then s.startScrub u else s.setRegBit (scrubbedKey u) (unitBit u) false) s

end Sys2Proof.Machine
end

