-- ==== Sys2Proof/Machine/Ports.lean ====
section
/-! DEFINITION. Crosswind ports (R233 to R237, R252 to R255, R343), lendings (R249 to R251) and the
commit of forwarding tables (R239). -/

namespace Sys2Proof.Machine

/-- A refusal of this block (R262). -/
def State.fabricRefuse (s : State) (r : Reason) : Reason × State := (r, s.setReg kFabricRefusal r)

/-! ### Lendings -/

/-- A lending ends (R251): its ranges are disabled and queued for scrub, its ports have no owner, event
0x0700_0008. -/
def State.endLending (s : State) (l : Lending) : State :=
  let mine := s.fabric.lendings.filter (fun x => x.borrower == l.borrower && x.part == l.part && x.ports == l.ports)
  let s := { s with fabric := { s.fabric with lendings := s.fabric.lendings.filter (fun x => !mine.contains x) } }
  let s := (bitsOf l.ports 16).foldl (fun s n => s.setReg (kPortOwner n) 0xFF) s
  let s := mine.foldl (fun s x =>
    let e := x.entry.val
    let s := ((s.setReg (kRangeState e) 0).setReg (kRangeEnable e) 0).setReg (kLendState e) 2
    let s := (s.setReg (kLendRate e) 0).setReg (kLendPorts e) 0
    let s := s.setReg kLentBytes (s.reg kLentBytes - s.reg (kSize e))
    { s with enc := { s.enc with scrubbing := s.enc.scrubbing ++ [.lent x.entry] } }) s
  s.event 0x07000008 0 l.entry.val

/-- LEND_END (R251). -/
def execLendEnd (e : Fin 64) (s : State) : Host.Outcome State Fault Refusal :=
  match s.fabric.lendings.find? (fun l => l.entry == e) with
  | some l => .next (s.endLending l)
  | none => .next s

/-- One piece of a lending: far group, base and size. -/
structure LendPiece where
  group : Nat
  base  : Nat
  size  : Nat
  deriving DecidableEq, Repr

/-- Where a lending of `n` bytes goes: from far group 15 downward, in groups that no partition holds
and whose FAR_SCRUBBED bit is set, above what is lent there already (R249). -/
def State.placeLending (s : State) (n : Nat) : Nat × List LendPiece :=
  ((List.range 16).reverse).foldl (fun acc g =>
    let u := 16 + g
    let lo := (unitWindow u).1
    let top := (s.lentIn u).foldl (fun t e => max t (s.reg (kBase e) + s.reg (kSize e))) lo
    let room := lo + s.populatedBytes u - top
    if acc.1 = 0 ∨ room = 0 ∨ (s.unitPart u).isSome ∨ bit (s.reg kFarScrubbed) g = false then acc
    else (acc.1 - min acc.1 room, acc.2 ++ [⟨g, top, min acc.1 room⟩])) (n, [])

/-- The rates lent from a far group (R250). -/
def State.lentRate (s : State) (g : Nat) : Nat :=
  ((s.fabric.lendings.filter (fun l => (s.lentIn (16 + g)).contains l.entry.val)).map (·.rate)).sum

/-- The answer to a lending request (R250). -/
def State.answerLending (s : State) (n : Nat) (q : LendRequest) (r : Reason) (bases : List Nat) : State :=
  { s with fabric := { s.fabric with lendAnswers := s.fabric.lendAnswers ++
      [⟨n, q.borrower.toNat, q.partition.val, r, bases.map (s.reg kModuleId * 2 ^ 50 + ·)⟩] } }

/-- The checks of a lending request (R250). A size that is no non-zero multiple of 64 KiB finds no range that could
hold it. -/
def State.lendCheck (s : State) (q : LendRequest) : Reason :=
  let place := s.placeLending q.sizeBytes
  firstOf [
    (q.sizeBytes == 0 || q.sizeBytes % 65536 != 0 || place.1 != 0 ||
      decide (((List.range 64).filter (fun e => s.reg (kOwner e) == 0xFF)).length < place.2.length) ||
      decide (s.reg kLendLimitGib * 2 ^ 30 < s.reg kLentBytes + q.sizeBytes), 0x7401),
    (place.2.any (fun x => decide (s.activeChannels (16 + x.group) * 14500 < s.lentRate x.group + q.rateBpu)), 0x7104),
    ((bitsOf q.ports.toNat 16).any (fun i => s.reg (kPortState i) != 3 || s.reg (kPortOwner i) != 0xFF ||
      s.reg (kPeerModule i) != q.borrower.toNat), 0x7202)]

/-- One piece of an accepted lending: its range entry, rate and key (R204, R250). -/
def State.lendPiece (s : State) (q : LendRequest) (x : LendPiece) (e : Nat) : State :=
  let s := ((s.setReg (kOwner e) 0x80).setReg (kBase e) x.base).setReg (kSize e) x.size
  let s := (s.setReg (kLentTo e) (q.borrower.toNat + q.partition.val * 2 ^ 14)).openRange e
  let s := ((s.setReg (kLendRate e) q.rateBpu).setReg (kLendPorts e) q.ports.toNat).setReg (kLendState e) 1
  { s with
    enc := { s.enc with lentKeys := tabSet s.enc.lentKeys e q.rangeKey }
    fabric := { s.fabric with lendings := s.fabric.lendings ++
      [⟨⟨e % 64, Nat.mod_lt _ (by decide)⟩, q.borrower.toNat, q.partition.val, q.ports.toNat, q.rateBpu⟩] } }

/-- LEND_REQUEST (R250): checked, built in the order of its steps, and answered on the port it came in on. -/
def execLendRequest (n : Fin 16) (q : LendRequest) (s : State) : Host.Outcome State Fault Refusal :=
  if s.reg (kPortState n.val) ≠ 3 then .next s
  else
    let r := s.lendCheck q
    if r ≠ 0 then .next ((s.fabricRefuse r).2.answerLending n.val q r [])
    else
      let place := (s.placeLending q.sizeBytes).2
      let free := (List.range 64).filter (fun e => s.reg (kOwner e) == 0xFF)
      let s := (bitsOf q.ports.toNat 16).foldl (fun s i => s.setReg (kPortOwner i) 0x80) s
      let s := (place.zip free).foldl (fun s x => s.lendPiece q x.1 x.2) s
      .next (((s.bumpReg kLentBytes q.sizeBytes).event 0x07000008 0 (free.headD 0)).answerLending n.val q 0
        (place.map (·.base)))

/-! ### Ports -/

/-- The best of the ports that have heard the root's beacons: fewest hops, then the lowest number (R259). -/
def bestHeard (heard : Tab Nat) : Option (Nat × Nat) :=
  heard.foldl (fun b e =>
    match b with
    | none => some e
    | some x => if e.2 < x.2 ∨ (e.2 = x.2 ∧ e.1 < x.1) then some e else b) none

/-- A port has left UP: it is no beacon parent any more (R259, R262). -/
def State.leaveBeacon (s : State) (n : Nat) : State :=
  let a := s.fabric.align
  let heard := a.heard.filter (fun e => e.1 != n && s.reg (kPortState e.1) == 3)
  let s := { s with fabric := { s.fabric with align := { a with heard := heard } } }
  if s.reg kBeaconParentPort ≠ n then s
  else
    let b := (bestHeard heard).getD (0xFF, 0)
    (s.setReg kBeaconParentPort b.1).setReg kBeaconHops b.2

/-- A port goes to FAILED (R235, R236): its partition faults with 0x7602 and event 0x0703_0002 is
raised; a lending whose every port has failed ends (R251). What waited for the port is lost (R261). -/
def State.failPort (s : State) (n : Nat) (reason : Reason) : State :=
  if s.reg (kPortState n) = 4 then s
  else
    let p := s.port n
    let s := ((s.withCap (·.setPort n { p with step := 0, failed := true, waiting := [], held := [] })).setReg
      (kPortState n) 4).leaveBeacon n
    let o := s.reg (kPortOwner n)
    if o < 8 then (s.event 0x07030002 reason n).faultPart o 0x7602
    else
      match s.fabric.lendings.find? (fun l => bit l.ports n &&
          (bitsOf l.ports 16).all (fun i => s.reg (kPortState i) == 4)) with
      | some l => s.endLending l
      | none => s

/-- A port goes DOWN: its link state is gone; that it has failed since boot is kept (R383). -/
def State.downPort (s : State) (n : Nat) : State :=
  let p := s.port n
  (((s.setPort n { Port.down with failed := p.failed }).setReg (kPortState n) 0).setReg (kPortEnable n) 0).leaveBeacon n

/-- Writing 1 to PORT_ENABLE (R235, R237, R490). A port that is enabled already is left as it is: a
FAILED port needs 0 first. -/
def portOnOp (n : Nat) (prsntHigh : Bool) (s : State) : Reason × State :=
  if s.reg (kPortEnable n) = 1 then (0, s)
  else if s.reg kModuleId = 0xFFFF then s.fabricRefuse 0x7208
  else
    let s := s.setReg (kPortEnable n) 1
    if prsntHigh then (0, s.failPort n 0x7602)
    else
      let p := s.port n
      (0, ((((s.setPort n { Port.down with failed := p.failed, step := 1 }).setReg
        (kPortState n) 1).setReg (kPeerModule n) 0xFFFF).setReg (kPeerPort n) 0xFF))

/-- PORT_ENABLE (R235). -/
def execPortEnable (r : Requester) (n : Fin 16) (prsntHigh : Bool) (s : State) :
    Host.Outcome State Fault Refusal :=
  .next (s.writeU8 r (0x7010 + n.val) 0x05 false (portOnOp n.val prsntHigh))

/-- Writing 0 to PORT_ENABLE (R262). -/
def portOffOp (n : Nat) (s : State) : Reason × State :=
  let o := s.reg (kPortOwner n)
  if o < 8 ∧ s.reg (kGustEnable o) = 1 then s.fabricRefuse 0x7203 else (0, s.downPort n)

/-- PORT_DISABLE (R262). -/
def execPortDisable (r : Requester) (n : Fin 16) (s : State) : Host.Outcome State Fault Refusal :=
  .next (s.writeU8 r (0x7010 + n.val) 0x05 false (portOffOp n.val))

/-- Whether this module can make or check signatures with its own keys (R355): UDS is usable. -/
def State.udsUsable (s : State) : Bool := !bit s.sec.unusable 0

/-- The admission of a peer at step 4 (R253, R343, R355, R367); 0 when it is admitted. A partition
without a charter admits a peer that has none either (log entry 21). A half of the key exchange that is no point of the
curve agrees no secret. -/
def State.admitPeer (s : State) (n : Nat) (peer : PeerInfo) : Reason :=
  let o := s.reg (kPortOwner n)
  firstOf [
    (!s.udsUsable || !peer.authentic || !ecOnCurve (pair48 peer.ephemeral), 0x7501),
    (s.sec.failed || s.sec.drbg.isNone, 0xB504),
    (decide (o < 8) && (!peer.inField || peer.tableRev.toNat != s.reg kBuiltinTableRev ||
      match (s.part o).charter with
      | some c => !c.accepted.contains peer.composite || peer.charter != c.digest
      | none => peer.charter.any (· != 0)), 0xB544)]

/-- A link direction key (R358). -/
def linkKeyOf (secret : List Byte) (gen a b : Nat) : List Byte :=
  (derive secret (ascii "LINK") (leBytes 4 gen ++ leBytes 2 a ++ leBytes 2 b)).take 32

/-- The secret that the key exchange of two halves agrees (R253): the x coordinate of the common point. -/
def ecShared (d : Nat) (peer : List Byte) : List Byte :=
  match (ecMul d (pair48 peer)).affine with
  | some q => beBytes 48 q.1
  | none => List.replicate 48 0

/-- The keys of a port after step 4 (R253, R358): this module's half of the exchange is drawn from its generator, and
each direction starts in generation 0. -/
def State.keyPort (s : State) (n : Nat) (peer : List Byte) : State :=
  match s.drbg 48 false with
  | none => s
  | some (rnd, t) =>
    let d := scalarOf rnd
    let secret := ecShared d peer
    let a := s.reg kModuleId
    let b := s.reg (kPeerModule n)
    t.setPort n { s.port n with linkKey := secret, rxGen := 0, txGen := 0, rxFrame := 0, txFrame := 0
                                txKey := linkKeyOf secret 0 a b, rxKey := linkKeyOf secret 0 b a
                                ephemeral := ecPublic d }

/-- A step of bring-up completes (R235). -/
def State.portStep (s : State) (n : Nat) (peer : PeerInfo) : State :=
  let p := s.port n
  let go := fun (s : State) (step st : Nat) =>
    (s.setPort n { s.port n with step := step }).setReg (kPortState n) st
  match p.step with
  | 1 => go s 2 1
  | 2 => go s 3 2
  | 3 =>
    let s := (s.setReg (kPeerModule n) peer.moduleId.toNat).setReg (kPeerPort n) peer.port.val
    go (s.setPort n { s.port n with peer := some peer }) 4 2
  | 4 =>
    let r := s.admitPeer n peer
    if r ≠ 0 then s.failPort n r else go (s.keyPort n peer.ephemeral) 5 2
  | 5 => (go (s.setPort n { s.port n with delay := peer.echoDelayNs }) 0 3).event 0x07010001 0 n
  | _ => s

/-- PORT_BRINGUP_STEP (R235). -/
def execPortBringupStep (n : Fin 16) (peer : PeerInfo) (s : State) : Host.Outcome State Fault Refusal :=
  .next (s.portStep n.val peer)

/-- PORT_STEP_TIMEOUT (R235): the step in progress overruns its bound. -/
def execPortStepTimeout (n : Fin 16) (s : State) : Host.Outcome State Fault Refusal :=
  let p := s.port n.val
  .next (if p.step = 0 then s
    else s.failPort n.val (if p.step = 4 then 0x7501 else 0x7602))

/-- LANE_FAIL (R234, R235): a port that trains or is up runs at full width or not at all. -/
def execLaneFail (n : Fin 16) (s : State) : Host.Outcome State Fault Refusal :=
  let st := s.reg (kPortState n.val)
  .next (if st = 0 ∨ st = 4 then s else s.failPort n.val 0x7602)

/-- FRAME_LOCK_LOST (R235): frame lock lost for 10 µs on a port that is UP. -/
def execFrameLockLost (n : Fin 16) (s : State) : Host.Outcome State Fault Refusal :=
  .next (if s.reg (kPortState n.val) ≠ 3 then s else s.failPort n.val 0x7602)

/-- The nonce of a frame (R252). -/
def frameNonce (gen frame : Nat) : List Byte := leBytes 4 gen ++ leBytes 8 frame

/-- A frame's tag fails: it is taken for an attack (R255). -/
def State.frameAttack (s : State) (n : Nat) : State :=
  ((s.bumpReg (kTagFails n) 1).event 0x07040003 0x7502 n).failPort n 0x7502

/-- A whole frame opened (R252, R255): its plaintext and its credits are taken, and packets that waited for them leave;
else its tag fails. -/
def State.openFrame (s : State) (n : Nat) (f : HeldFrame) : State :=
  match gcmOpen f.key f.nonce [] f.cipher f.tag with
  | some plain => (s.setPort n (f.credits.foldl Port.credit { s.port n with rxFlits := plain })).pump n
  | none => s.frameAttack n

/-- The payload of a flit that came again, from its plaintext, put where its frame misses it: enciphered as the frame's
own tag covers it (log entry 62). The seal flit (48) is not enciphered. -/
def HeldFrame.fill (f : HeldFrame) (i : Nat) (plain : List Byte) : HeldFrame :=
  let f := { f with missing := f.missing.filter (· != i) }
  if i = 48 then f
  else
    let ct := gcmCtr (aesSchedule f.key) f.nonce (2 + 16 * i) (chunksOf 16 17 plain)
    { f with cipher := f.cipher.take (256 * i) ++ ct ++ f.cipher.drop (256 * i + 256) }

/-- Flits of a frame: 47 of data, the timing flit, the seal flit and the replay reserve (R233). -/
def frameFlits : Nat := 50

/-- A replayed flit (R235, R255): counted; a flit replayed more than once raises event 0x0702_0004, and one replayed
eight times fails the port. One that arrives whole joins its frame, which is opened when it misses nothing more. -/
def State.takeReplay (s : State) (n : Nat) (key nonce : List Byte) (r : ReplayIn) : State :=
  let p := s.port n
  let k := tabGet p.replayed r.seq 0 + 1
  let counts := if r.crcOk then tabErase p.replayed r.seq else tabSet p.replayed r.seq k
  let s := (s.setPort n { p with replayed := counts }).bumpReg (kReplays n) 1
  let s := if 2 ≤ k then s.event 0x07020004 0 n else s
  if 8 ≤ k then s.failPort n 0x7602
  else if r.crcOk = false then s
  else
    let p := s.port n
    let i := r.seq % frameFlits
    match p.held.find? (fun f => f.first == r.seq - i && f.missing.contains i) with
    | none => s
    | some f =>
      let g := f.fill i (gcmCtr (aesSchedule key) nonce (2 + 768) (chunksOf 16 17 r.cipher))
      if g.missing.isEmpty then
        (s.setPort n { p with held := p.held.filter (fun x => x.first != f.first) }).openFrame n g
      else s.setPort n { p with held := p.held.map (fun x => if x.first = f.first then g else x) }

/-- A frame on a port that is UP (R252, R254, R255): the mark of the seal flit moves the receiver to the next key, the
replay reserve is taken, and the frame is opened, or held until the flits whose CRC fails have come again. -/
def State.takeFrame (s : State) (n : Nat) (f : FrameIn) : State :=
  let p := s.port n
  let p := if f.newKey then
      { p with rxGen := p.rxGen + 1, rxFrame := 0,
               rxKey := linkKeyOf p.linkKey (p.rxGen + 1) (s.reg (kPeerModule n)) (s.reg kModuleId) }
    else p
  let nonce := frameNonce p.rxGen p.rxFrame
  let h : HeldFrame := ⟨frameFlits * p.frames, p.rxKey, nonce, f.cipher, f.tag, f.credits, (f.crcFails.map (·.val)).eraseDups⟩
  let s := s.setPort n { p with rxFrame := p.rxFrame + 1, frames := p.frames + 1 }
  let s := match f.replay with
    | some r => s.takeReplay n p.rxKey nonce r
    | none => s
  if s.reg (kPortState n) ≠ 3 then s
  else if h.missing.isEmpty then s.openFrame n h
  else s.setPort n { s.port n with held := (s.port n).held ++ [h] }

/-- FRAME (R252). -/
def execFrameIn (n : Fin 16) (f : FrameIn) (s : State) : Host.Outcome State Fault Refusal :=
  .next (if s.reg (kPortState n.val) ≠ 3 then s else s.takeFrame n.val f)

/-- REKEY (R254): the sender's direction moves to the next generation. With the entropy source FAILED
rekeying is refused with 0xB504 (R367). -/
def execRekey (n : Fin 16) (s : State) : Host.Outcome State Fault Refusal :=
  let p := s.port n.val
  if s.reg (kPortState n.val) ≠ 3 then .next s
  else if s.sec.failed then .next (s.setReg kSecRefusal 0xB504)
  else
    let key := linkKeyOf p.linkKey (p.txGen + 1) (s.reg kModuleId) (s.reg (kPeerModule n.val))
    .next (((s.setPort n.val { p with txGen := p.txGen + 1, txFrame := 0, txKey := key }).bumpReg
      (kRekeys n.val) 1).event 0x07000005 0 n.val)

/-! ### The module id and the beacon root (R75, R237) -/

/-- The alignment state follows the root that BEACON_ROOT names (R75). -/
def State.rootSet (s : State) : State :=
  let root := s.reg kBeaconRoot
  let a := { s.fabric.align with inRow := 0, outRow := 0, heard := [] }
  let s := { s with fabric := { s.fabric with align := a } }
  let s := (s.setReg kBeaconParentPort 0xFF).setReg kBeaconHops 0
  if root ≠ 0xFFFF ∧ root = s.reg kModuleId then (s.setReg kAlignState 1).setReg kAlignErrNs 0
  else s.setReg kAlignState 0

/-- The write of MODULE_ID (R237). -/
def moduleIdOp (v : Nat) (s : State) : Reason × State :=
  if 16384 ≤ v ∧ v ≠ 0xFFFF then s.fabricRefuse 0xC003
  else if (List.range 16).any (fun n => s.reg (kPortState n) != 0 && s.reg (kPortState n) != 4) then
    s.fabricRefuse 0x7201
  else
    let old := s.reg kModuleId
    let s := s.withCap (·.setReg kModuleId v)
    let root := s.reg kBeaconRoot
    (0, if root ≠ 0xFFFF ∧ (root = v ∨ root = old) then s.rootSet else s)

/-- MODULE_ID (R237). -/
def execModuleId (r : Requester) (v : BitVec 16) (s : State) : Host.Outcome State Fault Refusal :=
  .next (s.write r 0x7001 0x01 2 false (moduleIdOp v.toNat)).2

/-! ### Forwarding tables (R238, R239) -/

/-- A partition's entries of one table, put into another. -/
def copyTable (src dst : Tab Nat) (p : Nat) : Tab Nat :=
  (src.filter (fun e => e.1 / 16384 == p)).foldl (fun t e => tabSet t e.1 e.2)
    (dst.filter (fun e => e.1 / 16384 != p))

/-- An accepted table acts (R239). -/
def State.applyFwd (s : State) (p : Nat) : State :=
  let f := s.fabric
  let s := { s with fabric := { f with fwd := copyTable f.fwdNext f.fwd p
                                       fwdNext := f.fwdNext.filter (fun e => e.1 / 16384 != p) } }
  let s := s.setReg (kPortCollShare p) (tabGet f.shareNext p (s.reg (kPortCollShare p)))
  (s.setReg (kFwdState p) 2).bumpReg (kFwdGen p) 1

/-- The write of FWD_ENABLE (R239): 1 checks and commits. -/
def fwdOp (p v : Nat) (s : State) : Reason × State :=
  let es := s.fabric.fwdStaged.filter (fun e => e.1 / 16384 == p && fwdValid e.2)
  let share := s.stagedReg (kPortCollShare p)
  let r := firstOf [
    (v != 1 || decide (32 < share), 0xC003),
    (es.any (fun e => s.reg (kPortOwner (fwdPort e.2)) != p), 0x7101),
    (es.any (fun e => fwdHops e.2 == 0 || decide (s.reg (kJobHops p) < fwdHops e.2)), 0x7102),
    (es.any (fun e => e.1 % 16384 == s.reg kModuleId), 0x7103)]
  if r ≠ 0 then s.fabricRefuse r
  else
    let f := s.fabric
    let s := { s with fabric := { f with fwdNext := copyTable f.fwdStaged f.fwdNext p
                                         shareNext := tabSet f.shareNext p share } }
    (0, if s.reg (kGustEnable p) = 1 then s.setReg (kFwdState p) 1 else s.applyFwd p)

/-- FWD_ENABLE (R239). -/
def execFwdEnable (r : Requester) (p : Fin 8) (s : State) : Host.Outcome State Fault Refusal :=
  .next (s.writeU8 r (0x7020 + p.val) 0x02 true (fwdOp p.val 1))

end Sys2Proof.Machine
end

