-- ==== Sys2Proof/Machine/Beacon.lean ====
section
/-! DEFINITION. Alignment to the gust beacon (R74 to R76, R259): roots, beacons and their parent, echoes,
holdover and UNALIGNED. -/

namespace Sys2Proof.Machine

/-- BEACON_ROOT_WRITE (R75): the state follows the root named. -/
def execBeaconRootWrite (r : Requester) (v : BitVec 16) (s : State) : Host.Outcome State Fault Refusal :=
  .next (s.write r 0x2001 0x01 2 false (fun s => (0, (s.setReg kBeaconRoot v.toNat).rootSet))).2

/-- This module is the beacon root (R75). -/
def State.isRoot (s : State) : Bool := s.reg kBeaconRoot != 0xFFFF && s.reg kBeaconRoot == s.reg kModuleId

/-- The ports that are UP. -/
def State.portsUp (s : State) : List Nat := (List.range 16).filter (fun n => s.reg (kPortState n) == 3)

/-- A timing message on every UP port, but for `skip`. -/
def State.spread (s : State) (skip : Option Nat) (m : Nat) : State :=
  (s.portsUp.filter (fun n => skip != some n)).foldl (fun t n => t.sendTiming n m) s

/-- BEACON_SEND (R259): the root sends its domain time every 100 µs, on every UP port. -/
def execBeaconSend (t : Nat) (s : State) : Host.Outcome State Fault Refusal :=
  let s := s.tick t
  let a := s.fabric.align
  if s.isRoot = false ∨ s.now < a.lastBeacon + 100000 then .next s
  else
    let s := { s with fabric := { s.fabric with align := { a with lastBeacon := s.now } } }
    .next (s.spread none (mkTiming 1 1 (s.reg kModuleId % 2 ^ 14) 0 s.now 0 0))

def State.setAlign (s : State) (a : Align) : State := { s with fabric := { s.fabric with align := a } }

/-- The module enters UNALIGNED (R75, R76): its partitions of jobs with hops abort their gust, and take part again only
through a rejoin. -/
def State.unaligned (s : State) : State :=
  let s := ((s.setReg kAlignState 3).setAlign { s.fabric.align with inRow := 0, outRow := 0 }).event 0x01030015 0 0
  let ps := parts8.filter (fun p => s.reg (kJobHops p) != 0 && (s.grid p).inGust)
  ps.foldl (fun s p => s.setJob p { s.job p with away := true }) (s.faultParts ps 0x1603)

/-- The parent of R259 after a beacon: none yet or none UP is replaced at once, else another port is
taken after three beacons that favour it. Answers the parent. -/
def State.chooseParent (s : State) (n hops : Nat) : Nat × State :=
  let a := s.fabric.align
  let heard := (tabSet a.heard n hops).filter (fun e => s.reg (kPortState e.1) == 3)
  let best := (heard.foldl (fun (b : Nat × Nat) e => if e.2 < b.2 then e else b) (n, hops + 16)).1
  let old := s.reg kBeaconParentPort
  let gone := decide (16 ≤ old) || s.reg (kPortState old) != 3
  let favour := if gone ∨ best = old then 0 else a.favour + 1
  let take := gone || decide (3 ≤ favour)
  let s := s.setAlign { a with heard := heard, favour := if take then 0 else favour }
  if take then (best, s.setReg kBeaconParentPort best) else (old, s)

/-- The alignment state after a parent's beacon with error `e` (R75). -/
def State.alignStep (s : State) (e : Int) : State :=
  let a := s.fabric.align
  let good := decide (e.natAbs ≤ 40)
  let s := s.setReg kAlignErrNs (unsgn 32 e)
  let s := s.setAlign { a with inRow := if good then a.inRow + 1 else 0
                               outRow := if good then 0 else a.outRow + 1, lastSeen := s.now }
  let s := if good then s else s.event 0x01020014 0 (unsgn 32 e)
  let st := s.reg kAlignState
  let a := s.fabric.align
  if st = 1 ∨ st = 2 then
    if 3 ≤ a.outRow then s.unaligned else if good then s.setReg kAlignState 1 else s
  else if 16 ≤ a.inRow then s.setReg kAlignState 1 else s

/-- The gust timer is steered by at most 2 ns (R74). -/
def State.steer (s : State) (e : Int) : State :=
  { s with now := if 0 < e then s.now - min 2 e.natAbs else s.now + min 2 e.natAbs }

/-- A beacon of the root on port `n` (R74, R259). -/
def State.beaconIn (s : State) (n m : Nat) : State :=
  let hops := fld m 4 4
  let r := s.chooseParent n hops
  let s := r.2
  if r.1 ≠ n then s
  else
    let t := fld m 64 64 + (s.port n).delay
    let e := (s.now : Int) - t
    let s := ((s.setReg kBeaconHops hops).alignStep e).steer e
    if 6 ≤ hops then s
    else s.spread (some n) (mkTiming 1 (hops + 1) (fld m 8 14) 0 t 0 0)

/-- BEACON (R74). -/
def execBeacon (n : Fin 16) (m : BitVec 256) (t : Nat) (s : State) : Host.Outcome State Fault Refusal :=
  let s := s.tick t
  let m := m.toNat
  .next (if s.reg (kPortState n.val) ≠ 3 ∨ fld m 0 4 ≠ 1 ∨ s.reg kBeaconRoot = 0xFFFF ∨
      fld m 8 14 ≠ s.reg kBeaconRoot ∨ s.isRoot then s
    else s.beaconIn n.val m)

/-- BEACON_LOSS (R75): no beacon for 300 µs is holdover, none for HOLDOVER_LIMIT_US is UNALIGNED. -/
def execBeaconLoss (t : Nat) (s : State) : Host.Outcome State Fault Refusal :=
  let s := s.tick t
  let a := s.fabric.align
  let st := s.reg kAlignState
  .next (if s.isRoot then s
    else if (st = 1 ∨ st = 2) ∧ a.lastSeen + s.reg kHoldoverLimitUs * 1000 ≤ s.now then s.unaligned
    else if st = 1 ∧ a.lastSeen + 300000 ≤ s.now then s.setReg kAlignState 2
    else s)

/-! ### Echoes (R259) -/

/-- ECHO_TIMER (R259): every 100 µs each port that is UP sends an echo request; its send time is kept. -/
def execEchoTimer (t : Nat) (s : State) : Host.Outcome State Fault Refusal :=
  let s := s.tick t
  let a := s.fabric.align
  if s.now < a.lastEcho + 100000 then .next s
  else
    let s := s.setAlign { a with lastEcho := s.now }
    let m := mkTiming 2 0 (s.reg kModuleId % 2 ^ 14) 0 s.now 0 0
    .next (s.portsUp.foldl (fun s n => (s.setPort n { s.port n with echoSent := some s.now }).sendTiming n m) s)

/-- ECHO_REQUEST (R259): answered at once, with its receive and send times. -/
def execEchoRequest (n : Fin 16) (m : BitVec 256) (t : Nat) (s : State) : Host.Outcome State Fault Refusal :=
  let s := s.tick t
  .next (if s.reg (kPortState n.val) ≠ 3 ∨ fld m.toNat 0 4 ≠ 2 then s
    else s.sendTiming n.val (mkTiming 3 0 (s.reg kModuleId % 2 ^ 14) 0 s.now s.now 0))

/-- ECHO_RESPONSE (R259): the one-way delay is half of what the round trip took outside the peer. -/
def execEchoResponse (n : Fin 16) (m : BitVec 256) (t : Nat) (s : State) : Host.Outcome State Fault Refusal :=
  let s := s.tick t
  let m := m.toNat
  let x := s.port n.val
  match x.echoSent with
  | none => .next s
  | some t1 =>
    .next (if s.reg (kPortState n.val) ≠ 3 ∨ fld m 0 4 ≠ 3 then s
      else s.setPort n.val { x with echoSent := none,
                                    delay := ((s.now - t1) - (fld m 128 64 - fld m 64 64)) / 2 })

end Sys2Proof.Machine
end

