-- ==== Sys2Proof/Machine/Remote.lean ====
section
/-! DEFINITION. Packets that arrive from Crosswind (R240, R241, R245 to R248): forwarded, dropped,
served here, or taken as the answer to a request of this module. -/

namespace Sys2Proof.Machine

/-- Bytes of data that a packet of a kind carries (R242, R243). -/
def dataBytes (kind len : Nat) : Nat := if kindData kind then (len + 1) * 64 else 0

/-- The header as its command reads it: the command's kind stands unless the header's is reserved. -/
def asKind (kind : Nat) (h : Hdr) : Hdr := if h.kind = 0 ∨ 10 ≤ h.kind then h else { h with kind := kind }

/-- Whether a header and `n` bytes of data are no packet of R242: a reserved KIND, data that is not of the length that
LEN says, or more than the kind may carry. Acknowledgements and notices ignore LEN; a read request asks with it for as
many units as its response holds (log entry 63). -/
def badPacket (kind : Nat) (h : Hdr) (n : Nat) : Bool :=
  h.kind != kind || n != dataBytes kind h.len || (kind != 5 && kind != 8 && kind != 9 && decide (3 < h.len))

/-- A packet arrives on port `n` (R240, R242): nothing is received on a port that is not UP; what is no packet is
dropped; a packet for another module is forwarded or dropped; one for this module is served. -/
def State.arrive (s : State) (n kind : Nat) (k : Packet) (serve : Hdr → State → State) : State :=
  let h := asKind kind (unpackHdr k.header.toNat)
  let q := s.reg (kPortOwner n)
  let dst := h.addr / 2 ^ 50
  let e := if q < 8 then s.fwdEntry q dst else 0
  if s.reg (kPortState n) ≠ 3 then s
  else if badPacket kind h k.data.length then s.dropPacket n h 0x7002
  else if dst = s.reg kModuleId then serve h s
  else if q = 0x80 then s.dropPacket n h 0x7303
  else if h.hops = 0 then s.dropPacket n h 0x7302
  else if fwdValid e = false then s.dropPacket n h 0x7304
  else s.putPacket (fwdPort e) h k.data

/-- Who a request acts for here, or the reason that refuses it: partition `q` once R241 holds, the borrower on a
lending port (R196), and nobody on a port that has no owner, as one has after its lending (R251). -/
def State.requester (s : State) (n : Nat) (h : Hdr) : Except Reason Who :=
  let q := s.reg (kPortOwner n)
  if q = 0x80 then .ok (.lent h.srcModule h.srcPart)
  else if 8 ≤ q then .error 0x6302
  else
    let e := s.fwdEntry q h.srcModule
    if h.dstPart = q ∧ fwdValid e ∧ fwdLender e = false ∧ fwdPeer e = h.srcPart then .ok (.part q)
    else .error 0x7301

/-- A request that nobody here may serve (R196, R241): a notice, and the event of an address that no range covers. -/
def State.refuseRequest (s : State) (n : Nat) (h : Hdr) (r : Reason) : State :=
  (if r = 0x6302 then s.event 0x06020005 0x6302 0 else s).notice n h r

/-- The local address of a request; remote requests reach near and far memory only. -/
def localAddr (h : Hdr) : Nat := h.addr % 2 ^ 50

/-- A reason as the issuer is told it: beyond a populated part it is 0x7003 (R241). -/
def remoteReason (r : Reason) : Reason := if r = 0x70F8 then 0x7003 else r

/-- READ_REQUEST served: a response with the lines, their poison and the version stored with them, or a notice (R241,
R245, R247). The version is the one expected unless a line's differs; then it is the first of those (log entry 71). -/
def State.serveRead (s : State) (n : Nat) (w : Who) (h : Hdr) : State :=
  let a := localAddr h / 64 * 64
  let r := (List.range (h.len + 1)).foldl (fun (acc : List Byte × Nat × Reason × State) i =>
    let o := acc.2.2.2.readLine w 7 (a + 64 * i) h.version h.keyIndex
    (acc.1 ++ o.1.data, if o.1.poison then setBit acc.2.1 i else acc.2.1,
      if acc.2.2.1 = 0 then o.1.err else acc.2.2.1, o.2)) ([], 0, 0, s)
  let v := (((List.range (h.len + 1)).map (fun i => s.versionAt (a + 64 * i))).find? (· != h.version)).getD h.version
  if r.2.2.1 ≠ 0 then r.2.2.2.notice n h (remoteReason r.2.2.1)
  else r.2.2.2.answer n 2 { h with version := v } 0 r.2.1 r.1

/-- A write served: acknowledged when it asks for that, or a notice (R241, R245, R247). -/
def State.serveWrite (s : State) (n : Nat) (w : Who) (data : List Byte) (h : Hdr) : State :=
  let r := (List.range (h.len + 1)).foldl (fun (acc : Reason × State) i =>
    let o := acc.2.writeLine w 7 (localAddr h / 64 * 64 + 64 * i) h.version h.keyIndex
      ((data.drop (64 * i)).take 64) (bit h.poison i)
    (if acc.1 = 0 then o.1 else acc.1, o.2)) (0, s)
  if r.1 ≠ 0 then r.2.notice n h (remoteReason r.1)
  else if h.kind = 3 then r.2.answer n 5 h 0 0 [] else r.2

/-- The word that an atomic leaves, or nothing (R246). -/
def atomicResult (op w x cmp : Nat) : Option Nat :=
  match op with
  | 0 => some ((w + x) % 2 ^ 64)
  | 1 => some (min w x)
  | 2 => some (max w x)
  | 3 => some (w ||| x)
  | 4 => some (w &&& x)
  | 5 => some x
  | _ => if w = cmp then some x else none

/-- An atomic on an aligned 8-byte word of near or far memory, for a requester (R246): the reason that
refuses it, else the old word, whether the line was poisoned, and the state. -/
def State.atomic (s : State) (w : Who) (a version key op x cmp : Nat) : Reason × Nat × Bool × State :=
  let line := a / 64 * 64
  let stored := s.versionAt a
  let r := s.readLine w 7 line version key
  let bad := r.1.poison && (r.1.err == 0 || r.1.err == 0x6501)
  if r.1.err ≠ 0 ∧ r.1.err ≠ 0x6501 then (r.1.err, 0, false, r.2)
  else
    let old := ofLe ((r.1.data.drop (a % 64)).take 8)
    if bad then (0, old, true, r.2)
    else
      match atomicResult op old x cmp with
      | none => (0, old, false, r.2)
      | some v =>
        let data := r.1.data.take (a % 64) ++ leBytes 8 v ++ r.1.data.drop (a % 64 + 8)
        let o := r.2.writeLine w 7 line (if stored = 255 then 1 else stored + 1) key data false
        (o.1, old, false, o.2)

/-- An atomic served (R246), unless its operation is reserved or its word is not aligned. -/
def State.serveAtomic (s : State) (n : Nat) (w : Who) (data : List Byte) (h : Hdr) : State :=
  if 6 < h.reasonOp ∨ localAddr h % 8 ≠ 0 then s.notice n h 0x7004
  else
    let r := s.atomic w (localAddr h) h.version h.keyIndex h.reasonOp (ofLe (data.take 8)) (ofLe ((data.drop 8).take 8))
    if r.1 ≠ 0 then r.2.2.2.notice n h (remoteReason r.1)
    else r.2.2.2.answer n 7 h 0 (b2n r.2.2.1) (leBytes 64 r.2.1)

/-- A request served for whom it acts, by its kind; a range that its tag failures have brought to its limit is closed
once the answer is on its way (R201). -/
def State.serveFor (s : State) (n : Nat) (w : Who) (data : List Byte) (h : Hdr) : State :=
  (match h.kind with
    | 1 => s.serveRead n w h
    | 6 => s.serveAtomic n w data h
    | _ => s.serveWrite n w data h).closeRanges

/-- Whether an arrival of a meter waits already. -/
def State.arrivalWaits (s : State) (key : Nat) : Bool :=
  s.fabric.arrivals.any (fun x =>
    let h := unpackHdr x.header
    match s.requester x.port h with
    | .ok w => s.arrivalKey w (localAddr h) == some key
    | .error _ => false)

/-- A request for this module's memory (R66, R217, R241, R250): refused, served, or kept until its slice has room. -/
def State.serveRequest (s : State) (n : Nat) (h : Hdr) (data : List Byte) : State :=
  match s.requester n h with
  | .error r => s.refuseRequest n h r
  | .ok w =>
    match s.arrivalKey w (localAddr h) with
    | none => s.serveFor n w data h
    | some key =>
      let x := arrivalCharge h.kind (localAddr h) (h.len + 1)
      if s.arrivalWaits key = false ∧ (s.arrivalMeter key).admits (s.arrivalRate key) x then
        (s.chargeArrival key x).serveFor n w data h
      else { s with fabric := { s.fabric with arrivals := s.fabric.arrivals ++ [⟨n, packHdr h, data⟩] } }

/-- The arrivals that waited are taken up again, oldest first. -/
def State.retryArrivals (s : State) : State :=
  s.fabric.arrivals.foldl (fun t x => t.serveRequest x.port (unpackHdr x.header) x.data)
    { s with fabric := { s.fabric with arrivals := [] } }

/-- READ_REQUEST (R241). -/
def execReadRequest (n : Fin 16) (k : Packet) (s : State) : Host.Outcome State Fault Refusal :=
  .next (s.arrive n.val 1 k (fun h s => s.serveRequest n.val h k.data))

/-- WRITE_ACKNOWLEDGED (R245). -/
def execWriteAcknowledged (n : Fin 16) (k : Packet) (s : State) : Host.Outcome State Fault Refusal :=
  .next (s.arrive n.val 3 k (fun h s => s.serveRequest n.val h k.data))

/-- POSTED_WRITE (R245). -/
def execPostedWrite (n : Fin 16) (k : Packet) (s : State) : Host.Outcome State Fault Refusal :=
  .next (s.arrive n.val 4 k (fun h s => s.serveRequest n.val h k.data))

/-- An atomic with operation `op` arrives: its command's operation stands unless the header's code is reserved
(R246). -/
def State.arriveAtomic (s : State) (n op : Nat) (k : Packet) : State :=
  s.arrive n 6 k (fun h s => s.serveRequest n (if 6 < h.reasonOp then h else { h with reasonOp := op }) k.data)

/-- The atomics of R246. -/
def execFetchAdd (n : Fin 16) (k : Packet) (s : State) : Host.Outcome State Fault Refusal :=
  .next (s.arriveAtomic n.val 0 k)
def execFetchMin (n : Fin 16) (k : Packet) (s : State) : Host.Outcome State Fault Refusal :=
  .next (s.arriveAtomic n.val 1 k)
def execFetchMax (n : Fin 16) (k : Packet) (s : State) : Host.Outcome State Fault Refusal :=
  .next (s.arriveAtomic n.val 2 k)
def execFetchOr (n : Fin 16) (k : Packet) (s : State) : Host.Outcome State Fault Refusal :=
  .next (s.arriveAtomic n.val 3 k)
def execFetchAnd (n : Fin 16) (k : Packet) (s : State) : Host.Outcome State Fault Refusal :=
  .next (s.arriveAtomic n.val 4 k)
def execSwap (n : Fin 16) (k : Packet) (s : State) : Host.Outcome State Fault Refusal :=
  .next (s.arriveAtomic n.val 5 k)
def execCmpSwap (n : Fin 16) (k : Packet) (s : State) : Host.Outcome State Fault Refusal :=
  .next (s.arriveAtomic n.val 6 k)

/-! ### Answers to this module's requests -/

/-- The request that an answer's tag names, of one of the kinds: an answer is taken only on a port of the partition
that asked (R236). -/
def State.waiting (s : State) (n tag : Nat) (kinds : List Nat) : Option Remote :=
  s.fabric.remotes.find? (fun r => r.tag == tag && kinds.contains r.kind && r.part == s.reg (kPortOwner n))

/-- A request that is no longer outstanding. -/
def State.settle (s : State) (r : Remote) : State :=
  { s with fabric := { s.fabric with remotes := s.fabric.remotes.filter (fun x => x.tag != r.tag) } }

/-- A copy whose read or write fails keeps the first reason it meets (R391). -/
def State.copyReason (s : State) (ch : Handle) (reason : Reason) : State :=
  { s with objs := { s.objs with channels := s.objs.channels.map (fun (c : Channel) =>
      if c.handle = ch ∧ c.reason = 0 then { c with reason := reason } else c) } }

/-- The fence of the queue whose copy a channel runs; 0 for a copy of the job services. -/
def State.copyFence (s : State) (ch : Handle) : Handle :=
  match (s.objs.channels.find? (fun c => c.handle == ch)).bind (·.busy) with
  | none => 0
  | some b => ((s.objs.queues.find? (fun q => q.handle == b.1)).map (·.fence)).getD 0

/-- Bytes of a copy put where they go, within one line; a line of another module leaves as an acknowledged write that
the copy waits for (R245; log entry 17). -/
def State.copyPiece (s : State) (p : Nat) (ch : Handle) (va : Nat) (data : List Byte) (poison : Bool) : State :=
  match s.translate p va with
  | .there m a =>
    let line := padTo 64 0 (List.replicate (va % 64) 0 ++ data)
    let r := s.request p 3 1 (m * 2 ^ 50 + a / 64 * 64) 1 0 (s.copyFence ch) (b2n poison) line (.ack ch)
    if r.1 then r.2 else r.2.copyReason ch 0x7304
  | _ =>
    let w := s.writeBytesVa p 10 va 1 0 data poison
    w.2.copyReason ch w.1

/-- Bytes of a copy put where they go, in at most two lines; poison that moves stands in the queue's fence (R19). -/
def State.copyPut (s : State) (p : Nat) (ch : Handle) (va : Nat) (data : List Byte) (poison : Bool) : State :=
  let s := if poison then s.poisonFence (s.copyFence ch) else s
  let lo := 64 - va % 64
  let s := s.copyPiece p ch va (data.take lo) poison
  if data.length ≤ lo then s else s.copyPiece p ch (va + lo) (data.drop lo) poison

/-- Units that a request's sink takes (R245): lines land in their stream's cell store; bytes of a copy
go to their virtual address; a line of a peer that holds another version than the one expected is poisoned, and its
fence latches 0x9102 (R312). -/
def State.deliver (s : State) (r : Remote) (data : List Byte) (poison version : Nat) : State :=
  match r.sink with
  | .nothing => s
  | .ack _ => s
  | .lines c x first count =>
    let s := match s.transfer? c x with
      | some t => s.setTransfer { t with flights := t.flights.filter (fun f => !(f.remote && f.first == first)) }
      | none => s
    (List.range count).foldl (fun s i =>
      s.landLine c x (first + i) ⟨(data.drop (64 * i)).take 64, bit poison i, bit poison i, 0⟩) s
  | .bytes ch va skip n => s.copyPut r.part ch va ((data.drop skip).take n) (poison != 0)
  | .peer va expect v =>
    let stale := version != expect
    let s := if stale then s.latch r.fence 0x9102 false else s
    let b := bit poison 0 || stale
    let w := s.writeVa r.part 9 va v 0 (data.take 64) b
    let t := w.2.latch r.fence w.1 false
    if b then t.poisonFence r.fence else t

/-- READ_RESPONSE taken. -/
def State.takeResponse (s : State) (n : Nat) (data : List Byte) (h : Hdr) : State :=
  match s.waiting n h.tag [1] with
  | none => s
  | some r => (s.settle r).deliver r data h.poison h.version

/-- WRITE_ACKNOWLEDGEMENT (R245): the write is complete. -/
def execWriteAcknowledgement (n : Fin 16) (k : Packet) (s : State) : Host.Outcome State Fault Refusal :=
  .next (s.arrive n.val 5 k (fun h s =>
    match s.waiting n.val h.tag [3] with
    | none => s
    | some r => s.settle r))

/-- ATOMIC_RESPONSE (R246): the old word goes to the core that asked. -/
def execAtomicResponse (n : Fin 16) (k : Packet) (s : State) : Host.Outcome State Fault Refusal :=
  .next (s.arrive n.val 7 k (fun h s =>
    match s.waiting n.val h.tag [6] with
    | none => s
    | some r =>
      let s := s.settle r
      { s with fabric := { s.fabric with
          atomics := s.fabric.atomics ++ [(h.tag, ofLe (k.data.take 8), bit h.poison 0)] } }))

/-- A copy's request that fails leaves its reason in the copy. -/
def State.sinkFails (s : State) (r : Remote) (reason : Reason) : State :=
  match r.sink with
  | .bytes ch _ _ _ => s.copyReason ch reason
  | .ack ch => s.copyReason ch reason
  | _ => s

/-- The version that a request's sink expects; a line that never came is poisoned for that alone. -/
def Sink.version : Sink → Nat
  | .peer _ expect _ => expect
  | _ => 0

/-- A request has failed far away (R247): a read delivers poisoned zeros. -/
def State.requestFails (s : State) (r : Remote) (reason : Reason) : State :=
  let s := (s.settle r).sinkFails r reason
  if r.kind = 1 then s.deliver r (List.replicate (64 * r.units) 0) (2 ^ r.units - 1) r.sink.version else s

/-- FAILURE_NOTICE taken on port `n` (R247): the fence latches it, and the request that it names has failed. The
quarantine of a lent range (R201) and the failure of a group (R179) fault the borrower. A notice whose fence is not one
of the port's partition is discarded. -/
def State.takeFailure (s : State) (n : Nat) (h : Hdr) : State :=
  let p := s.reg (kPortOwner n)
  let live := (s.noticeFence p h.fence).isSome
  let s := s.takeNotice p h.fence h.reasonOp
  if live = false then s
  else
    let s := match s.waiting n h.tag [1, 3, 6] with
      | none => s
      | some r => if r.fence = h.fence then s.requestFails r h.reasonOp else s
    if h.reasonOp = 0x6502 ∨ h.reasonOp = 0x5403 then s.faultPart p h.reasonOp else s

/-- REMOTE_TIMEOUT (R248): a request outstanding for REMOTE_TIMEOUT_US fails at its issuer. -/
def execRemoteTimeout (tag : BitVec 16) (t : Nat) (s : State) : Host.Outcome State Fault Refusal :=
  let s := s.tick t
  match s.fabric.remotes.find? (fun r => r.tag == tag.toNat) with
  | none => .next s
  | some r =>
    if s.now < r.since + s.reg kRemoteTimeoutUs * 1000 then .next s
    else
      let s := ((s.settle r).latch r.fence 0x7601 false).event 0x07030007 0x7601 r.part
      .next ((s.sinkFails r 0x7601).faultPart r.part 0x7601)

end Sys2Proof.Machine
end

