-- ==== Sys2Proof/Machine/Collective.lean ====
section
/-! DEFINITION. The collective engine (R264 to R285): groups and shards, exact sums, what it sends and
receives, tile windows, norm accumulators and commit records. -/

namespace Sys2Proof.Machine

/-- The engine's UNIT_ID and UNIT (R54, R57). -/
def collUnit : Nat := 0x200
def engineUnit : Nat := 9

/-- The fields of a collective descriptor (R270). -/
structure CollDesc where
  kind    : Nat
  cop     : Nat
  level   : Nat
  maxOp   : Bool
  norm    : Bool
  commit  : Bool
  signal  : Bool
  slot    : Nat
  srcVer  : Nat
  dstVer  : Nat
  stgVer  : Nat
  count   : Nat
  group   : Nat
  lines   : Nat
  src     : Nat
  dst     : Nat
  normAddr : Nat
  stride  : Nat
  root    : Nat
  layer   : Nat
  deriving DecidableEq, Repr

/-- The record of R270 read. -/
def collDesc (d : Nat) : CollDesc :=
  ⟨fld d 0 4, fld d 4 4, fld d 8 3, bit d 11, bit d 12, bit d 13, bit d 14, fld d 16 4, fld d 24 8,
    fld d 32 8, fld d 40 8, fld d 48 10, fld d 64 32, fld d 96 32, fld d 128 64, fld d 192 64,
    fld d 256 64, fld d 320 32, fld d 352 14, fld d 384 32⟩

/-! ### Groups (R266 to R268, R272) -/

def Group.no (g : Group) : Nat := fld g.record 32 16
def Group.levels (g : Group) : Nat := fld g.record 48 3
def Group.myRank (g : Group) : Nat := fld g.record 64 14
def Group.members (g : Group) : Nat := fld g.record 80 15
def Group.radix (g : Group) (i : Nat) : Nat := fld g.record (96 + 6 * (i - 1)) 6 + 1
def Group.fence (g : Group) : Nat := fld g.record 144 32
def Group.contributors (g : Group) : Nat := fld g.record 176 15
def Group.staging (g : Group) : Nat := fld g.record 256 64
def Group.slotLines (g : Group) : Nat := fld g.record 320 32
def Group.orderGen (g : Group) : Nat := fld g.record 352 32

/-- The weight of a level's digit: the product of the radices below it (R267). -/
def Group.weight (g : Group) (i : Nat) : Nat := ((List.range (i - 1)).map (fun j => g.radix (j + 1))).foldl (· * ·) 1

/-- Digit of rank `r` at level `i`. -/
def Group.digit (g : Group) (r i : Nat) : Nat := r / g.weight i % g.radix i

/-- The rank that shares every digit of `r` but has digit `d` at level `i`. -/
def Group.peer (g : Group) (r i d : Nat) : Nat := r - g.digit r i * g.weight i + d * g.weight i

/-- The ranks that this module holds (R268). -/
def State.ranks (s : State) (g : Group) : List Nat :=
  (List.range g.mids.length).filter (fun r => g.mids.getD r 0 == s.reg kModuleId)

/-- Shard `d` of lines `[lo, hi)` among `n` (R272). -/
def shardOf (lo hi n d : Nat) : Nat × Nat := (lo + d * (hi - lo) / n, lo + (d + 1) * (hi - lo) / n)

/-- The region of rank `r` before an entry at level `i`. -/
def Group.region (g : Group) (r i lines : Nat) : Nat × Nat :=
  (List.range (i - 1)).foldl (fun x j => shardOf x.1 x.2 (g.radix (j + 1)) (g.digit r (j + 1))) (0, lines)

/-- Rank `r`'s own shard at level `i`. -/
def Group.own (g : Group) (r i lines : Nat) : Nat × Nat :=
  let x := g.region r i lines
  shardOf x.1 x.2 (g.radix i) (g.digit r i)

/-- A staging slot (R267). -/
def Group.slotAddr (g : Group) (i d : Nat) : Nat := g.staging + ((i - 1) * 64 + d) * g.slotLines * 64

def State.group? (s : State) (h : Handle) : Option Group := s.objs.groups.find? (fun g => g.handle == h)

/-! ### Lines of a buffer (R280, R281) -/

/-- Whether an address lies in the memory object that holds `base`. -/
def State.within (s : State) (p base a : Nat) : Bool :=
  match s.memobjAt p base with
  | some m => decide (m.base ≤ a) && decide (a + 64 ≤ m.base + m.size)
  | none => false

/-- A line of the buffer at `base` read for an entry whose errors latch in `fence`: beyond the object it
is zeros marked poisoned, with 0x7005 (R280). The last component counts lines beyond. -/
def State.collRead (s : State) (p fence base a ver : Nat) : List Byte × Bool × Nat × State :=
  if s.within p base a = false then (zeros64, true, 1, (s.latch fence 0x7005 false).poisonFence fence)
  else
    let r := (s.chargeSpan p false a 1).readVa p 7 a ver 0
    let t := (r.2.latch fence r.1.err false).closeRanges
    (r.1.data, r.1.poison, 0, if r.1.mark then t.poisonFence fence else t)

/-- A line written; beyond the object it is dropped. Answers how many lines lay beyond, and whether the line was
written. -/
def State.collWrite (s : State) (p fence base a ver : Nat) (data : List Byte) (poison : Bool) : Nat × Bool × State :=
  if s.within p base a = false then (1, false, s.latch fence 0x7005 false)
  else
    let r := (s.chargeSpan p true a 1).writeVa p 7 a ver 0 data poison
    let t := r.2.latch fence r.1 false
    (0, r.1 == 0, if poison then t.poisonFence fence else t)

/-- Lines beyond a buffer: counted, and one event for the entry, whichever of its parts meets them (R280). -/
def State.collOver (s : State) (p n : Nat) : State :=
  if n = 0 then s
  else
    let s := s.bumpReg kCollOverruns n
    if s.coll.overrun.contains p then s
    else { s with coll := { s.coll with overrun := s.coll.overrun ++ [p] } }.event 0x0702000B 0x7005 p

/-! ### Sums and norms (R265, R277) -/

/-- The FP32 elements of a line. -/
def f32s (data : List Byte) : List Nat := (chunksOf 4 17 data).map ofLe

/-- The contributions to a line combined: the exact sum rounded once, or the exact maximum. -/
def combine (maxOp : Bool) (parts : List (List Byte)) : List Byte :=
  let xs := parts.map f32s
  (List.range 16).flatMap (fun k =>
    let vs := xs.map (fun l => ofF32 (l.getD k 0))
    leBytes 4 (match vs with
      | [] => 0
      | v :: r => if maxOp then toF32 (r.foldl Val.max2 v) else toF32 (v.sum r)))

def Norm.zero : Norm := ⟨0, 0, false, false, false, 0⟩

/-- Exact squares of a line's elements added to an accumulator, with the flags of R278. -/
def Norm.addLine (n : Norm) (data : List Byte) (poison : Bool) : Norm :=
  let vs := (f32s data).map ofF32
  let fin := vs.filter (fun v => match v with
    | .fin _ _ _ => true
    | _ => false)
  let t := (Val.fin false n.mant n.exp).sum (fin.map (fun v => v.mul v))
  let x := match t with
    | .fin _ m e => (m, e)
    | _ => (n.mant, n.exp)
  ⟨x.1, x.2, n.nan || vs.any (· == .nan), n.inf || vs.any (fun v => v == .inf true || v == .inf false),
    n.poison || poison, n.part⟩

/-- Two accumulators together. -/
def Norm.merge (a b : Norm) : Norm :=
  let x := match (Val.fin false a.mant a.exp).add (.fin false b.mant b.exp) with
    | .fin _ m e => (m, e)
    | _ => (a.mant, a.exp)
  ⟨x.1, x.2, a.nan || b.nan, a.inf || b.inf, a.poison || b.poison, a.part⟩

/-- The accumulated sum rounded once to FP32. -/
def Norm.value (n : Norm) : Nat :=
  if n.nan then f32Nan else if n.inf then f32PosInf else toF32 (.fin false n.mant n.exp)

/-- An element line that an entry of partition `p` has written adds its squares to the engine's accumulator
NORM_SLOT (R264, R277). -/
def State.addNorm (s : State) (p : Nat) (x : CollDesc) (data : List Byte) (poison : Bool) : State :=
  if x.norm then
    let n := (tabGet s.coll.norms x.slot Norm.zero).addLine data poison
    { s with coll := { s.coll with norms := tabSet s.coll.norms x.slot { n with part := p } } }
  else s

/-! ### Arrivals (R274) -/

def countKey (p no level digit : Nat) : Nat := p * 2 ^ 32 + no * 2 ^ 12 + level * 2 ^ 8 + digit

def State.countOf (s : State) (k : Nat) : Nat := tabGet s.coll.counts k 0

/-- The NaN elements of a line; every other element 0. -/
def nanLine (data : List Byte) : List Byte :=
  (f32s data).flatMap (fun v => leBytes 4 (if ofF32 v == .nan then v else 0))

/-- What is kept of a line that arrives poisoned, since the tier keeps its mark alone: its NaN elements, so that
the result is NaN as well as poisoned (R283). -/
def State.keepNan (s : State) (q va : Nat) (data : List Byte) (poison : Bool) : State :=
  let k := q * 2 ^ 50 + va
  let l := nanLine data
  { s with coll := { s.coll with nans :=
      if poison && l != zeros64 then tabSet s.coll.nans k l else tabErase s.coll.nans k } }

/-- Collective data at partition `q`: the reason of a notice, 0 when it was taken. Only lines that were written
add their squares (R277). -/
def State.collReceive (s : State) (q : Nat) (h : Hdr) (data : List Byte) : Reason × State :=
  let va := h.addr % 2 ^ 50
  match s.objs.groups.find? (fun g => hPart g.handle == q && decide (2 ≤ g.state) && g.no == h.tag) with
  | none => (0x7305, s)
  | some g =>
    let n := h.len + 1
    if (List.range n).any (fun i => (s.memobjAt q (va + 64 * i)).isNone) then (0x7005, s)
    else
      let r := (List.range n).foldl (fun (acc : Reason × List Nat × State) i =>
        let line := (data.drop (64 * i)).take 64
        let w := acc.2.2.writeVa q 7 (va + 64 * i) h.version 0 line (bit h.poison i)
        (if acc.1 = 0 then w.1 else acc.1, if w.1 = 0 then acc.2.1 ++ [i] else acc.2.1,
          w.2.keepNan q (va + 64 * i) line (bit h.poison i))) (0, [], s)
      let s := r.2.2
      if 1 ≤ h.stage ∧ h.stage ≤ 7 then
        let span := 64 * g.slotLines
        let off := va - g.slotAddr h.stage 0
        if span = 0 ∨ va < g.slotAddr h.stage 0 ∨ 64 * span ≤ off then (r.1, s)
        else
          let k := countKey q g.no h.stage (off / span)
          (r.1, { s with coll := { s.coll with counts := tabSet s.coll.counts k (s.countOf k + n) } })
      else if 8 ≤ h.stage ∧ h.stage ≤ 14 then
        let k := countKey q g.no (15 - h.stage) 0
        let b := r.2.1.foldl (fun (b : Norm) i => b.addLine ((data.drop (64 * i)).take 64) (bit h.poison i))
          (tabGet s.coll.buckets k Norm.zero)
        (r.1, { s with coll := { s.coll with buckets := tabSet s.coll.buckets k b } })
      else (r.1, s)

/-! ### Checks at issue (R282) -/

/-- Whether a buffer's address is in near memory, and with it every line of the buffer that lies in its object. -/
def State.nearBuffer (s : State) (p base a n : Nat) : Bool :=
  a % 64 == 0 && s.inNear p a &&
    (match s.memobjAt p base with
      | none => false
      | some m => (List.range (min n ((m.base + m.size - a) / 64))).all (fun i => s.inNear p (a + 64 * i)))

/-- The check of a descriptor's GROUP (R17, R282). A group that was destroyed while an entry of it ran, or whose
slot stands free since, is refused as R283 says (log entry 111). -/
def State.groupHandle (s : State) (p h : Nat) : Reason :=
  let r := s.checkHandle 7 7 p h
  if r = 0x72F0 ∧ s.objs.groups.all (fun x => hIndex x.handle != hIndex h) then 0x7207 else r

/-- Whether the region of an entry, or the shards that it reads from staging, break R282. -/
def State.badStaging (s : State) (p : Nat) (x : CollDesc) (g : Group) : Bool :=
  x.cop == 3 && (s.ranks g).any (fun r =>
    let u := g.region r x.level x.lines
    let o := g.own r x.level x.lines
    decide (g.slotLines < u.2 - u.1) ||
      ((List.range (g.radix x.level)).filter (fun d => d != g.digit r x.level)).any (fun d =>
        !s.nearBuffer p g.staging (g.slotAddr x.level d) (o.2 - o.1)))

/-- The checks of R282 and of R275, after that of R87. Every address field is checked (R270), and each source of a
LOCAL_SUM. -/
def State.collCheck (s : State) (p a : Nat) (x : CollDesc) : Reason :=
  let hr := if x.cop = 2 then 0 else s.groupHandle p x.group
  let g := if hr = 0 ∧ x.cop ≠ 2 then s.group? x.group else none
  let levels := match g with
    | some g => g.levels
    | none => 7
  let srcs := if x.cop = 2 then (List.range (x.count + 1)).map (fun k => x.src + 64 * k * x.stride) else [x.src]
  let n := if x.cop = 2 ∨ x.cop = 3 ∧ x.level = 1 then x.lines else 1
  firstOf [
    (!s.inNear p a, 0x100C),
    (x.kind != 6 || x.cop == 0 || decide (6 ≤ x.cop), 0x7007),
    (if x.cop < 3 then x.level != 0 else x.level == 0 || decide (levels < x.level), 0x7008),
    (!s.nearBuffer p x.dst x.dst x.lines || !srcs.all (fun b => s.nearBuffer p x.src b n) ||
      x.normAddr % 64 != 0 || !s.inNear p x.normAddr || g.any (s.badStaging p x), 0x7109),
    (hr != 0, hr),
    (g.any (fun g => g.state != 2 && g.state != 3 || g.cut), 0x7207),
    (x.cop == 1 && s.coll.windows.any (fun w => w.part == p && w.cluster == x.count), 0x7206)]

/-- Whether a collective entry reads lines of an open window that are not written yet (R275). -/
def State.collAwaits (s : State) (p : Nat) (x : CollDesc) : Bool :=
  match x.cop with
  | 1 => false
  | 2 => (List.range (x.count + 1)).any (fun k => s.windowPends p (x.src + 64 * k * x.stride) x.lines)
  | 3 => s.windowPends p (if x.level = 1 then x.src else x.dst) x.lines
  | _ => s.windowPends p x.dst x.lines

/-! ### What an entry does -/

/-- The exact sum of several local sources (R271, COP 2). -/
def State.localSum (s : State) (p : Nat) (x : CollDesc) : State :=
  let r := (List.range x.lines).foldl (fun (acc : Nat × State) i =>
    let rd := (List.range (x.count + 1)).foldl (fun (a : List (List Byte) × Bool × Nat × State) k =>
      let o := a.2.2.2.collRead p 0 x.src (x.src + 64 * (k * x.stride + i)) x.srcVer
      (a.1 ++ [o.1], a.2.1 || o.2.1, a.2.2.1 + o.2.2.1, o.2.2.2)) ([], false, acc.1, acc.2)
    let line := combine x.maxOp rd.1
    let w := rd.2.2.2.collWrite p 0 x.dst (x.dst + 64 * i) x.dstVer line rd.2.1
    (rd.2.2.1 + w.1, if w.2.1 then w.2.2.addNorm p x line rd.2.1 else w.2.2)) (0, s)
  r.2.collOver p r.1

/-- Lines sent to a peer in packets of at most sixteen (R273); a peer rank that this module holds is
served here (R14). -/
def State.sendShard (s : State) (p module va stage ver : Nat) (g : Group) (lines : List (List Byte × Bool)) : State :=
  ((chunksOf 16 (lines.length + 1) lines).zipIdx).foldl (fun s e =>
    let data := e.1.flatMap (·.1)
    let poison := ofBits ((e.1.zipIdx.filter (fun y => y.1.2)).map (·.2))
    let h : Hdr := ⟨9, 2, 0, p, 0, s.reg kModuleId, e.1.length - 1, stage, g.no, ver, 0,
      module * 2 ^ 50 + (va + 1024 * e.2) % 2 ^ 50, g.fence, 0, poison⟩
    if module = s.reg kModuleId then
      let r := s.collReceive p h data
      r.2.latch g.fence r.1 false
    else (s.sendPacket p h data).2) s

/-- The lines that one rank sends to one peer: where from, where to, and which (R271). -/
def State.sendRank (s : State) (p : Nat) (x : CollDesc) (g : Group) (r : Nat) : Nat × State :=
  let i := x.level
  let d := g.digit r i
  let reg := g.region r i x.lines
  let rs := decide (x.cop = 3)
  let from1 := rs && decide (i = 1)
  let base := if from1 then x.src else x.dst
  let ver := if from1 then x.srcVer else x.dstVer
  let zero := from1 && decide (r ≠ g.myRank)
  ((List.range (g.radix i)).filter (fun d2 => d2 != d)).foldl (fun (acc : Nat × State) d2 =>
    let span := if rs then shardOf reg.1 reg.2 (g.radix i) d2
      else if x.cop = 4 then shardOf reg.1 reg.2 (g.radix i) d else (0, x.lines)
    let rd := (List.range (span.2 - span.1)).foldl (fun (a : List (List Byte × Bool) × Nat × State) j =>
      if zero then (a.1 ++ [(zeros64, false)], a.2.1, a.2.2)
      else
        let o := a.2.2.collRead p g.fence base (base + 64 * (span.1 + j)) ver
        (a.1 ++ [(o.1, o.2.1)], a.2.1 + o.2.2.1, o.2.2.2)) ([], acc.1, acc.2)
    let va := if rs then g.slotAddr i d else x.dst + 64 * span.1
    (rd.2.1, rd.2.2.sendShard p (g.mids.getD (g.peer r i d2) 0) va (if rs then i else 15 - i)
      (if rs then x.stgVer else x.dstVer) g rd.1)) (acc0, s)
where
  /-- No line beyond a buffer yet. -/
  acc0 : Nat := 0

/-- Whether rank `r` sends at the entry's level: always, but for a BROADCAST only where its digits from
LEVEL upwards are ROOT's (R271). -/
def Group.sends (g : Group) (x : CollDesc) (r : Nat) : Bool :=
  x.cop != 5 || (decide (x.root < g.members) &&
    (List.range g.levels).all (fun j => decide (j + 1 < x.level) || g.digit r (j + 1) == g.digit x.root (j + 1)))

/-- Every exchange of every rank that this module holds (R268). -/
def State.sendAll (s : State) (p : Nat) (x : CollDesc) (g : Group) : State :=
  let r := ((s.ranks g).filter (g.sends x)).foldl (fun (acc : Nat × State) r =>
    let o := acc.2.sendRank p x g r
    (acc.1 + o.1, o.2)) (0, s)
  r.2.collOver p r.1

/-- Lines that a REDUCE_SCATTER needs from each sending digit, for the first ranks of those that this module
holds (R274). -/
def Group.needs (g : Group) (x : CollDesc) (rs : List Nat) (d : Nat) : Nat :=
  ((rs.filter (fun r => g.digit r x.level != d)).map (fun r =>
    let o := g.own r x.level x.lines
    o.2 - o.1)).sum

/-- Whether line `j` of rank `r`'s shard can be summed: the count of every peer has passed it (R274). Counts go on
from rank to rank, where this module holds several. -/
def State.lineIn (s : State) (p : Nat) (g : Group) (x : CollDesc) (r j : Nat) : Bool :=
  (List.range (g.radix x.level)).all (fun d => d == g.digit r x.level ||
    decide (g.needs x ((s.ranks g).takeWhile (· != r)) d + j < s.countOf (countKey p g.no x.level d)))

/-- The lines of the shards that this module sums in an entry: rank and line of its shard, in order. -/
def State.sumLines (s : State) (g : Group) (x : CollDesc) : List (Nat × Nat) :=
  (s.ranks g).flatMap (fun r =>
    let o := g.own r x.level x.lines
    (List.range (o.2 - o.1)).map (fun j => (r, j)))

/-- A peer's contribution read from its staging slot, with the NaN elements that its poison hides (R283). -/
def State.slotRead (s : State) (p : Nat) (g : Group) (x : CollDesc) (d j : Nat) : List Byte × Bool × Nat × State :=
  let a := g.slotAddr x.level d + 64 * j
  let y := s.collRead p g.fence (g.slotAddr x.level d) a x.srcVer
  (if y.2.1 then tabGet s.coll.nans (p * 2 ^ 50 + a) y.1 else y.1, y.2)

/-- Line `j` of rank `r`'s shard of a REDUCE_SCATTER summed and written (R265, R268, R280, R281). -/
def State.sumLine (s : State) (p : Nat) (x : CollDesc) (g : Group) (r j : Nat) : State :=
  let i := x.level
  let first := decide (i = 1)
  let base := if first then x.src else x.dst
  let ver := if first then x.srcVer else x.dstVer
  let o := g.own r i x.lines
  let d := g.digit r i
  let mine := if first && decide (r ≠ g.myRank) then (zeros64, false, 0, s)
    else s.collRead p g.fence base (base + 64 * (o.1 + j)) ver
  let rd := ((List.range (g.radix i)).filter (fun d2 => d2 != d)).foldl
    (fun (a : List (List Byte) × Bool × Nat × State) d2 =>
      let y := a.2.2.2.slotRead p g x d2 j
      (a.1 ++ [y.1], a.2.1 || y.2.1, a.2.2.1 + y.2.2.1, y.2.2.2))
    ([mine.1], mine.2.1, mine.2.2.1, mine.2.2.2)
  let line := if g.members = 1 then mine.1 else combine x.maxOp rd.1
  let w := rd.2.2.2.collWrite p g.fence x.dst (x.dst + 64 * (o.1 + j)) x.dstVer line rd.2.1
  (if w.2.1 then w.2.2.addNorm p x line rd.2.1 else w.2.2).collOver p (rd.2.2.1 + w.1)

/-- The counts that an entry has used up go. -/
def State.useCounts (s : State) (p : Nat) (x : CollDesc) (g : Group) : State :=
  let counts := (List.range (g.radix x.level)).foldl (fun t d =>
    let k := countKey p g.no x.level d
    tabSet t k (tabGet t k 0 - g.needs x (s.ranks g) d)) s.coll.counts
  { s with coll := { s.coll with counts := counts, waits := tabErase s.coll.waits p } }

/-- A REDUCE_SCATTER sums every line that the counts have passed, from the first that it has not summed on; the
last one ends its wait (R274). -/
def State.reduce (s : State) (p : Nat) (x : CollDesc) (g : Group) : State :=
  let all := s.sumLines g x
  let done := tabGet s.coll.waits p 0
  let now := (all.drop done).takeWhile (fun e => s.lineIn p g x e.1 e.2)
  let s := now.foldl (fun s e => s.sumLine p x g e.1 e.2) s
  let done := done + now.length
  if all.length ≤ done then s.useCounts p x g
  else { s with coll := { s.coll with waits := tabSet s.coll.waits p done } }

/-- The bound of R276 in ns, for the packets of an entry: bytes per port at the collective slice, and
the hops of the farthest peer. -/
def State.collBound (s : State) (p : Nat) (x : CollDesc) (g : Group) : Nat :=
  let peers := ((s.ranks g).filter (g.sends x)).flatMap (fun r =>
    let reg := g.region r x.level x.lines
    ((List.range (g.radix x.level)).filter (fun d => d != g.digit r x.level)).map (fun d =>
      let span := if x.cop = 3 then shardOf reg.1 reg.2 (g.radix x.level) d
        else if x.cop = 4 then shardOf reg.1 reg.2 (g.radix x.level) (g.digit r x.level) else (0, x.lines)
      (s.fwdEntry p (g.mids.getD (g.peer r x.level d) 0), (span.2 - span.1) * 64 + ceilDiv (span.2 - span.1) 16 * 32)))
  let rate := s.reg (kPortCollShare p) * 188000 / 32
  let perPort := fun (n : Nat) => ((peers.filter (fun e => fwdPort e.1 == n)).map (·.2)).sum
  let q := (List.range 16).foldl (fun m n => max m (perPort n)) 0
  let h := peers.foldl (fun m e => max m (fwdHops e.1)) 0
  2000 + (if rate = 0 then 0 else ceilDiv (q * 1000) rate) + 280 + h * 650

/-- The partition's waiting sum goes on as its counts come in; what it waited beyond its bound is late (R55,
R274). -/
def State.tryReduce (s : State) (p : Nat) : State :=
  let d := tabGet s.coll.active p 0
  let x := { collDesc d with cop := 3 }
  match s.group? x.group with
  | none => s
  | some g =>
    if s.coll.waits.any (fun w => w.1 == p) then
      let t := s.reduce p x g
      if t.coll.waits.any (fun w => w.1 == p) then t
      else
        let due := match s.running.find? (fun r => r.part == p && r.unitId == collUnit) with
          | some r => r.since + s.collBound p x g
          | none => s.now
        if due < s.now then t.lateSince p collUnit due else t
    else s

/-- COLLECTIVE_DATA (R274): taken for the partition whose port it came in on, once it has passed R241. -/
def execCollectiveData (n : Fin 16) (k : Packet) (s : State) : Host.Outcome State Fault Refusal :=
  .next (s.arrive n.val 9 k (fun h s =>
    match s.requester n.val h with
    | .ok (.part q) =>
      let r := s.collReceive q h k.data
      (if r.1 ≠ 0 then r.2.notice n.val h (remoteReason r.1) else r.2).tryReduce q
    | .ok (.lent _ _) => s.notice n.val h 0x7301
    | .error r => s.refuseRequest n.val h r))

/-! ### Completion (R277 to R279) -/

/-- The bytes of a commit record. -/
def commitBytes (n : Norm) (layer contributors orderGen : Nat) (empty : Bool) : List Byte :=
  let n := if empty then Norm.zero else n
  leBytes 16 (n.value + layer * 2 ^ 32 + contributors * 2 ^ 64 + b2n n.poison * 2 ^ 80 + b2n n.nan * 2 ^ 81 +
    b2n n.inf * 2 ^ 82 + orderGen * 2 ^ 96)

/-- A collective entry ends: the norm that an ALL_GATHER's or BROADCAST's arrivals brought joins its
slot, and a COMMIT entry writes its record and clears the slot. -/
def State.collFinish (s : State) (p : Nat) : State :=
  let x := collDesc (tabGet s.coll.active p 0)
  let s := { s with coll := { s.coll with active := tabErase s.coll.active p, overrun := s.coll.overrun.filter (fun q => q != p) } }
  let g := if x.cop = 2 then none else s.group? x.group
  let no := match g with
    | some g => g.no
    | none => 0
  let k := x.slot
  let bk := countKey p no x.level 0
  let s := if 4 ≤ x.cop then
      let c := s.coll
      { s with coll := { c with
          norms := if x.norm then tabSet c.norms k { (tabGet c.norms k Norm.zero).merge (tabGet c.buckets bk Norm.zero) with part := p }
                   else c.norms
          buckets := tabErase c.buckets bk } }
    else s
  if x.commit = false then s
  else
    let n := tabGet s.coll.norms k Norm.zero
    let rec_ := commitBytes n x.layer (match g with
      | some g => g.contributors
      | none => 0) (match g with
      | some g => g.orderGen
      | none => 0) (x.lines == 0)
    let fence := match g with
      | some g => g.fence
      | none => 0
    let w := (s.chargeSpan p true x.normAddr 1).patchVa p 7 x.normAddr x.dstVer 0 rec_ false
    let s := w.2.latch fence w.1 false
    let s := { s with coll := { s.coll with
        norms := tabErase s.coll.norms k
        commits := s.coll.commits ++ [⟨p, x.normAddr, x.dstVer, fence, rec_⟩] } }
    if n.poison ∧ x.lines ≠ 0 then s.event 0x0702000C 0 p else s

/-- A collective entry, its COP as its command says unless reserved: refused under R282, or run. What
it reads to send is read at issue; a REDUCE_SCATTER sums what its counts have passed and waits for the rest. A
TILE_SINK, and an entry of no lines, are complete at issue (R275, R280). -/
def State.collEntry (cop a d p : Nat) (s : State) : State :=
  let x := collDesc d
  let x := if 1 ≤ x.cop ∧ x.cop ≤ 5 then { x with cop := cop } else x
  let r := s.collCheck p a x
  if r ≠ 0 then s.refuseEntry p kCollRefusal 0x0703000A r
  else
    let g := if x.cop = 2 then none else s.group? x.group
    let signal := if x.signal then (match g with
      | some g => g.fence
      | none => 0) else 0
    let s := { s with coll := { s.coll with active := tabSet s.coll.active p d } }
    let run := fun (s : State) (ns : Nat) =>
      s.runEntry ⟨p, collUnit, engineUnit, s.now, ns * s.fCore p / 1000, [], none, none, 0, signal, none, none⟩
    if x.lines = 0 then ((s.bumpReg kEmptyCollectives 1).collFinish p).signalOr signal 1
    else
      match x.cop, g with
      | 1, _ =>
        let w : TileWindow := ⟨p, x.count, x.group, d, 0⟩
        ({ s with coll := { s.coll with windows := s.coll.windows ++ [w] } }.collFinish p).signalOr signal 1
      | 2, _ => run (s.localSum p x) (2000 + ((x.count + 1) * 64 * x.lines) / 8000)
      | 3, some g =>
        let s := s.sendAll p x g
        (run s (s.collBound p x g)).reduce p x g
      | _, some g => run (s.sendAll p x g) (s.collBound p x g)
      | _, none => s

/-- An entry of the collective plan. -/
def State.issueColl (s : State) (p cop a d : Nat) (entry : Instr) : State :=
  s.issue p collUnit engineUnit a (s.collAwaits p { collDesc d with cop := cop }) entry (State.collEntry cop a d p)

/-- The collective operations of R271. -/
def execTileSink (p : Fin 8) (a : BitVec 64) (d : Desc) (s : State) : Host.Outcome State Fault Refusal :=
  .next (s.issueColl p.val 1 a.toNat d.toNat (.tileSink p a d))
def execLocalSum (p : Fin 8) (a : BitVec 64) (d : Desc) (s : State) : Host.Outcome State Fault Refusal :=
  .next (s.issueColl p.val 2 a.toNat d.toNat (.localSum p a d))
def execReduceScatter (p : Fin 8) (a : BitVec 64) (d : Desc) (s : State) : Host.Outcome State Fault Refusal :=
  .next (s.issueColl p.val 3 a.toNat d.toNat (.reduceScatter p a d))
def execAllGather (p : Fin 8) (a : BitVec 64) (d : Desc) (s : State) : Host.Outcome State Fault Refusal :=
  .next (s.issueColl p.val 4 a.toNat d.toNat (.allGather p a d))
def execBroadcast (p : Fin 8) (a : BitVec 64) (d : Desc) (s : State) : Host.Outcome State Fault Refusal :=
  .next (s.issueColl p.val 5 a.toNat d.toNat (.broadcast p a d))

/-- The boundary that ends a gust commits its reductions (R279): COMMITTED, bit 83, is set. -/
def State.commitGust (s : State) (p : Nat) : State :=
  let mine := s.coll.commits.filter (fun c => c.part == p)
  let s := { s with coll := { s.coll with commits := s.coll.commits.filter (fun c => c.part != p) } }
  mine.foldl (fun s c =>
    let w := s.patchVa p 7 c.addr c.version 0 (leBytes 16 (setBit (ofLe c.data) 83)) false
    (w.2.latch c.fence w.1 false).bumpReg kCommits 1) s

/-! ### Tile forwarding (R275) -/

/-- A tile fault: recorded with the engine's refusals. -/
def State.tileFault (s : State) (p c : Nat) (r : Reason) : State :=
  ((s.setReg kCollRefusal r).event 0x0703000A r c).faultPart p r

/-- The rows of a finished array entry with OUT_DEST 2 go to its cluster's window, in order from its first unwritten
line; what falls beyond is dropped and poisons the window's last line. Lines beyond the window and beyond its buffer
are counted together, with one event for the array entry (R275). An entry without rows is checked as any other. -/
def State.forwardTiles (s : State) (p c fmtY : Nat) (rows : List TileRow) : State :=
  if fmtY ≠ 0 then s.tileFault p c 0x7204
  else
    match s.coll.windows.find? (fun w => w.part == p && w.cluster == c) with
    | none => s.tileFault p c 0x7205
    | some w =>
      let x := collDesc w.desc
      let fence := match s.group? w.group with
        | some g => g.fence
        | none => 0
      let lines := rows.flatMap (fun r =>
        (chunksOf 16 (r.vals.length + 1) r.vals).map (fun l => (padTo 64 0 (l.flatMap (leBytes 4)), r.poison)))
      let room := x.lines - w.rows
      let r := ((lines.take room).zipIdx).foldl (fun (acc : Nat × State) e =>
        let o := acc.2.collWrite p fence x.dst (x.dst + 64 * (w.rows + e.2)) x.dstVer e.1.1 e.1.2
        (acc.1 + o.1, o.2.2)) (0, s)
      let s := r.2
      let done := w.rows + min room lines.length
      let rest := s.coll.windows.filter (fun y => !(y.part == p && y.cluster == c))
      let s := { s with coll := { s.coll with windows :=
          if x.lines ≤ done then rest else rest ++ [{ w with rows := done }] } }
      let drop := lines.length - room
      let s := if drop = 0 then s
        else
          let last := x.dst + 64 * (x.lines - 1)
          let rd := s.collRead p fence x.dst last x.dstVer
          let wr := rd.2.2.2.collWrite p fence x.dst last x.dstVer rd.1 true
          (wr.2.2.latch fence 0x7005 false).poisonFence fence
      let n := r.1 + drop
      if n = 0 then s else (s.bumpReg kCollOverruns n).event 0x0702000B 0x7005 c

end Sys2Proof.Machine
end

