-- ==== Sys2Proof/Machine/Sampler.lean ====
section
/-! DEFINITION. The samplers (R153 to R159), the job secret and the generator's source (R147 to R150). -/

namespace Sys2Proof.Machine

/-- The fields of a sampler descriptor (R153). -/
structure SampleDesc where
  kind   : Nat
  fmt    : Nat
  rows   : Nat
  vocab  : Nat
  topK   : Nat
  temp   : Nat
  topP   : Nat
  stream : Nat
  pos    : Nat
  logits : Nat
  stride : Nat
  out    : Nat
  deriving DecidableEq, Repr

/-- The record of R153 read. -/
def sampleDesc (d : Nat) : SampleDesc :=
  ⟨fld d 0 4, fld d 4 2, fld d 16 10, fld d 32 21, fld d 64 11, fld d 96 32, fld d 128 32, fld d 160 16,
    fld d 192 48, fld d 256 64, fld d 320 32, fld d 384 64⟩

/-- TEMPERATURE is +0, or finite and positive (R153). -/
def tempOk (t : Nat) : Bool := t == 0 || (!bit t 31 && f32isFinite t && f32lt 0 t)

/-- The checks of R157, after that of R87. -/
def State.sampleCheck (s : State) (p a : Nat) (x : SampleDesc) : Reason :=
  firstOf [
    (!s.inNear p a, 0x100C),
    (x.kind != 4 || x.fmt == 3, 0x2001),
    (decide (512 < x.rows) || decide (0x100000 < x.vocab) || decide (1024 < x.topK), 0x2002),
    (!tempOk x.temp, 0x2003),
    (!immProbabilityP x.topP, 0x2004),
    (x.out % 16 != 0, 0x2005)]
where
  /-- TOP_P in (0, 1]. -/
  immProbabilityP (p : Nat) : Bool := f32lt 0 p && f32le p f32One

/-- A result record (R154). -/
structure SampleRec where
  token : Nat
  prob  : Nat
  kept  : Nat
  empty : Bool
  pinf  : Bool
  isNan : Bool
  poison : Bool
  short : Bool
  greedy : Bool
  deriving DecidableEq, Repr

/-- No token. R154 gives such a record no PROB and no KEPT; both are 0 (DESIGN CHOICE, log entry 121). -/
def SampleRec.blank : SampleRec := ⟨0xFFFFFFFF, 0, 0, false, false, false, false, false, false⟩

/-- The 16 bytes of a record. -/
def SampleRec.bytes (r : SampleRec) : List Byte :=
  leBytes 16 (r.token + r.prob * 2 ^ 32 + r.kept * 2 ^ 64 + b2n r.empty * 2 ^ 80 + b2n r.pinf * 2 ^ 81 +
    b2n r.isNan * 2 ^ 82 + b2n r.poison * 2 ^ 83 + b2n r.short * 2 ^ 84 + b2n r.greedy * 2 ^ 85)

/-- An entry inserted into a list that falls by the key, after those of an equal key. -/
def insertDesc (e : Nat × Nat) : List (Nat × Nat) → List (Nat × Nat)
  | [] => [e]
  | x :: r => if f32lt x.2 e.2 then e :: x :: r else x :: insertDesc e r

/-- The `k` largest of an indexed list, falling, ties to the lower index. -/
def topOf (k : Nat) (l : List (Nat × Nat)) : List (Nat × Nat) :=
  l.foldl (fun acc e => (insertDesc e acc).take k) []

/-- The running FP32 sums of a list. -/
def runningSums (l : List Nat) : List Nat :=
  (l.foldl (fun (acc : Nat × List Nat) w => let t := f32add acc.1 w; (t, acc.2 ++ [t])) (0, [])).2

/-- The pick of a token among weighted candidates: the first whose running sum exceeds u × S_kept,
else the last. -/
def pickToken (u : Nat) (cands : List (Nat × Nat)) : Nat :=
  let sums := runningSums (cands.map (·.2))
  let bar := f32mul u (sums.getLast?.getD 0)
  match (cands.zip sums).find? (fun e => f32lt bar e.2) with
  | some e => e.1.1
  | none => (cands.getLast?.map (·.1)).getD 0xFFFFFFFF

/-- One row decided (R155): logits as FP32 patterns, the table revision and the word. TOP_P 1.0 turns the cut off
(R153), so that all of C is kept; P_SHORT still tells whether its mass is below TOP_P (R154). -/
def sampleRow (rev temp topK topP word : Nat) (poison : Bool) (xs : List Nat) : SampleRec :=
  let idx := xs.zipIdx.map (fun e => (e.2, e.1))
  if poison then { SampleRec.blank with poison := true }
  else if xs.any f32isNan then { SampleRec.blank with isNan := true }
  else if xs.all (fun x => x == f32NegInf) then { SampleRec.blank with empty := true }
  else if temp = 0 then
    let m := xs.foldl f32max f32NegInf
    match idx.find? (fun e => f32eq e.2 m) with
    | some e => { SampleRec.blank with token := e.1, prob := f32One, kept := 1, greedy := true }
    | none => SampleRec.blank
  else
    let k := if topK = 0 then 1024 else topK
    let u := toF32 (.fin false (u24 word) (-24))
    let z := idx.map (fun e => (e.1, f32div e.2 temp))
    let infs := z.filter (fun e => e.2 == f32PosInf)
    if infs.isEmpty = false then
      let c := infs.take k
      let w := f32div f32One (f32ofInt c.length)
      let t := pickToken u (c.map (fun e => (e.1, w)))
      { SampleRec.blank with token := t, prob := w, kept := c.length, pinf := true }
    else
      let m := (z.map (·.2)).foldl f32max f32NegInf
      let ex := fun (v : Nat) => builtin rev 0 (f32sub v m)
      let total := blockSum 0 (z.map (fun e => ofF32 (ex e.2)))
      let c := topOf k z
      let masses := runningSums (c.map (fun e => f32div (ex e.2) total))
      let reach := (masses.takeWhile (fun t => !f32le topP t)).length
      let short := decide (c.length ≤ reach)
      let kept := if topP = f32One then c else c.take (reach + 1)
      let t := pickToken u (kept.map (fun e => (e.1, ex e.2)))
      let e := match kept.find? (fun x => x.1 == t) with
        | some x => ex x.2
        | none => 0
      { SampleRec.blank with token := t, prob := f32div e total, kept := kept.length, short := short }

/-- A sampler's error latches in the fences of its partition's job: its descriptor names none (log
entry 14). -/
def State.sampleErr (s : State) (p : Nat) (r : Reason) : State :=
  if r = 0 then s else (s.jobFences p).foldl (fun t h => t.latch h r false) s

/-- A row's record that is poisoned marks the fences that the sampler's writes reach (R19, R155), those of the
partition's job (log entry 14). -/
def State.samplePoison (s : State) (p : Nat) (b : Bool) : State :=
  if b then (s.jobFences p).foldl (fun t h => t.poisonFence h) s else s

/-- Row `r` of a sampler entry: read in two passes (R156), decided and written. The descriptor names no version of
its memory objects: 1 is expected and written (DESIGN CHOICE, log entry 119). -/
def State.sampleOne (s : State) (p u : Nat) (x : SampleDesc) (r : Nat) : State :=
  let w := vBytes x.fmt
  let a := x.logits + r * x.stride
  let n := (spanLines a (x.vocab * w)).2
  let s := (s.chargeSpan p false (a / 64 * 64) n).chargeSpan p false (a / 64 * 64) n
  let i := s.readBytesVa p 2 a (x.vocab * w) 1 0
  let s := (i.2.sampleErr p i.1.err).closeRanges
  let xs := (chunksOf w (x.vocab + 1) i.1.data).map (fun b => toF32 ((vFmt x.fmt).decode (ofLe b)))
  let o := sampleRow (s.reg kBuiltinTableRev) x.temp x.topK x.topP
    (s.word p (0x203 + u) x.stream (x.pos + r)) i.1.poison xs
  let wr := s.writeBytesVa p 2 (x.out + 16 * r) 1 0 o.bytes o.poison
  let s := ((wr.2.sampleErr p wr.1).samplePoison p o.poison).bumpReg kRowsSampled 1
  let s := if o.token = 0xFFFFFFFF then s.bumpReg kRowsNoToken 1 else s
  let s := if o.short then s.bumpReg kRowsPShort 1 else s
  if o.isNan ∨ o.poison then s.event 0x02020003 0 r else s

/-- A sampler entry: refused under R157, or run. -/
def State.sampleEntry (u a d p : Nat) (s : State) : State :=
  let x := sampleDesc d
  let c := s.sampleCheck p a x
  if c ≠ 0 then s.refuseEntry p kSamplerRefusal 0x02030001 c
  else
    let s := (List.range x.rows).foldl (fun t r => t.sampleOne p u x r) s
    s.runEntry ⟨p, 0x203 + u, 9, s.now, (2000 + x.rows * (x.vocab + 100)) * s.fCore p / 1000, [], none, none, 0, 0, none, none⟩

/-- SAMPLE (R155). -/
def execSample (p : Fin 8) (u : Fin 4) (a : BitVec 64) (d : Desc) (s : State) :
    Host.Outcome State Fault Refusal :=
  .next (s.issue p.val (0x203 + u.val) 9 a.toNat false (.sample p u a d)
    (State.sampleEntry u.val a.toNat d.toNat p.val))

/-- The write of SAMPLER_ENABLE (R159): a bit that a binding needs cannot be cleared. -/
def samplerEnableOp (v : Nat) (s : State) : Reason × State :=
  let old := s.reg kSamplerEnable
  let blocked := (List.range 4).any (fun i =>
    bit old i && !bit v i && s.bindings.any (fun b => b.unitId == 0x203 + i))
  if blocked then (0x2201, s.setReg kSamplerRefusal 0x2201) else (0, s.setReg kSamplerEnable (v % 16))

/-- SAMPLER_ENABLE (R159). -/
def execSamplerEnable (r : Requester) (v : BitVec 8) (s : State) : Host.Outcome State Fault Refusal :=
  .next (s.writeU8 r 0x4802 0x05 false (samplerEnableOp v.toNat))

/-! ### The job secret (R147, R148, R150, R358) -/

/-- GEN_SOURCE of a partition as R150 gives it: the counter-based generator while the secret is loaded
and the partition runs. -/
def State.decideSource (s : State) (p : Nat) : State :=
  s.setGenSource p (!((s.part p).secret.isSome && (s.part p).state == stRunning))

/-- The generator key from the secret (R358). -/
def genKeyOf (secret : List Byte) (jobId : Nat) : List Nat :=
  let k := derive secret (ascii "GEN") (leBytes 4 jobId)
  (chunksOf 4 9 (k.take 32)).map ofLe

/-- A job secret is loaded for a partition: the generator key is derived, GEN_KEY_LOADED set, event
0x0200_0004. -/
def State.loadSecret (s : State) (p : Nat) (secret salt : List Byte) : State :=
  let s := s.setPart p { s.part p with secret := some secret, salt := salt
                                       genKey := genKeyOf secret (s.jobIdOf p) }
  ((s.setRegBit kGenKeyLoaded p true).event 0x02000004 0 p).decideSource p

/-- The job's secret sent to module `dest`, or to every other module of the job (R147, R148), with what goes with it. -/
def State.sendSecret (s : State) (p : Nat) (dest : Option Nat) : State :=
  match (s.part p).secret with
  | none => s
  | some k =>
    { s with sec := { s.sec with secretsOut := s.sec.secretsOut ++
        [⟨p, s.jobIdOf p, dest, k, (s.part p).salt, s.reg (kGustNumber p), s.reg (kCkptSeq p)⟩] } }

/-- The secret drawn for a job and sent to its other modules: the reason when the entropy source has failed
(R367). -/
def State.drawSecret (s : State) (p : Nat) : Reason × State :=
  match s.drbg 32 false with
  | none => (0xB504, s.setReg kSecRefusal 0xB504)
  | some (k, t) =>
    match t.drbg 32 false with
    | none => (0xB504, t)
    | some (salt, t) => (0, ((t.loadSecret p k salt).setReg (kCkptSeq p) 0).sendSecret p none)

/-- JOB_SECRET (R147, R148): the module that admits the job draws the secret; a module that joins
receives it with the job's gust number and, so that no CKPT_SEQ repeats within the job (R316), that number (DEDUCED,
log entry 122). Only a partition with an accepted charter has a job. -/
def execJobSecret (p : Fin 8) (src : SecretSource) (s : State) : Host.Outcome State Fault Refusal :=
  if (s.part p.val).charter.isNone ∨ lockedState (s.part p.val).state = false then .next s
  else
    match src with
    | .drawn => .next (s.drawSecret p.val).2
    | .received secret salt gust seq =>
      .next (((s.setReg (kGustNumber p.val) gust).setReg (kCkptSeq p.val) seq).loadSecret p.val secret salt)

end Sys2Proof.Machine
end

