-- ==== Sys2Proof/Machine/Jobs.lean ====
section
/-! DEFINITION. The job services' part in a step: snapshot triggers (R308, R309), the opening and the
end of a step (R69, R307, R316), and the charter's policies (R292, R298, R336). -/

namespace Sys2Proof.Machine

/-- The fence of an entry by its handle; 0 names none. -/
def State.latchOr (s : State) (h r : Nat) : State := if h = 0 then s else s.latch h r false

/-! ### Snapshot triggers (R308, R309) -/

/-- A trigger waits for the end of a drain or a load, and the wait counts (R309). -/
def State.deferTrigger (s : State) (p src : Nat) : State :=
  let j := s.job p
  ((s.setJob p { j with snapDeferred := setBit j.snapDeferred src, snapArmed := false }).bumpReg (kCkptDeferred p) 1).event
    0x09010009 0 p

/-- Trigger `src` of R308 (0 the steps, 1 the period, 2 CKPT_NOW) arms, or waits while a drain or a load runs (R309,
R325). One of the first two that waits already does not arm again; each write of CKPT_NOW does. -/
def State.armTrigger (s : State) (p src : Nat) : State :=
  let j := s.job p
  let st := s.reg (kCkptState p)
  if 3 ≤ st then (if bit j.snapDeferred src && src != 2 then s else s.deferTrigger p src)
  else
    let s := s.setJob p { j with snapArmed := true }
    if st = 0 then s.setReg (kCkptState p) 1 else s

/-- CKPT_EVERY_STEPS steps have ended since the last snapshot step. -/
def State.stepsDue (s : State) (p : Nat) : Bool :=
  s.reg (kCkptEverySteps p) != 0 && decide (s.reg (kCkptEverySteps p) ≤ (s.job p).stepsSince)

/-- CKPT_PERIOD_S seconds have passed since it. -/
def State.periodDue (s : State) (p : Nat) : Bool :=
  s.reg (kCkptPeriodS p) != 0 && decide ((s.job p).snapTime + s.reg (kCkptPeriodS p) * nsPerS ≤ s.now)

/-- A drain or a load has ended: CKPT_STATE is idle, and a trigger that waited arms. -/
def State.ckptIdle (s : State) (p : Nat) : State :=
  let j := s.job p
  let armed := j.snapArmed || j.snapDeferred != 0
  let s := s.setReg (kCkptState p) (b2n armed)
  s.setJob p { j with snapDeferred := 0, snapArmed := armed, loading := false }

/-! ### Policies (R292, R298, R336) -/

/-- A teardown of a running gust's partition takes effect at the next start boundary, where the job pauses
(R344). -/
def State.stopLater (s : State) (p : Nat) : State :=
  (s.setPart p { s.part p with stopping := true }).pauseRequest p

/-- The reason with which a hold for CLIP_FLAG is recorded: the spec gives none (log entry 15). -/
def clipReason : Reason := mkReason 8 2 (Config.clipHold % 256)

/-- The charter's action on CLIP_FLAG. -/
def State.clipPolicy (s : State) (p : Nat) : State :=
  match (s.part p).charter with
  | none => s
  | some c =>
    if c.clip = 1 then
      let s := s.faultPart p clipReason
      s.setJob p { s.job p with restoring := true }
    else if c.clip = 2 then s.stopLater p
    else s

/-- The reason of a fence latched under R298 or R317 that holds the job services back; 0 for none. -/
def State.badStep (s : State) (p : Nat) : Reason :=
  let of := fun (h : Nat) (codes : List Nat) => match s.fence? h with
    | some f => if f.err ∧ codes.contains f.reason then f.reason else 0
    | none => 0
  let u := of (s.reg (kUpdFence p)) [0x8502, 0x8103]
  if u ≠ 0 then u else of (s.reg (kCkptFence p)) [0x9502]

/-- The charter's action on such a fence; without a charter the job is held. -/
def State.badPolicy (s : State) (p : Nat) (r : Reason) : State :=
  let b := match (s.part p).charter with
    | some c => c.badStep
    | none => 1
  if b = 2 then s.stopLater p
  else
    let s := s.faultPart p r
    if b = 0 then s.setJob p { s.job p with restoring := true } else s

/-! ### Steps (R69, R307, R308, R316) -/

/-- The gust kind of the next step (R307): `snap` for a snapshot step. -/
def Job.kind (j : Job) (snap : Bool) : Nat :=
  if j.restoring then 5
  else if j.rejoining then 6
  else if j.recovery then 2
  else if j.standIns.isEmpty then b2n snap
  else 3 + b2n snap

/-- The fence of the step's shard reads has signalled, or reports its error (R69). -/
def State.ingestReady (s : State) (j : Job) : Bool :=
  j.ingestStep == 0 ||
    (match s.fence? j.ingestFence with
      | some f => f.err || decide ((j.opened + 1) * j.ingestStep ≤ f.value)
      | none => false)

/-- A snapshot step opens (R308, R316): CKPT_SEQ rises, and its COPY entries capture the step before. -/
def State.openSnapshot (s : State) (p : Nat) : State :=
  let j := s.job p
  ((s.setJob p { j with snapArmed := false, snapStep := s.reg (kUpdStep p) - 1, snapNorm := none
                        stepsSince := 0, snapTime := s.now, shards := [] }).bumpReg (kCkptSeq p) 1).setReg
    (kCkptState p) 2

/-- A due step opens at a start boundary, unless its shard data or a latched fence holds it back;
`false` when it did not open. Without a job there are no steps to open; a rejoin holds the boundary that would open
the next step until the job pauses for it (R324). -/
def State.openStep (s : State) (p : Nat) : Bool × State :=
  let j := s.job p
  let g := s.grid p
  if j.submitted = false ∨ g.stepDue = false then (true, s)
  else if j.rejoin.isSome then (false, s)
  else
    let bad := if j.restoring then 0 else s.badStep p
    if bad ≠ 0 then (false, s.badPolicy p bad)
    else if s.ingestReady j = false ∧ j.kind false ≠ 2 ∧ j.kind false < 5 then
      let s := s.bumpReg (kIngestSlips p) 1
      let s := if g.ingest then s else s.event 0x01010018 0 p
      (false, s.setGrid p { g with ingest := true })
    else
      let s := if s.stepsDue p then s.armTrigger p 0 else s
      let s := if s.periodDue p then s.armTrigger p 1 else s
      let j := s.job p
      let k := j.kind j.snapArmed
      let s := s.setReg (kGustKind p) k
      let s := if k = 1 ∨ k = 4 then s.openSnapshot p else s
      let s := s.setJob p { s.job p with opened := (s.job p).opened + (if k ≠ 2 ∧ k < 5 then 1 else 0) }
      (true, s.setGrid p { g with stepDue := false, ingest := false })

/-- A snapshot step is complete (R327): the drain begins, if it has a rate. A trigger that armed in the step waits for
the drain from here on (R309). -/
def State.endSnapshot (s : State) (p : Nat) : State :=
  if s.reg (kCkptState p) = 2 then
    let s := s.event 0x09000001 0 p
    if s.reg (kDrainBpu p) = 0 then s.ckptIdle p
    else
      let s := s.setReg (kCkptState p) 3
      if (s.job p).snapArmed then s.deferTrigger p 2 else s
  else s

/-- The end of a step (R403): JOB_FENCE advances, and the next step is due. A rejoin that waits for it pauses the job
(R324). -/
def State.stepEnded (s : State) (p : Nat) : State :=
  let s := (s.jobFences p).foldl (fun t h => t.signal h 1) s
  let j := s.job p
  let s := if j.recovery then
      ({ s with freeCount := s.freeCount + 1 }).bumpReg (kLayersSkipped p) (Config.layersSkipped s.freeCount)
    else s
  let s := (s.setJob p { j with stepsSince := j.stepsSince + 1, recovery := false }).endSnapshot p
  let s := s.setGrid p { s.grid p with stepDue := true }
  if j.rejoin.isSome then s.pauseRequest p else s

end Sys2Proof.Machine
end

