-- ==== Sys2Proof/Machine/Update.lean ====
section
/-! DEFINITION. The update engine (R286 to R306): step state and norm, the optimiser's arithmetic, refused
chunks, and its settings. -/

namespace Sys2Proof.Machine

/-- The engine's UNIT_ID (R57). -/
def updUnit : Nat := 0x201

/-- The fields of an update descriptor (R295). -/
structure UpdDesc where
  kind    : Nat
  uop     : Nat
  wd      : Bool
  noise   : Bool
  signal  : Bool
  gradVer : Nat
  verBase : Nat
  params  : Nat
  grad    : Nat
  high    : Nat
  low     : Nat
  m       : Nat
  v       : Nat
  record  : Nat
  sr      : Nat
  noiseStream : Nat
  base    : Nat
  deriving DecidableEq, Repr

/-- The record of R295 read. -/
def updDesc (d : Nat) : UpdDesc :=
  ⟨fld d 0 4, fld d 4 3, bit d 7, bit d 8, bit d 9, fld d 16 8, fld d 24 8, fld d 32 32, fld d 64 64,
    fld d 128 64, fld d 192 64, fld d 256 64, fld d 320 64, fld d 384 64, fld d 448 16, fld d 464 16,
    fld d 480 32⟩

/-- The line version v(k) of step `k`, and v(k − 1) of the step before it (R296). -/
def lineVersion (k verBase : Nat) : Nat := (k + verBase) % 255 + 1
def lineVersionBefore (k verBase : Nat) : Nat := (k + 254 + verBase) % 255 + 1

/-! ### Tiers and lines -/

/-- The tier of a virtual address: 1 near, 2 far, 0 neither. -/
def State.tierOf (s : State) (p va : Nat) : Nat :=
  match s.translate p va with
  | .here a =>
    match placeOf a with
    | .near _ _ => 1
    | .far _ _ => 2
    | _ => 0
  | _ => 0

/-- Whether an array of `n` bytes begins and ends in a tier, aligned. -/
def State.arrayIn (s : State) (p tier align a n : Nat) : Bool :=
  a % align == 0 && s.tierOf p a == tier && s.tierOf p (a + (max n 1 - 1)) == tier

/-- A line read by an engine of subsystem `sub`; what fails latches in its fence. -/
def State.engineLine (s : State) (p sub fence va ver : Nat) : (List Byte × Bool) × State :=
  let r := s.readVa p sub va ver 0
  let t := (r.2.latchOr fence r.1.err).closeRanges
  ((r.1.data, r.1.poison), if r.1.mark then t.poisonFence fence else t)

/-- A line written by an engine; a poisoned one marks its fence (R19). -/
def State.engineWrite (s : State) (p sub fence va ver : Nat) (data : List Byte) (poison : Bool) : State :=
  let r := s.writeVa p sub va ver 0 data poison
  let t := r.2.latchOr fence r.1
  if poison then t.poisonFence fence else t

/-- `n` lines read, charged to the partition's read class (R65). -/
def State.engineLines (s : State) (p sub fence va n ver : Nat) : List (List Byte × Bool) × State :=
  (List.range n).foldl (fun acc i =>
    let r := acc.2.engineLine p sub fence (va + 64 * i) ver
    (acc.1 ++ [r.1], r.2)) ([], s.chargeSpan p false va n)

/-- Lines written, charged to the partition's write class. -/
def State.engineWrites (s : State) (p sub fence va ver : Nat) (ls : List (List Byte × Bool)) : State :=
  ls.zipIdx.foldl (fun s e => s.engineWrite p sub fence (va + 64 * e.2) ver e.1.1 e.1.2) (s.chargeSpan p true va ls.length)

/-! ### The commit record (R278) and the checks at issue (R300) -/

/-- The 16 bytes of a commit record as a number; a record that cannot be read is 0. What the read meets latches in
UPD_FENCE, and poison marks it (R11, R19). -/
def State.commitRecord (s : State) (p : Nat) (x : UpdDesc) : Nat × State :=
  let fence := s.reg (kUpdFence p)
  let r := (s.chargeSpan p false (x.record / 64 * 64) 1).readBytesVa p 8 x.record 16 x.gradVer 0
  let t := (r.2.latchOr fence r.1.err).closeRanges
  (if r.1.err = 0 then ofLe r.1.data else 0, if r.1.poison then t.poisonFence fence else t)

def recContributors (rec_ : Nat) : Nat := fld rec_ 64 15

/-- NORM_CLOSED, CLIP_FLAG and STEP_BAD (R304). -/
def State.updFlag (s : State) (p i : Nat) : Bool := bit (s.reg (kUpdFlags p)) i

/-- The checks of R300, after that of R87. -/
def State.updCheck (s : State) (p a rec_ : Nat) (x : UpdDesc) : Reason :=
  let n := x.params
  let adam := x.uop == 0
  let usesRec := x.uop == 0 || x.uop == 2
  let arrays := s.arrayIn p 1 64 x.high (2 * n) && s.arrayIn p 2 512 x.low (2 * n) &&
    s.arrayIn p 2 512 x.m (2 * n) && s.arrayIn p 2 512 x.v (2 * n)
  firstOf [
    (!s.inNear p a, 0x100C),
    (x.kind != 7 || decide (4 < x.uop), 0x8001),
    ((decide (x.uop ≤ 1) && !arrays) ||
      (adam && !(s.arrayIn p 1 64 x.grad (4 * n) || s.arrayIn p 2 64 x.grad (4 * n))), 0x8101),
    ((adam && decide (x.sr < 0x8000)) ||
      ((x.uop == 1 || (adam && x.noise)) && decide (x.noiseStream < 0x8000)), 0x8102),
    (usesRec && !bit rec_ 83, 0x8201),
    (usesRec && fld rec_ 96 32 != s.reg (kUpdOrderGen p), 0x8202),
    (((adam && s.reg (kClipMode p) == 2) || x.uop == 4) && !s.updFlag p 0, 0x8203),
    (adam && !x.noise && f32lt 0 (s.reg (kNoiseFloor p)), 0x8302),
    (adam && f32lt (s.reg (kNoiseStd p)) (s.reg (kNoiseFloor p)), 0x8303)]

/-! ### Clip factor and learning rate (R291, R293) -/

/-- The clip factor of an entry. -/
def State.clipFactor (s : State) (p : Nat) : Nat :=
  match s.reg (kClipMode p) with
  | 1 => if f32eq (s.reg (kNormPrev p)) 0 then f32One
         else f32min f32One (f32div (s.reg (kMaxNorm p)) (s.reg (kNormPrev p)))
  | 2 => f32min f32One (f32div (s.reg (kMaxNorm p)) (s.reg (kNormCur p)))
  | _ => f32One

/-- The quotient of two whole numbers in FP32. -/
def f32ratio (a b : Int) : Nat := toF32 ((ofInt a).div (ofInt b))

/-- The learning rate of step `k`. -/
def State.learningRate (s : State) (p k : Nat) : Nat :=
  let peak := s.reg (kLrPeak p)
  let lrMin := s.reg (kLrMin p)
  let w := s.reg (kWarmupSteps p)
  let d := s.reg (kDecaySteps p)
  let t := if d = 0 then f32One else f32min f32One (f32ratio ((k : Int) - w) d)
  if 0 < w ∧ k ≤ w then toF32 ((ofF32 (toF32 ((ofF32 peak).mul (ofInt k)))).div (ofInt w))
  else
    match s.reg (kLrShape p) with
    | 0 => peak
    | 1 => f32add peak (f32mul (f32sub lrMin peak) t)
    | 2 => f32add lrMin (f32div (f32mul (f32sub peak lrMin)
        (f32add f32One (fixedCosPi (s.reg kBuiltinTableRev) t))) 0x40000000)
    | _ => f32max lrMin (f32mul peak (f32sqrt (f32ratio (max w 1) k)))

/-! ### The optimiser (R286, R287, R294, R297) -/

/-- What an ADAMW entry forms once. -/
structure AdamOnce where
  contributors : Nat
  clip   : Nat
  lr     : Nat
  beta1  : Nat
  beta2  : Nat
  rest1  : Nat
  rest2  : Nat
  bias1  : Nat
  bias2  : Nat
  eps    : Nat
  decay  : Nat
  std    : Nat
  deriving DecidableEq, Repr

def State.adamOnce (s : State) (p rec_ : Nat) : AdamOnce :=
  let k := s.reg (kUpdStep p)
  let b1 := s.reg (kBeta1 p)
  let b2 := s.reg (kBeta2 p)
  let rev := s.reg kBuiltinTableRev
  ⟨f32ofInt (recContributors rec_), s.clipFactor p, s.learningRate p k, b1, b2, f32sub f32One b1,
    f32sub f32One b2, fixedBias rev b1 k, fixedBias rev b2 k, s.reg (kAdamEps p), s.reg (kWeightDecay p),
    s.reg (kNoiseStd p)⟩

/-- One parameter updated: the new weight, m and v as FP32 patterns, from the gradient element, the
stored weight, and the stored moments; `z` is the noise draw. -/
def adamStep (e : AdamOnce) (wd noise : Bool) (z grad w m v : Nat) : Nat × Nat × Nat :=
  let g := f32mul e.clip (f32div grad e.contributors)
  let g := if noise then f32add g (f32mul e.std z) else g
  let m := f32add (f32mul e.beta1 m) (f32mul e.rest1 g)
  let v := f32add (f32mul e.beta2 v) (f32mul (f32mul e.rest2 g) g)
  let u := f32div (f32div m e.bias1) (f32add (f32sqrt (f32div v e.bias2)) e.eps)
  let u := if wd then f32add u (f32mul e.decay w) else u
  (f32sub w (f32mul e.lr u), m, v)

/-- The 16-bit elements of lines. -/
def halves (ls : List (List Byte × Bool)) : List Nat :=
  let b := ls.flatMap (·.1)
  (chunksOf 2 (b.length + 1) b).map ofLe

/-- Lines with some elements replaced: element `i` of `new` where it is given; each line's poison is as
the list says. -/
def relines (old : List Nat) (new : List (Option Nat)) (poison : List Bool) : List (List Byte × Bool) :=
  let xs := old.zipIdx.map (fun e => (new.getD e.2 none).getD e.1)
  ((chunksOf 32 (xs.length + 1) xs).zip poison).map (fun e => (e.1.flatMap (leBytes 2), e.2))

/-- A BF16 pattern as FP32. -/
def bf16to32 (x : Nat) : Nat := x * 2 ^ 16

/-- An event raised once per entry. -/
def State.onceEvent (s : State) (p : Nat) (seen : Bool) (code : EventCode) : State :=
  if seen then s else s.event code 0 p

/-- The work of the entry that runs on an engine's unit, rewritten while the entry runs. -/
def State.setWork (s : State) (p u : Nat) (w : EngineWork) : State :=
  { s with running := s.running.map (fun r => if r.part = p ∧ r.unitId = u then { r with work := some w } else r) }

/-- The gradient lines of a chunk read (R298): the elements and the first reason to refuse it. -/
def State.chunkGrad (s : State) (p : Nat) (x : UpdDesc) (n cnt : Nat) : Reason × List Nat × State :=
  let fence := s.reg (kUpdFence p)
  (List.range (ceilDiv (4 * cnt) 64)).foldl (fun acc i =>
    let r := acc.2.2.engineLine p 8 fence (x.grad + 1024 * n + 64 * i) x.gradVer
    let vals := (f32s r.1.1).take (cnt - 16 * i)
    let c := if r.1.2 then 0x8502 else if vals.any (fun y => !f32isFinite y) then 0x8103 else 0
    (if acc.1 = 0 then c else acc.1, acc.2.1 ++ vals, r.2))
      (0, [], s.chargeSpan p false (x.grad + 1024 * n) (ceilDiv (4 * cnt) 64))

/-- The engine's progress past parameter `j` of the entry at `a` (R302), with the layer's record and the step. -/
def State.progress (s : State) (p a j record : Nat) : State :=
  (s.setJob p { s.job p with updLast := some (record, s.reg (kUpdStep p)) }).setReg (kUpdProgress p)
    (a % 2 ^ 64 + j % 2 ^ 64 * 2 ^ 64)

/-- The four arrays of a chunk written: new elements where given. -/
def State.putChunk (s : State) (p : Nat) (x : UpdDesc) (n ver : Nat) (old : List (List Nat))
    (new : List (Option (Nat × Nat × Nat × Nat))) (poison : List Bool) : State :=
  let fence := s.reg (kUpdFence p)
  let part := fun (f : Nat × Nat × Nat × Nat → Nat) => new.map (Option.map f)
  let s := s.engineWrites p 8 fence (x.high + 512 * n) ver (relines (old.getD 0 []) (part (·.1)) poison)
  let s := s.engineWrites p 8 fence (x.low + 512 * n) ver (relines (old.getD 1 []) (part (·.2.1)) poison)
  let s := s.engineWrites p 8 fence (x.m + 512 * n) ver (relines (old.getD 2 []) (part (·.2.2.1)) poison)
  s.engineWrites p 8 fence (x.v + 512 * n) ver (relines (old.getD 3 []) (part (·.2.2.2)) poison)

/-- The non-finite parameters of a chunk counted (R299). -/
def State.countNonfinite (s : State) (p n : Nat) (seen : Bool) : Bool × State :=
  if n = 0 then (seen, s) else (true, (s.bumpReg (kUpdNonfinite p) n).onceEvent p seen 0x08020004)

/-- One chunk of an ADAMW entry (R297 to R299), with the work as it stands after: poison of a line of the arrays is
carried into the lines written over it. A fault that the chunk's reads raise stops the engine before its first
write (R302). -/
def State.adamChunk (s : State) (p : Nat) (x : UpdDesc) (w : EngineWork) (n : Nat) : EngineWork × State :=
  let e := s.adamOnce p w.rec_
  let fence := s.reg (kUpdFence p)
  let cnt := min 256 (x.params - 256 * n)
  let g := s.chunkGrad p x n cnt
  if g.1 ≠ 0 then
    let s := ((g.2.2.latchOr fence g.1).bumpReg (kChunksRefused p) 1).onceEvent p w.refused 0x08020003
    ({ w with refused := true }, s)
  else
    let k := s.reg (kUpdStep p)
    let vin := lineVersionBefore k x.verBase
    let lines := ceilDiv (2 * cnt) 64
    let h := g.2.2.engineLines p 8 fence (x.high + 512 * n) lines vin
    let l := h.2.engineLines p 8 fence (x.low + 512 * n) lines vin
    let m := l.2.engineLines p 8 fence (x.m + 512 * n) lines vin
    let v := m.2.engineLines p 8 fence (x.v + 512 * n) lines vin
    if (v.2.grid p).held then (w, v.2)
    else
    let s := v.2
    let old := [halves h.1, halves l.1, halves m.1, halves v.1]
    let at_ := fun (i j : Nat) => (old.getD i []).getD j 0
    let new := (List.range cnt).map (fun i =>
      let j := x.base * 256 + 256 * n + i
      let z := if x.noise then s.normal p updUnit x.noiseStream j else 0
      let r := adamStep e x.wd x.noise z (g.2.1.getD i 0) (at_ 0 i * 2 ^ 16 + at_ 1 i) (bf16to32 (at_ 2 i))
        (bf16to32 (at_ 3 i))
      if f32isFinite r.1 && f32isFinite r.2.1 && f32isFinite r.2.2 then
        some (r.1 / 2 ^ 16, r.1 % 2 ^ 16,
          fmtBf16.encode (s.rounding p updUnit true x.sr (2 * j)) false (ofF32 r.2.1),
          fmtBf16.encode (s.rounding p updUnit true x.sr (2 * j + 1)) false (ofF32 r.2.2))
      else none)
    let poison := (List.range lines).map (fun i =>
      [h.1, l.1, m.1, v.1].any (fun ls => (ls.getD i ([], false)).2))
    let s := s.putChunk p x n (lineVersion k x.verBase) old new poison
    let r := s.countNonfinite p (new.filter Option.isNone).length w.nonfinite
    ({ w with nonfinite := r.1 }, r.2.progress p w.addr (x.base * 256 + 256 * n + cnt) x.record)

/-- One chunk of an INIT entry (R297, R299), with the work after it: a line that keeps an element is read first. -/
def State.initChunk (s : State) (p : Nat) (x : UpdDesc) (w : EngineWork) (n : Nat) : EngineWork × State :=
  let fence := s.reg (kUpdFence p)
  let cnt := min 256 (x.params - 256 * n)
  let lines := ceilDiv (2 * cnt) 64
  let ver := lineVersionBefore (s.reg (kUpdStep p)) x.verBase
  let new := (List.range cnt).map (fun i =>
    let y := f32add (x.grad % 2 ^ 32)
      (f32mul (x.grad / 2 ^ 32) (s.normal p updUnit x.noiseStream (x.base * 256 + 256 * n + i)))
    if f32isFinite y then some (y / 2 ^ 16, y % 2 ^ 16, 0, 0) else none)
  let keeps := fun (i : Nat) => decide (cnt < 32 * i + 32) ||
    (List.range 32).any (fun j => (new.getD (32 * i + j) none).isNone)
  let get := fun (acc : List (List (List Byte × Bool)) × State) (va : Nat) =>
    let r := (List.range lines).foldl (fun (b : List (List Byte × Bool) × State) i =>
      if keeps i then
        let o := b.2.engineLine p 8 fence (va + 512 * n + 64 * i) ver
        (b.1 ++ [o.1], o.2)
      else (b.1 ++ [(zeros64, false)], b.2)) ([], acc.2)
    (acc.1 ++ [r.1], r.2)
  let r := [x.high, x.low, x.m, x.v].foldl get ([], s)
  let poison := (List.range lines).map (fun i => r.1.any (fun ls => (ls.getD i ([], false)).2))
  if (r.2.grid p).held then (w, r.2)
  else
    let s := r.2.putChunk p x n ver (r.1.map halves) new poison
    let c := s.countNonfinite p (new.filter Option.isNone).length w.nonfinite
    ({ w with nonfinite := c.1 }, c.2.progress p w.addr (x.base * 256 + 256 * n + cnt) x.record)

/-! ### Step state (R290, R292) -/

/-- FOLD. -/
def State.foldNorm (s : State) (p rec_ : Nat) : State :=
  let f := clearBit (s.reg (kUpdFlags p)) 0
  if bit rec_ 80 ∨ bit rec_ 81 ∨ bit rec_ 82 then s.setReg (kUpdFlags p) (setBit f 2)
  else
    let c := recContributors rec_
    let q := toF32 ((ofF32 (fld rec_ 0 32)).div (ofInt ((c * c : Nat) : Int)))
    (s.setReg (kNormSqAcc p) (f32add (s.reg (kNormSqAcc p)) q)).setReg (kUpdFlags p) f

/-- CLOSE, with the check of R292 in lagged mode and the charter's policy on its flag. -/
def State.closeNorm (s : State) (p : Nat) : State :=
  let cur := f32sqrt (s.reg (kNormSqAcc p))
  let s := (s.setReg (kNormCur p) cur).setRegBit (kUpdFlags p) 0 true
  let s := if s.updFlag p 2 then s.event 0x08020005 0 p else s
  if s.reg (kClipMode p) = 1 ∧
      f32lt (f32mul (s.reg (kMaxNorm p)) (f32add f32One (s.reg (kClipHeadroom p)))) (f32mul (s.clipFactor p) cur) then
    ((s.setRegBit (kUpdFlags p) 1 true).event 0x08020002 0 p).clipPolicy p
  else s

/-- STEP_END. -/
def State.endNorm (s : State) (p : Nat) : State :=
  let s := if s.updFlag p 2 then s else s.setReg (kNormPrev p) (s.reg (kNormCur p))
  (((s.setReg (kNormSqAcc p) 0).setReg (kUpdFlags p) 0).bumpReg (kUpdStep p) 1).stepEnded p

/-! ### The entry -/

/-- The bound of R301, in ns. -/
def State.updBound (s : State) (p : Nat) (x : UpdDesc) : Nat :=
  if 2 ≤ x.uop then 1000
  else
    let n := ceilDiv x.params 256
    let short := b2n (decide (x.params % 256 ≠ 0))
    let fw := 3 * (512 * n + 512 * short)
    let gradFar := decide (x.uop = 0) && s.tierOf p x.grad == 2
    let fr := (if x.uop = 0 then 3 * 512 * n else 0) + (if gradFar then 512 * ceilDiv (4 * x.params) 512 else 0)
    let nb := if x.uop = 0 then (if gradFar then 2 else 6) * x.params else 0
    let bpu := s.reg (kUpdFarBpu p)
    let rate := fun (cls : Nat) => max 1 (min bpu (s.slice p cls))
    2000 + max (max (ceilDiv (fr * 1000) (rate 3)) (ceilDiv (fw * 1000) (rate 4)))
      (max (ceilDiv nb 4000) (ceilDiv x.params 256))

/-- The chunk at which an entry begins: the first, or in a RECOVERY step, for an ADAMW entry of the layer under update,
the one that UPD_PROGRESS names, as the job services patch its descriptor; an entry wholly below it gets PARAMS 0
(R322). The layer is the one whose commit record the engine's last chunk of this step used (DEDUCED, log entry 123). -/
def State.firstChunk (s : State) (p : Nat) (x : UpdDesc) : Nat :=
  let j := s.reg (kUpdProgress p) / 2 ^ 64
  if s.reg (kGustKind p) ≠ 2 ∨ x.uop ≠ 0 ∨ (s.job p).updLast ≠ some (x.record, s.reg (kUpdStep p)) then 0
  else if x.base * 256 + x.params ≤ j then ceilDiv x.params 256
  else (j - x.base * 256) / 256

/-- An update entry of the partition, its UOP as its command says unless reserved: refused under R300, or
run. ADAMW and INIT write their chunks as the time of their bound passes (log entry 32); with PARAMS 0 they are
complete at issue. -/
def State.updEntry (uop a d p : Nat) (s : State) : State :=
  let x := updDesc d
  let x := if x.uop ≤ 4 then { x with uop := uop } else x
  let usesRec := x.uop = 0 ∨ x.uop = 2
  let rr := if usesRec ∧ s.inNear p a then s.commitRecord p x else (0, s)
  let c := rr.2.updCheck p a rr.1 x
  if c ≠ 0 then rr.2.refuseEntry p (kUpdateRefusal p) 0x08030001 c
  else
    let s := rr.2
    let signal := if x.signal then s.reg (kUpdFence p) else 0
    let run := fun (ns : Nat) (w : Option EngineWork) =>
      s.runEntry ⟨p, updUnit, engineUnit, s.now, ns * s.fCore p / 1000, [], none, none, 0, signal, none, w⟩
    match x.uop with
    | 2 => (run 1000 none).foldNorm p rr.1
    | 3 => (run 1000 none).closeNorm p
    | 4 => (run 1000 none).endNorm p
    | o =>
      let first := s.firstChunk p x
      if ceilDiv x.params 256 ≤ first then (s.bumpReg (kEmptyUpdates p) 1).signalOr signal 1
      else
        let bound := s.updBound p { x with params := x.params - 256 * first }
        run bound (some ⟨a, d, o, rr.1, first, first, ceilDiv x.params 256, bound, false, false⟩)

/-- The next chunk of the running ADAMW or INIT entry. -/
def State.updChunk (s : State) (p : Nat) (w : EngineWork) : State :=
  let x := { updDesc w.desc with uop := w.op }
  let w' := { w with done := w.done + 1 }
  let r := if w.op = 0 then s.adamChunk p x w' w.done else s.initChunk p x w' w.done
  r.2.setWork p updUnit r.1

/-- An entry of the update plan; one that reads lines of an open tile window waits for them (R275). -/
def State.issueUpd (s : State) (p uop a d : Nat) (entry : Instr) : State :=
  let x := updDesc d
  s.issue p updUnit engineUnit a (uop == 0 && s.windowPends p x.grad (ceilDiv (4 * x.params) 64)) entry
    (State.updEntry uop a d p)

/-- ADAMW (R297). -/
def execAdamw (p : Fin 8) (a : BitVec 64) (d : Desc) (s : State) : Host.Outcome State Fault Refusal :=
  .next (s.issueUpd p.val 0 a.toNat d.toNat (.adamw p a d))
/-- INIT (R297). -/
def execInitW (p : Fin 8) (a : BitVec 64) (d : Desc) (s : State) : Host.Outcome State Fault Refusal :=
  .next (s.issueUpd p.val 1 a.toNat d.toNat (.initW p a d))
/-- FOLD (R290). -/
def execFold (p : Fin 8) (a : BitVec 64) (d : Desc) (s : State) : Host.Outcome State Fault Refusal :=
  .next (s.issueUpd p.val 2 a.toNat d.toNat (.fold p a d))
/-- CLOSE (R292). -/
def execCloseStep (p : Fin 8) (a : BitVec 64) (d : Desc) (s : State) : Host.Outcome State Fault Refusal :=
  .next (s.issueUpd p.val 3 a.toNat d.toNat (.closeStep p a d))
/-- STEP_END (R290). -/
def execStepEnd (p : Fin 8) (a : BitVec 64) (d : Desc) (s : State) : Host.Outcome State Fault Refusal :=
  .next (s.issueUpd p.val 4 a.toNat d.toNat (.stepEnd p a d))

/-! ### Settings (R304, R305) -/

/-- The staged settings of a partition. -/
def updKeys (p : Nat) : List Nat := groupKeys (0x7810 + p)

/-- The ranges of R304 over the staged values. -/
def State.updRangesOk (s : State) (p : Nat) : Bool :=
  let v := fun (k : Nat) => s.stagedReg k
  let fin := fun (k : Nat) => f32isFinite (v k)
  let unit := fun (k : Nat) => f32le 0 (v k) && f32lt (v k) f32One
  decide (v (kClipMode p) ≤ 2) && fin (kMaxNorm p) && f32lt 0 (v (kMaxNorm p)) &&
    f32le 0 (v (kClipHeadroom p)) && f32le (v (kClipHeadroom p)) 0x42C80000 &&
    fin (kLrPeak p) && f32le 0 (v (kLrPeak p)) &&
    f32le 0 (v (kLrMin p)) && f32le (v (kLrMin p)) (v (kLrPeak p)) &&
    decide (v (kLrShape p) ≤ 3) && unit (kBeta1 p) && unit (kBeta2 p) &&
    fin (kAdamEps p) && f32lt 0 (v (kAdamEps p)) &&
    f32le 0 (v (kWeightDecay p)) && f32le (v (kWeightDecay p)) f32One &&
    fin (kNoiseStd p) && decide (1 ≤ v (kUpdFarBpu p)) && decide (v (kUpdFarBpu p) ≤ 4000000)

/-- The checks and commit of UPD_ENABLE (R305). -/
def updOp (p : Nat) (s : State) : Reason × State :=
  let h := s.stagedReg (kUpdFence p)
  let r := firstOf [
    (!s.updRangesOk p, 0x8002),
    (s.reg (kGustEnable p) == 1, 0x8205),
    (!f32le (s.reg (kNoiseFloor p)) (s.stagedReg (kNoiseStd p)), 0x8301),
    (s.checkHandle 8 4 p h != 0, s.checkHandle 8 4 p h)]
  if r ≠ 0 then (r, s.setReg (kUpdateRefusal p) r) else (0, s.commitStaged (updKeys p))

/-- UPD_ENABLE (R305). -/
def execUpdEnable (r : Requester) (p : Fin 8) (s : State) : Host.Outcome State Fault Refusal :=
  .next (s.writeU8 r (0x7810 + p.val) 0x11 true (updOp p.val))

end Sys2Proof.Machine
end

