-- ==== Sys2Proof/Machine/Checkpoint.lean ====
section
/-! DEFINITION. The checkpoint engine (R307 to R319, R325 to R327): snapshot copies, triggers, the drain to
storage with its manifest, loads, and the settings. -/

namespace Sys2Proof.Machine

/-- The engine's UNIT_ID (R57). -/
def ckptUnit : Nat := 0x202

/-- The fields of a checkpoint descriptor (R310). -/
structure CkptDesc where
  kind   : Nat
  cop    : Nat
  signal : Bool
  srcVer : Nat
  dstVer : Nat
  params : Nat
  peer   : Nat
  shard  : Nat
  base   : Nat
  high   : Nat
  low    : Nat
  m      : Nat
  v      : Nat
  snap   : Nat
  rate   : Nat
  deriving DecidableEq, Repr

/-- The record of R310 read. -/
def ckptDesc (d : Nat) : CkptDesc :=
  ⟨fld d 0 4, fld d 4 2, bit d 6, fld d 8 8, fld d 16 8, fld d 32 32, fld d 64 14, fld d 80 16, fld d 96 32,
    fld d 128 64, fld d 192 64, fld d 256 64, fld d 320 64, fld d 384 64, fld d 448 32⟩

/-- The live arrays of an entry, in the order of the snapshot (R311). -/
def CkptDesc.arrays (x : CkptDesc) : List Nat := [x.high, x.low, x.m, x.v]

/-- Chunks of an entry. -/
def CkptDesc.chunks (x : CkptDesc) : Nat := ceilDiv x.params 256

/-- The checks of R313, after that of R87. -/
def State.ckptCheck (s : State) (p a : Nat) (x : CkptDesc) : Reason :=
  let n := 2 * x.params
  let e := s.fwdEntry p x.peer
  firstOf [
    (!s.inNear p a, 0x100C),
    (x.kind != 8 || x.cop == 3, 0x9001),
    (!(s.arrayIn p 1 64 x.high n && s.arrayIn p 2 512 x.low n && s.arrayIn p 2 512 x.m n &&
        s.arrayIn p 2 512 x.v n && s.arrayIn p 2 512 x.snap (if x.cop = 2 then 0 else 2048 * x.chunks)), 0x9101),
    (x.cop == 2 && !(fwdValid e && !fwdLender e), 0x9106)]

/-- The VERSION stored with the line of a virtual address (R162). -/
def State.storedVersion (s : State) (p va : Nat) : Nat :=
  match s.translate p va with
  | .here a => s.versionAt a
  | _ => 0

/-- A source line of an entry (R312): a version that differs marks it poisoned, with 0x9102. -/
def State.snapLine (s : State) (p fence va ver : Nat) : (List Byte × Bool) × State :=
  let stale := decide (s.storedVersion p va ≠ ver)
  let r := s.engineLine p 9 fence va ver
  ((r.1.1, r.1.2 || stale), if stale then r.2.latchOr fence 0x9102 else r.2)

/-- The bytes of a line of which only the first `n` belong to the chunk, padded with zeros. -/
def cutLine (data : List Byte) (n : Nat) : List Byte := padTo 64 0 (data.take n)

/-- One array's 512 bytes of a chunk copied into the snapshot: lines past the last parameter are zeros. -/
def State.copyOut (s : State) (p fence : Nat) (x : CkptDesc) (cnt src dst : Nat) : State :=
  (List.range 8).foldl (fun s i =>
    let left := 2 * cnt - 64 * i
    if left = 0 then s.engineWrite p 9 fence (dst + 64 * i) x.dstVer zeros64 false
    else
      let r := s.snapLine p fence (src + 64 * i) x.srcVer
      r.2.engineWrite p 9 fence (dst + 64 * i) x.dstVer (cutLine r.1.1 left) r.1.2)
    ((s.chargeSpan p false src (ceilDiv (2 * cnt) 64)).chargeSpan p true dst 8)

/-- One array's part of a chunk copied back from the snapshot. -/
def State.copyBack (s : State) (p fence : Nat) (x : CkptDesc) (cnt src dst : Nat) : State :=
  (List.range (ceilDiv (2 * cnt) 64)).foldl (fun s i =>
    let r := s.snapLine p fence (src + 64 * i) x.srcVer
    r.2.engineWrite p 9 fence (dst + 64 * i) x.dstVer r.1.1 r.1.2)
    ((s.chargeSpan p false src (ceilDiv (2 * cnt) 64)).chargeSpan p true dst (ceilDiv (2 * cnt) 64))

/-- One array's part of a chunk asked for from the peer, at the same virtual addresses, a line a request: each
response names the version its line holds (R311, R312). -/
def State.askPeer (s : State) (p fence : Nat) (x : CkptDesc) (cnt va : Nat) : State :=
  let lines := ceilDiv (2 * cnt) 64
  (List.range lines).foldl (fun s i =>
    let a := va + 64 * i
    match s.translate p a with
    | .here l =>
      let r := s.request p 1 1 (x.peer * 2 ^ 50 + l) x.srcVer 0 fence 0 [] (.peer a x.srcVer x.dstVer)
      if r.1 then r.2 else r.2.engineWrite p 9 fence a x.dstVer zeros64 true
    | _ => s) s

/-- Chunk `n` of an entry (R311). -/
def State.ckptChunk (s : State) (p : Nat) (x : CkptDesc) (n : Nat) : State :=
  let fence := s.reg (kCkptFence p)
  let cnt := min 256 (x.params - 256 * n)
  x.arrays.zipIdx.foldl (fun s e =>
    let live := e.1 + 512 * n
    let snap := x.snap + 2048 * n + 512 * e.2
    match x.cop with
    | 0 => s.copyOut p fence x cnt live snap
    | 1 => s.copyBack p fence x cnt snap live
    | _ => s.askPeer p fence x cnt live) s

/-- A COPY entry recorded in the shard table (R311), which keeps the shards in order. -/
def insertShard (x : Shard) : List Shard → List Shard
  | [] => [x]
  | y :: r => if x.index < y.index then x :: y :: r else if x.index = y.index then x :: r else y :: insertShard x r

/-- The shard of a COPY entry, and NORM_PREV of the first (R318). -/
def State.noteShard (s : State) (p : Nat) (x : CkptDesc) : State :=
  let j := s.job p
  s.setJob p { j with shards := insertShard ⟨x.shard, x.base, x.params, x.snap, x.dstVer, false, false, []⟩ j.shards
                      snapNorm := some (j.snapNorm.getD (s.reg (kNormPrev p))) }

/-- The bound of R314, in ns. -/
def State.ckptBound (s : State) (p : Nat) (x : CkptDesc) : Nat :=
  let n := x.chunks
  let short := b2n (decide (x.params % 256 ≠ 0))
  let live := 3 * (512 * n + 512 * short)
  let fr := match x.cop with
    | 0 => 1536 * n
    | 1 => 2048 * n
    | _ => 0
  let fw := if x.cop = 0 then 2048 * n else live
  let rate := fun (cls : Nat) => max 1 (min x.rate (s.slice p cls))
  let remote := if x.cop = 2 then ceilDiv (8 * x.params * 1000) (max 1 (min x.rate 167111)) else 0
  let hops := if x.cop = 2 then 2 * (200 + fwdHops (s.fwdEntry p x.peer) * 650) else 0
  2000 + hops + max (max (ceilDiv (fr * 1000) (rate 3)) (ceilDiv (fw * 1000) (rate 4)))
    (max (ceilDiv (2 * x.params) 4000) remote)

/-- A checkpoint entry, its COP as its command says unless reserved: refused under R313, or run. COPY and RESTORE move
their chunks as the time of their bound passes (log entry 32), PEER_COPY asks its peer for all of them at once; with
PARAMS 0 an entry is complete at issue. -/
def State.ckptEntry (cop a d p : Nat) (s : State) : State :=
  let x := ckptDesc d
  let x := if x.cop < 3 then { x with cop := cop } else x
  let c := s.ckptCheck p a x
  if c ≠ 0 then s.refuseEntry p (kCkptRefusal p) 0x09030004 c
  else
    let s := if x.cop = 0 then s.noteShard p x else s
    let signal := if x.signal then s.reg (kCkptFence p) else 0
    if x.params = 0 then s.signalOr signal 1
    else
      let ns := s.ckptBound p x
      let w : EngineWork := ⟨a, d, x.cop, 0, 0, if x.cop = 2 then x.chunks else 0, x.chunks, ns, false, false⟩
      let t := s.runEntry ⟨p, ckptUnit, engineUnit, s.now, ns * s.fCore p / 1000, [], none, none, 0, signal, none, some w⟩
      if x.cop = 2 then (List.range x.chunks).foldl (fun t n => t.ckptChunk p x n) t else t

/-- An entry of the checkpoint plan; a COPY that reads lines of an open tile window waits for them (R275). -/
def State.issueCkpt (s : State) (p cop a d : Nat) (entry : Instr) : State :=
  let x := ckptDesc d
  s.issue p ckptUnit engineUnit a
    (cop == 0 && x.arrays.any (fun va => s.windowPends p va (ceilDiv (2 * x.params) 64))) entry
    (State.ckptEntry cop a d p)

/-! ### The engines' entries as time passes (R302, R311) -/

/-- The next chunk of the entry that runs on an engine. -/
def State.nextChunk (s : State) (p u : Nat) : State :=
  match (s.running.find? (fun r => r.part == p && r.unitId == u)).bind (·.work) with
  | none => s
  | some w =>
    if w.total ≤ w.done then s
    else if u = updUnit then s.updChunk p w
    else (s.ckptChunk p { ckptDesc w.desc with cop := w.op } w.done).setWork p u { w with done := w.done + 1 }

/-- The entry's first `k` chunks are done; a fault among them has ended it. -/
def State.workTo (s : State) (p u k : Nat) : State :=
  match (s.running.find? (fun r => r.part == p && r.unitId == u)).bind (·.work) with
  | none => s
  | some w => (List.range (min k w.total - w.done)).foldl (fun s _ => s.nextChunk p u) s

/-- How many chunks of an entry are done by now: its bound shared evenly among those it has to do (DESIGN CHOICE, log
entry 32). -/
def EngineWork.dueBy (w : EngineWork) (ns : Nat) : Nat := w.first + (w.total - w.first) * ns / max 1 w.bound

/-- Time reaches `t`: the engines' entries have gone on, and a range found quarantined has faulted its owner. -/
def State.tickWork (s : State) (t : Nat) : State :=
  let s := (s.tick t).closeRanges
  s.running.foldl (fun s r =>
    match r.work with
    | some w => s.workTo r.part r.unitId (w.dueBy (s.now - r.since))
    | none => s) s

/-- CKPT_COPY (R311). -/
def execCkptCopy (p : Fin 8) (a : BitVec 64) (d : Desc) (s : State) : Host.Outcome State Fault Refusal :=
  .next (s.issueCkpt p.val 0 a.toNat d.toNat (.ckptCopy p a d))
/-- RESTORE (R319). -/
def execRestore (p : Fin 8) (a : BitVec 64) (d : Desc) (s : State) : Host.Outcome State Fault Refusal :=
  .next (s.issueCkpt p.val 1 a.toNat d.toNat (.restore p a d))
/-- PEER_COPY (R311). -/
def execPeerCopy (p : Fin 8) (a : BitVec 64) (d : Desc) (s : State) : Host.Outcome State Fault Refusal :=
  .next (s.issueCkpt p.val 2 a.toNat d.toNat (.peerCopy p a d))

/-- Whether lines of a PEER_COPY are still on their way. -/
def State.peerPending (s : State) (p : Nat) : Bool :=
  s.fabric.remotes.any (fun r => r.part == p && (match r.sink with
    | .peer _ _ _ => true
    | _ => false))

/-! ### Triggers (R308) -/

/-- CKPT_STEP_TRIGGER (R308): acts once its steps have ended. -/
def execCkptStepTrigger (p : Fin 8) (s : State) : Host.Outcome State Fault Refusal :=
  .next (if s.stepsDue p.val then s.armTrigger p.val 0 else s)

/-- CKPT_PERIOD_TRIGGER (R308): acts once its seconds have passed. -/
def execCkptPeriodTrigger (p : Fin 8) (t : Nat) (s : State) : Host.Outcome State Fault Refusal :=
  let s := s.tick t
  .next (if s.periodDue p.val then s.armTrigger p.val 1 else s)

/-- CKPT_NOW (R308). -/
def ckptNowOp (p v : Nat) (s : State) : Reason × State := (0, if v = 1 then s.armTrigger p 2 else s)
def execCkptNow (r : Requester) (p : Fin 8) (s : State) : Host.Outcome State Fault Refusal :=
  .next (s.writeU8 r (0x8010 + p.val) 0x0B false (ckptNowOp p.val 1))

/-! ### The drain (R315 to R318, R323) -/

/-- The job's first group. -/
def State.firstGroup (s : State) (p : Nat) : Option Group :=
  s.objs.groups.find? (fun g => hPart g.handle == p)

/-- MEMBERS of the first group, and the ranks that this module holds; a job without a group is alone. -/
def State.jobMembers (s : State) (p : Nat) : Nat :=
  match s.firstGroup p with
  | some g => g.members
  | none => 1
def State.jobRanks (s : State) (p : Nat) : List Nat :=
  match s.firstGroup p with
  | some g => s.ranks g
  | none => [0]

/-- The shards that this module drains (R315, R323). -/
def State.ownShards (s : State) (p : Nat) : List Shard :=
  (s.job p).shards.filter (fun x => (s.jobRanks p).contains (x.index % max 1 (s.jobMembers p)))

/-- Bytes of a stored shard of that many parameters (R316). -/
def shardBytes (params : Nat) : Nat := 80 + 2048 * ceilDiv params 256

/-- Where a stored shard lies beyond an address, after MEMBERS manifest parts (R318). -/
def shardOffset (members : Nat) (l : List (Nat × Nat)) (index : Nat) : Nat :=
  members * 2 ^ 21 + ((l.filter (fun x => x.1 < index)).map (fun x => shardBytes x.2)).sum

/-- Bytes sent out to a virtual address (R217): lines of another module leave as posted writes, whole,
what lies beside the bytes being zeros (log entry 17). -/
def State.writeOut (s : State) (p fence va : Nat) (data : List Byte) : State :=
  let first := data.take (64 - va % 64)
  let pieces := (va, first) :: ((chunksOf 64 (data.length + 1) (data.drop first.length)).zipIdx).map
    (fun e => (va / 64 * 64 + 64 * (e.2 + 1), e.1))
  pieces.foldl (fun s e =>
    if e.2.isEmpty then s
    else
      match s.translate p e.1 with
      | .there m a =>
        let line := padTo 64 0 (List.replicate (e.1 % 64) 0 ++ e.2)
        (s.sendPacket p (reqHdr 4 1 (m * 2 ^ 50 + a / 64 * 64) 1 0 fence 0 0) line).2
      | _ =>
        let w := s.patchVa p 9 e.1 1 0 e.2 false
        w.2.latchOr fence w.1) s

/-- The nonce of a shard (R316). -/
def State.shardNonce (s : State) (p shard : Nat) : List Byte :=
  (sha384 ((s.part p).salt ++ leBytes 4 (s.jobIdOf p) ++ leBytes 4 (s.reg (kCkptSeq p)) ++ leBytes 2 shard)).take 12

/-- The header of a stored shard (R316). -/
def State.shardHeader (s : State) (p : Nat) (x : Shard) (nonce : List Byte) : List Byte :=
  leBytes 4 1 ++ leBytes 4 (s.jobIdOf p) ++ leBytes 4 (s.reg (kCkptSeq p)) ++ leBytes 2 x.index ++ leBytes 2 0 ++
    leBytes 4 x.base ++ leBytes 4 x.params ++ leBytes 8 (s.job p).snapStep ++ leBytes 8 x.snap ++ nonce ++
    leBytes 12 0

/-- A shard rewritten in the table. -/
def State.setShard (s : State) (p : Nat) (x : Shard) : State :=
  s.setJob p { s.job p with shards := (s.job p).shards.map (fun y => if y.index = x.index then x else y) }

/-- One shard drained: read, encrypted, written out and sealed, or refused for poison (R316, R317). -/
def State.drainShard (s : State) (p : Nat) (x : Shard) (key : List Byte) : State :=
  let fence := s.reg (kCkptFence p)
  let r := s.engineLines p 9 fence x.snap (32 * ceilDiv x.params 256) x.version
  if r.1.any (·.2) then
    (((r.2.setShard p { x with refused := true }).bumpReg (kShardsRefused p) 1).latchOr fence 0x9502).event
      0x09020003 0x9502 x.index
  else
    let s := r.2
    let nonce := s.shardNonce p x.index
    let hdr := s.shardHeader p x nonce
    let c := gcmSeal key nonce hdr (r.1.flatMap (·.1))
    let stored := hdr ++ c.1 ++ c.2
    let off := shardOffset (s.jobMembers p) ((s.job p).shards.map (fun y => (y.index, y.params))) x.index
    (s.writeOut p fence (s.reg (kDrainAddr p) + off) stored).setShard p
      { x with sealed := true, digest := sha384 stored }

/-- DRAIN_SHARD (R316): a drain runs, and the shard is the next of this module's own. A slot without a key
leaves it where it is, with the code of R326. -/
def execDrainShard (p : Fin 8) (shard : BitVec 16) (s : State) : Host.Outcome State Fault Refusal :=
  if s.reg (kCkptState p.val) ≠ 3 then .next s
  else
    match (s.ownShards p.val).find? (fun x => !x.sealed && !x.refused) with
    | none => .next s
    | some x =>
      if x.index ≠ shard.toNat then .next s
      else
        match s.keyOf (s.reg (kCkptKeySlot p.val)) with
        | none => .next (s.setReg (kCkptRefusal p.val) 0x9301)
        | some key => .next (s.drainShard p.val x key)

/-- The manifest part of a rank, without its signature (R318). -/
def State.manifestPart (s : State) (p rank : Nat) : List Byte :=
  let j := s.job p
  let members := s.jobMembers p
  let own := j.shards.filter (fun x => x.index % max 1 members == rank)
  let g := s.firstGroup p
  let contributors := match g with
    | some g => g.contributors
    | none => 1
  let order := match g with
    | some g => g.orderGen
    | none => 0
  leBytes 4 1 ++ leBytes 4 (s.jobIdOf p) ++ leBytes 4 (s.reg (kCkptSeq p)) ++ leBytes 8 j.snapStep ++
    leBytes 4 (j.snapNorm.getD 0) ++ leBytes 4 order ++
    leBytes 4 (contributors % 2 ^ 15 + j.shards.length % 2 ^ 16 * 2 ^ 16) ++
    leBytes 96 (s.reg kModuleId % 2 ^ 14 + own.length % 2 ^ 16 * 2 ^ 16 + rank % 2 ^ 16 * 2 ^ 32 +
      members % 2 ^ 15 * 2 ^ 48) ++
    own.flatMap (fun x => leBytes 2 x.index ++ leBytes 2 0 ++ leBytes 4 x.params ++ padTo 48 0 x.digest ++ leBytes 8 0)

/-- The parts of this module's ranks signed and written; nothing leaves when no random word does. -/
def State.writeParts (s : State) (p : Nat) : Bool × State :=
  (s.jobRanks p).foldl (fun (acc : Bool × State) rank =>
    match acc.2.drbg 48 false with
    | none => (false, acc.2)
    | some (k, t) =>
      let body := t.manifestPart p rank
      let sig := ecdsaSign t.sec.alias_ (scalarOf k) body
      (acc.1, t.writeOut p (t.reg (kCkptFence p)) (t.reg (kDrainAddr p) + rank * 2 ^ 21) (body ++ sig))) (true, s)

/-- MANIFEST_WRITE (R317, R318): after this module's last shard the checkpoint is sealed, unless a shard of
it was refused. -/
def execManifestWrite (p : Fin 8) (s : State) : Host.Outcome State Fault Refusal :=
  let own := s.ownShards p.val
  if s.reg (kCkptState p.val) ≠ 3 ∨ own.any (fun x => !x.sealed && !x.refused) then .next s
  else if own.any (·.refused) then .next (s.ckptIdle p.val)
  else
    let r := s.writeParts p.val
    if r.1 = false then .next (r.2.setReg (kCkptRefusal p.val) 0xB504)
    else
      .next (((r.2.setReg (kLastSealedStep p.val) (s.job p.val).snapStep).event 0x09000002 0 p.val).ckptIdle p.val)

/-! ### Loads (R319) -/

/-- A manifest part as it was read: its header, its entries (shard, parameters, digest), and whether its
signature holds. -/
structure PartRead where
  header  : Nat
  entries : List (Nat × Nat × List Byte)
  signed  : Bool
  deriving DecidableEq, Repr

def PartRead.members (x : PartRead) : Nat := fld x.header 304 15

/-- Bytes read for a load; what cannot be read is zeros. What the read meets latches in CKPT_FENCE, and poison marks
it (R11, R19). -/
def State.loadBytes (s : State) (p va n : Nat) : List Byte × State :=
  let fence := s.reg (kCkptFence p)
  let r := (s.chargeSpan p false (va / 64 * 64) (spanLines va n).2).readBytesVa p 9 va n 1 0
  let t := (r.2.latchOr fence r.1.err).closeRanges
  (if r.1.err = 0 ∧ r.1.poison = false then r.1.data else List.replicate n 0,
    if r.1.poison then t.poisonFence fence else t)

/-- The part of a rank. This module knows its own alias key; what another module signed is checked with a
key that the spec does not place, so its outcome is free (log entry 18). -/
def State.readPart (s : State) (p rank : Nat) : PartRead × State :=
  let va := s.reg (kRestoreAddr p) + rank * 2 ^ 21
  let h := s.loadBytes p va 128
  let header := ofLe h.1
  let n := fld header 272 16
  let b := h.2.loadBytes p (va + 128) (64 * n)
  let g := b.2.loadBytes p (va + 128 + 64 * n) 96
  let body := h.1 ++ b.1
  let own := fld header 256 14 == s.reg kModuleId
  let good := if own then ecdsaVerify (ecPublic s.sec.alias_) body g.1
    else Config.peerSigned (fld header 256 14) (sha384 (body ++ g.1))
  let es := (chunksOf 64 (n + 1) b.1).map (fun e => (ofLe (e.take 2), ofLe ((e.drop 4).take 4), (e.drop 8).take 48))
  (⟨header, es, good⟩, g.2)

/-- Parts 0 to MEMBERS − 1, with MEMBERS from the part at RESTORE_ADDR. -/
def State.readParts (s : State) (p : Nat) : List PartRead × State :=
  let f := s.readPart p 0
  (List.range (f.1.members - 1)).foldl (fun acc i =>
    let r := acc.2.readPart p (i + 1)
    (acc.1 ++ [r.1], r.2)) ([f.1], f.2)

/-- Whether the parts are all there and agree (R319, step 2). -/
def partsAgree (l : List PartRead) : Bool :=
  match l with
  | [] => false
  | f :: _ =>
    let same := fun (lo w : Nat) => l.all (fun x => fld x.header lo w == fld f.header lo w)
    let shards := l.flatMap (·.entries)
    f.members != 0 && l.length == f.members && l.all (fun x => fld x.header 0 32 == 1) &&
      (l.zipIdx.all (fun e => fld e.1.header 288 16 == e.2)) && same 32 32 && same 64 32 && same 304 15 &&
      (List.range (fld f.header 240 16)).all (fun i => shards.any (fun e => e.1 == i))

/-- One stored shard checked, decrypted and written at its SNAP_ADDR with VERSION 1 (R319, step 3): the
reason that refuses the load, or 0. -/
def State.loadShard (s : State) (p : Nat) (key : List Byte) (members : Nat) (all : List (Nat × Nat))
    (e : Nat × Nat × List Byte) : Reason × State :=
  let va := s.reg (kRestoreAddr p) + shardOffset members all e.1
  let r := s.loadBytes p va (shardBytes e.2.1)
  if sha384 r.1 ≠ e.2.2 then (0x9103, r.2)
  else
    let hdr := r.1.take 64
    let body := (r.1.drop 64).take (2048 * ceilDiv e.2.1 256)
    match gcmOpen key ((hdr.drop 40).take 12) hdr body (r.1.drop (64 + body.length)) with
    | none => (0x9501, r.2)
    | some pt =>
      let fence := s.reg (kCkptFence p)
      let lines := (chunksOf 64 (pt.length + 1) pt).map (fun l => (l, false))
      (0, r.2.engineWrites p 9 fence (ofLe ((hdr.drop 32).take 8)) 1 lines)

/-- A refused load (R319): the code is kept, event 0x0903_0008, and CKPT_STATE returns to 0 from loading and from
armed; a snapshot step's copy and a drain go on (log entry 66). -/
def State.loadRefused (s : State) (p : Nat) (r : Reason) : Reason × State :=
  let st := s.reg (kCkptState p)
  let s := if st = 4 then s.ckptIdle p else s
  let s := if st = 1 ∨ st = 4 then s.setReg (kCkptState p) 0 else s
  (r, (s.setReg (kCkptRefusal p) r).event 0x09030008 r p)

/-- The checks before a load begins: RESTORE_KEY_SLOT is checked under R17, then for its attribute. -/
def State.loadCheck (s : State) (p : Nat) : Reason :=
  let h := s.reg (kRestoreKeySlot p)
  let k := s.checkHandle 9 8 p h
  firstOf [
    (s.reg (kGustEnable p) == 1, 0x9202),
    (decide (3 ≤ s.reg (kCkptState p)), 0x9204),
    (k != 0, k),
    ((s.keySlot (hIndex h)).attr != 1, 0x9301)]

/-- CKPT_LOAD (R319): a load that passes its first checks runs, with CKPT_STATE 4. -/
def ckptLoadOp (p v : Nat) (s : State) : Reason × State :=
  if v ≠ 1 then (0, s)
  else
    let c := s.loadCheck p
    if c ≠ 0 then s.loadRefused p c
    else (0, (s.setJob p { s.job p with loading := true }).setReg (kCkptState p) 4)

/-- A running load done: the parts, then the shards in ascending order, then the step and the norm staged for the job
services to commit. It ends with the METER_WINDOW after its CKPT_LOAD (DESIGN CHOICE, log entry 124). -/
def State.runLoad (s : State) (p : Nat) : State :=
  if (s.job p).loading = false then s
  else
    let key := (s.keyOf (s.reg (kRestoreKeySlot p))).getD []
    let r := s.readParts p
    if r.1.any (fun x => !x.signed) then (r.2.loadRefused p 0x9104).2
    else if partsAgree r.1 = false then (r.2.loadRefused p 0x9105).2
    else
      let header := (r.1.headD ⟨0, [], false⟩).header
      let es := r.1.flatMap (·.entries)
      let all := es.map (fun e => (e.1, e.2.1))
      let o := (List.range (fld header 240 16)).foldl (fun (acc : Reason × State) i =>
        match es.find? (fun e => e.1 == i) with
        | some e => if acc.1 ≠ 0 then acc else acc.2.loadShard p key (fld header 304 15) all e
        | none => acc) (0, r.2)
      if o.1 ≠ 0 then (o.2.loadRefused p o.1).2
      else
        let s := (o.2.stage (kUpdStep p) (fld header 96 64 + 1)).stage (kNormPrev p) (fld header 160 32)
        (s.setJob p { s.job p with restoring := true, snapStep := fld header 96 64 }).ckptIdle p

/-- CKPT_LOAD (R319). -/
def execCkptLoad (r : Requester) (p : Fin 8) (s : State) : Host.Outcome State Fault Refusal :=
  .next (s.writeU8 r (0x8010 + p.val) 0x0D false (ckptLoadOp p.val 1))

/-! ### Settings (R326) -/

/-- Whether a virtual address lies in the host window. -/
def State.inHost (s : State) (p va : Nat) : Bool :=
  match s.translate p va with
  | .here a =>
    match placeOf a with
    | .host _ => true
    | _ => false
  | _ => false

/-- The ranges of R326, with what a charter narrows (R338). -/
def State.ckptRangesOk (s : State) (p : Nat) : Bool :=
  let v := fun (k : Nat) => s.stagedReg k
  let cap := match (s.part p).charter with
    | some c => min 2048 c.maxLost
    | none => 2048
  let hostOk := match (s.part p).charter with
    | some c => c.hostDrain || !s.inHost p (v (kDrainAddr p))
    | none => true
  decide (v (kDrainBpu p) ≤ 100000) && decide (v (kMaxLost p) ≤ cap) && decide (5 ≤ v (kShrinkWaitMs p)) &&
    decide (v (kShrinkWaitMs p) ≤ 1000) && hostOk

/-- The check of a key slot that must have an attribute, after that of R17. -/
def State.slotCheck (s : State) (p h attr : Nat) : Reason :=
  let r := s.checkHandle 9 8 p h
  if r ≠ 0 then r else if (s.keySlot (hIndex h)).attr ≠ attr then 0x9301 else 0

/-- The checks and commit of CKPT_ENABLE. -/
def ckptOp (p : Nat) (s : State) : Reason × State :=
  let h := s.stagedReg (kCkptFence p)
  let k1 := s.slotCheck p (s.stagedReg (kCkptKeySlot p)) 0
  let k2 := s.slotCheck p (s.stagedReg (kRestoreKeySlot p)) 1
  let r := firstOf [
    (!s.ckptRangesOk p, 0x9002),
    (s.reg (kGustEnable p) == 1, 0x9202),
    (k1 != 0, k1),
    (k2 != 0, k2),
    (s.checkHandle 9 4 p h != 0, s.checkHandle 9 4 p h)]
  if r ≠ 0 then (r, s.setReg (kCkptRefusal p) r) else (0, s.commitStaged (groupKeys (0x8010 + p)))

/-- CKPT_ENABLE (R326). -/
def execCkptEnable (r : Requester) (p : Fin 8) (s : State) : Host.Outcome State Fault Refusal :=
  .next (s.writeU8 r (0x8010 + p.val) 0x0A true (ckptOp p.val))

end Sys2Proof.Machine
end

