-- ==== Sys2Proof/Machine/Objects.lean ====
section
/-! DEFINITION. Run-time objects (R385 to R388, R394, R397 to R399): references, creation and
destruction, mapping, what waits for a start boundary (R211, R399), and the completion of queue
commands (R391, R392). -/

namespace Sys2Proof.Machine

/-! ### References (R387) -/

/-- The entry of a queue command: header and parameter area (R391). -/
def entryBits (c : Instr) : Nat :=
  match c with
  | .createObj _ _ _ e => e.toNat
  | .destroyObj _ _ _ e => e.toNat
  | .mapPages _ _ _ e => e.toNat
  | .unmapPages _ _ _ e => e.toNat
  | .signalFence _ _ _ e => e.toNat
  | .submitJob _ _ _ e _ => e.toNat
  | .copyBytes _ _ _ e => e.toNat
  | .setJobFence _ _ _ e => e.toNat
  | _ => 0

/-- WAIT_FENCE and the parameter area of an entry (R391). -/
def waitFence (e : Nat) : Handle := fld e 64 32
def params (e : Nat) : Nat := fld e 256 640

/-- The handles that live objects, committed settings and waiting commands name, with repeats. -/
def State.namings (s : State) : List Handle :=
  let o := s.objs
  o.queues.flatMap (fun q => [q.fence, q.creator] ++ (q.waiting.toList.filter (fun c => bit (entryBits c) 12)).map (fun c => waitFence (entryBits c))) ++
    o.streams.flatMap (fun x => [x.fence, x.memobj]) ++ o.groups.map Group.fence ++
    o.contexts.map (·.jobFence) ++ o.memobjs.map (·.creator) ++
    parts8.flatMap (fun p => [s.reg (kUpdFence p), s.reg (kCkptFence p)])

/-- Live objects whose creator still holds its reference: handle and creator. -/
def State.creators (s : State) : List (Handle × Handle) :=
  let o := s.objs
  (o.fences.filter (fun x => !x.dying)).map (fun x => (x.handle, x.creator)) ++
    (o.memobjs.filter (fun x => !x.dying)).map (fun x => (x.handle, x.creator)) ++
    (o.contexts.filter (fun x => !x.dying)).map (fun x => (x.handle, x.creator)) ++
    (o.queues.filter (fun x => !x.dying)).map (fun x => (x.handle, x.creator)) ++
    (o.channels.filter (fun x => !x.dying)).map (fun x => (x.handle, x.creator)) ++
    (o.streams.filter (fun x => x.state != 3)).map (fun x => (x.handle, x.creator)) ++
    (o.groups.filter (fun x => x.state != 3)).map (fun x => (x.handle, x.creator))

/-- REFS of an object. -/
def State.refs (s : State) (h : Handle) : Nat :=
  (s.creators.filter (fun c => c.1 == h)).length + (s.namings.filter (fun x => x == h)).length

/-- Objects that are destroy pending, but for streams and groups. A channel that copies is held by its
copy. -/
def State.dyingObjects (s : State) : List Handle :=
  let o := s.objs
  (o.fences.filter (·.dying)).map (·.handle) ++ (o.memobjs.filter (·.dying)).map (·.handle) ++
    (o.contexts.filter (·.dying)).map (·.handle) ++ (o.queues.filter (·.dying)).map (·.handle) ++
    (o.channels.filter (fun c => c.dying && c.busy.isNone)).map (·.handle)

/-- Objects freed: their slots' generations advance (R15), and streams and groups raise their events. -/
def State.freeObjects (s : State) (pick : Handle → Bool) : State :=
  let gone := s.handles.filter pick
  let o := s.objs
  let keep := fun (h : Handle) => !pick h
  let gens := gone.foldl (fun t h => tabSet t (genKey (hType h) (hPart h) (hIndex h)) (nextGen (hGen h))) o.gens
  let s := { s with objs := { o with
    fences := o.fences.filter (fun x => keep x.handle), memobjs := o.memobjs.filter (fun x => keep x.handle)
    contexts := o.contexts.filter (fun x => keep x.handle), queues := o.queues.filter (fun x => keep x.handle)
    streams := o.streams.filter (fun x => keep x.handle), groups := o.groups.filter (fun x => keep x.handle)
    channels := o.channels.filter (fun x => keep x.handle), gens := gens } }
  gone.foldl (fun s h =>
    if hType h = 5 then s.event 0x03000006 0 (hIndex h)
    else if hType h = 7 then s.event 0x0700000D 0 (hIndex h) else s) s

/-- Every destroy-pending object that nothing names any more is freed, until none is left. -/
def State.sweepGo : Nat → State → State
  | 0, s => s
  | fuel + 1, s =>
    let dead := s.dyingObjects.filter (fun h => s.refs h == 0)
    if dead.isEmpty then s else State.sweepGo fuel (s.freeObjects (fun h => dead.contains h))

def State.sweep (s : State) : State := State.sweepGo s.handles.length s

/-- Streams and groups that are destroy pending become free: the transfer of such a stream has ended
(R211). -/
def State.freePending (s : State) (p : Nat) : State :=
  let busy := s.transfers.map (·.stream)
  let gone := (s.objs.streams.filter (fun x => x.state == 3 && hPart x.handle == p && !busy.contains x.handle)).map (·.handle) ++
    (s.objs.groups.filter (fun x => x.state == 3 && hPart x.handle == p)).map (·.handle)
  if gone.isEmpty then s else (s.freeObjects (fun h => gone.contains h)).sweep

/-- Every object of a partition freed regardless of REFS (R345, R387). -/
def State.releaseObjects (s : State) (p : Nat) : State :=
  let s := s.freeObjects (fun h => hPart h == p)
  { s with objs := { s.objs with deferred := s.objs.deferred.filter (fun c =>
      match c with
      | .mapPages _ q _ _ => q.val != p
      | .unmapPages _ q _ _ => q.val != p
      | _ => true) } }

/-! ### Creation (R210, R269, R393, R394) -/

/-- The lowest free slot of a type's table, as the handle that an object made in it bears; none where
the table, or the partition's share of it, is full (R385). -/
def State.newHandle (s : State) (t p : Nat) : Option Handle :=
  let used := (s.handles.filter (fun h => hType h == t && (!perPartition t || hPart h == p))).map hIndex
  ((List.range (tableSize t)).find? (fun i => !used.contains i)).map (fun i =>
    mkHandle t p (tabGet s.objs.gens (genKey t p i) 1) i)

/-- Whether `[va, va + n)` lies wholly in near memory. -/
def State.nearSpan (s : State) (p va n : Nat) : Bool :=
  decide (n ≤ nearEnd) && (List.range ((va + max n 1 - 1) / 65536 - va / 65536 + 1)).all (fun i =>
    s.inNear p (max va ((va / 65536 + i) * 65536)))

/-- A fence that a device-signalled object names, once it stands under R17 (R394). -/
def State.deviceFence (s : State) (h : Handle) : Reason :=
  match s.fence? h with
  | none => 0
  | some f => if f.hostSignal then 0xA105 else if f.dying then 0xA201 else 0

/-- What a creation answers: its reason, and the handle made. -/
abbrev Made := (Reason × Handle) × State

/-- The creation of an object of type `t` where its table has room. -/
def State.make (s : State) (t p : Nat) (put : Handle → Objects → Objects) : Made :=
  match s.newHandle t p with
  | none => ((0xA401, 0), s)
  | some h => ((0, h), { s with objs := put h s.objs })

/-- CREATE of a stream (R209 to R211): `r` is the record. While the grid does not run it is armed at
once, for the next gust. -/
def State.createStream (s : State) (p ctx r : Nat) : Made :=
  let x := fld r 41 3
  let ring := bit r 44
  let fence := fld r 64 32
  let memobj := fld r 96 32
  let fc := s.checkHandle 3 4 p fence
  let mc := s.checkHandle 3 3 p memobj
  let dying := match s.memobj? memobj with
    | some m => m.dying
    | none => false
  let own := if fc = 0 then s.deviceFence fence else 0
  let bad := firstOf [(own != 0, own), (mc == 0 && dying, 0xA201)]
  if bad ≠ 0 then ((bad, 0), s)
  else
    let refused := firstOf [
      (decide (6 ≤ x), 0x3005),
      (s.clusterPart (fld r 32 9) != some p, 0x3301),
      (fc != 0, fc), (mc != 0, mc),
      (ring && (fld r 192 64 % 16 != 0 || !s.nearSpan p (fld r 192 64) (16 * (fld r 48 16 + 1))), 0x3106),
      (!ring && fld r 128 64 % 64 != 0, 0x3102),
      (s.objs.streams.any (fun y => y.cluster == fld r 32 9 && y.context == x), 0x3401)]
    if refused ≠ 0 then ((refused, 0), s.setReg kStreamRefusal refused)
    else
      let on := (s.grid p).on
      let m := s.make 5 p (fun h o => { o with streams := o.streams ++ [⟨h, ctx, fld r 32 9, x, ring, if on then 1 else 2,
        fld r 48 16, fence, memobj, if ring then 0 else fld r 128 64, fld r 192 64,
        if on then 0 else s.reg (kGustNumber p) + 1⟩] })
      if m.1.1 ≠ 0 then (m.1, m.2.setReg kStreamRefusal m.1.1)
      else (m.1, m.2.event 0x03000006 0 (hIndex m.1.2))

/-- CREATE of a collective group (R266, R269). The member table is read where it lies in near memory,
so its place is checked before what it names; CONTRIBUTORS is counted from it. -/
def State.createGroup (s : State) (p ctx r : Nat) : Made :=
  let g : Group := ⟨0, ctx, 0, r, [], false⟩
  let fc := s.checkHandle 7 4 p g.fence
  let own := if fc = 0 then s.deviceFence g.fence else 0
  if own ≠ 0 then ((own, 0), s)
  else
    let lv := g.levels
    let table := fld r 192 64
    let product := ((List.range lv).map (fun i => g.radix (i + 1))).foldl (· * ·) 1
    let c := firstOf [
      (lv == 0 || g.members == 0 || decide (16384 < g.members), 0x7006),
      (product != g.members, 0x7105),
      (!s.nearSpan p table (2 * g.members), 0x7108)]
    if c ≠ 0 then ((c, 0), s.setReg kCollRefusal c)
    else
      let t := s.readBytesVa p 7 table (2 * g.members) 1 0
      let s := t.2
      let mids := (chunksOf 2 (g.members + 1) t.1.data).map ofLe
      let me := s.reg kModuleId
      let mine := s.objs.groups.filter (fun y => hPart y.handle == p)
      let c := firstOf [
        (mids.any (fun m => m != me && (!fwdValid (s.fwdEntry p m) || fwdLender (s.fwdEntry p m))), 0x7106),
        (decide (g.members ≤ g.myRank) || mids.getD g.myRank 0 != me || (mids.take g.myRank).contains me, 0x7107),
        (!s.nearSpan p g.staging (lv * 64 * g.slotLines * 64), 0x7108),
        (mine.any (fun y => y.no == g.no) || decide (64 ≤ mine.length), 0x7402),
        (fc != 0, fc)]
      if c ≠ 0 then ((c, 0), s.setReg kCollRefusal c)
      else
        let state := if (s.grid p).on then 1 else 2
        let m := s.make 7 p (fun h o => { o with groups := o.groups ++ [⟨h, ctx, state,
          setFld r 176 15 mids.eraseDups.length, mids, false⟩] })
        if m.1.1 ≠ 0 then (m.1, m.2.setReg kCollRefusal m.1.1)
        else (m.1, m.2.event 0x0700000D 0 (hIndex m.1.2))

/-- CREATE (R393): `x` is the parameter area. -/
def State.create (s : State) (p ctx t x : Nat) : Made :=
  match t with
  | 4 =>
    s.make 4 p (fun h o =>
      let v := fld x 0 64
      let irq := fld x 64 64
      { o with fences := o.fences ++ [⟨h, ctx, false, v, false, false, false, 0, irq, fld x 128 4, bit x 132, bit x 133,
                                        irq != 0 && decide (irq ≤ v), false⟩] })
  | 3 =>
    let page := if bit x 32 then 2 ^ 21 else 2 ^ 16
    let base := fld x 64 64
    let size := fld x 128 64
    let c := firstOf [
      (base == 0 || base % page != 0 || size == 0 || size % page != 0 || decide (2 ^ 48 < base + size), 0xA002),
      (s.objs.memobjs.any (fun m => hPart m.handle == p && decide (m.base < base + size) && decide (base < m.base + m.size)),
        0xA103)]
    if c ≠ 0 then ((c, 0), s)
    else s.make 3 p (fun h o => { o with memobjs := o.memobjs ++ [⟨h, ctx, false, bit x 32, bit x 33, base, size, []⟩] })
  | 1 => s.make 1 p (fun h o => { o with contexts := o.contexts ++ [⟨h, ctx, false, false, 0, 0, 0⟩] })
  | 6 => s.make 6 p (fun h o => { o with channels := o.channels ++ [⟨h, ctx, false, none, 0⟩] })
  | 2 =>
    let fence := fld x 64 32
    let ring := fld x 128 64
    let shard := bit x 32
    let log2 := fld x 48 5
    let bytes := (if shard then 32 else 128) * 2 ^ log2
    let fc := s.checkHandle 0xA 4 p fence
    let inside := match s.memobjAt p ring with
      | some m => decide (ring + bytes ≤ m.base + m.size)
      | none => false
    let own := s.deviceFence fence
    let c := firstOf [(fc != 0, fc),
      (decide (log2 < 6) || decide (16 < log2) || ring % 128 != 0 || !inside, 0xA002),
      (own != 0, own)]
    if c ≠ 0 then ((c, 0), s)
    else s.make 2 p (fun h o => { o with queues := o.queues ++ [⟨h, ctx, false, shard, false, log2, fence, ring, 0, 0, 0, none⟩] })
  | 5 => s.createStream p ctx (fld x 0 512)
  | 7 => s.createGroup p ctx (fld x 0 512)
  | _ => ((0xA001, 0), s)

/-! ### Destruction (R387, R394) -/

/-- The contexts that go with a context: those it created, and theirs. -/
def State.ctxClosure (s : State) (h : Handle) : Nat → List Handle
  | 0 => [h]
  | n + 1 =>
    let l := s.ctxClosure h n
    (l ++ (s.objs.contexts.filter (fun c => l.contains c.creator)).map (·.handle)).eraseDups

/-- Whether a collective entry that names the group runs. -/
def State.groupRuns (s : State) (h : Handle) : Bool :=
  s.coll.active.any (fun e => (collDesc e.2).cop != 2 && (collDesc e.2).group == h)

/-- An object loses its creator's reference and is destroy pending from here on; a context takes the
creator references of all that it created with it. -/
def State.dropObject (s : State) (h : Handle) : State :=
  let l := if hType h = 1 then s.ctxClosure h 16 else []
  let hit := fun (x creator : Handle) => x == h || l.contains x || l.contains creator
  let o := s.objs
  { s with objs := { o with
    fences := o.fences.map (fun x => if hit x.handle x.creator then { x with dying := true } else x)
    memobjs := o.memobjs.map (fun x => if hit x.handle x.creator then { x with dying := true } else x)
    contexts := o.contexts.map (fun x => if hit x.handle x.creator then { x with dying := true } else x)
    queues := o.queues.map (fun x => if hit x.handle x.creator then { x with dying := true } else x)
    channels := o.channels.map (fun x => if hit x.handle x.creator then { x with dying := true } else x)
    streams := o.streams.map (fun x => if hit x.handle x.creator then { x with state := 3 } else x)
    groups := o.groups.map (fun x =>
      if hit x.handle x.creator then { x with state := 3, cut := x.cut || s.groupRuns x.handle } else x) } }

/-- DESTROY (R387, R394). -/
def State.destroy (s : State) (p ctx : Nat) (h : Handle) : Reason × State :=
  let t := hType h
  let c := s.checkHandle 0xA (if 1 ≤ t ∧ t ≤ 7 then t else 4) p h
  if c ≠ 0 then (c, s)
  else
    match s.creators.find? (fun x => x.1 == h) with
    | none => (0xA201, s)
    | some x =>
      if x.2 ≠ ctx then (0xA301, s)
      else
        let s := (s.dropObject h).sweep
        (0, if (s.grid p).on then s else s.freePending p)

/-! ### Mapping (R398, R399) -/

/-- Whether a span of global addresses may back a page of `m` (R398): populated memory of units that the
partition holds, its own clusters' cell stores and forwarding window, another module that it can reach,
or the host window. -/
def State.targetOk (s : State) (p : Nat) (m : MemObj) (t n : Nat) : Bool :=
  let a := t % 2 ^ 50
  let own := t / 2 ^ 50 == s.reg kModuleId
  if own ∧ hostBase ≤ a then decide (a + n ≤ hostEnd)
  else if m.shard then false
  else if own = false then fwdValid (s.fwdEntry p (t / 2 ^ 50))
  else
    match placeOf a with
    | .near _ _ => s.covered a n (fun u => s.unitPart u == some p)
    | .far _ _ => s.covered a n (fun u => s.unitPart u == some p)
    | .cell c o => decide (o + n ≤ cellBytes) && s.clusterPart c == some p
    | .regs o => decide (o ≤ 0x800000 + p * 0x8000) && decide (0x800000 + (p + 1) * 0x8000 ≤ o + n)
    | _ => false

/-- Free translation entries: XLATE_FREE (R398). -/
def State.xlateFree (s : State) : Nat := 1048576 - (s.objs.memobjs.map (fun m => m.pages.length)).sum

/-- MAP and UNMAP (R398): refused, none of the pages is touched. -/
def State.mapOp (s : State) (p : Nat) (unmap : Bool) (h : Handle) (page target count : Nat) : Reason × State :=
  let c := s.checkHandle 0xA 3 p h
  match s.memobj? h with
  | none => (if c ≠ 0 then c else 0xA2F0, s)
  | some m =>
    let has := fun (i : Nat) => m.pages.any (fun e => e.1 == page + i)
    let r := firstOf [
      (c != 0, c),
      (m.dying, 0xA201),
      (count == 0 || decide (65536 < count) || decide (m.size / m.pageSize < page + count) ||
        (!unmap && target % m.pageSize != 0), 0xA002),
      (!unmap && !s.targetOk p m target (count * m.pageSize), 0xA102),
      ((List.range count).any (fun i => has i != unmap), 0xA203),
      (!unmap && decide (s.xlateFree < count), 0xA402)]
    if r ≠ 0 then (r, s)
    else
      let pages := if unmap then m.pages.filter (fun e => !(decide (page ≤ e.1) && decide (e.1 < page + count)))
        else (List.range count).foldl (fun t i => tabSet t (page + i) (target + i * m.pageSize)) m.pages
      (0, { s with objs := { s.objs with memobjs := s.objs.memobjs.map (fun x =>
          if x.handle = h then { x with pages := pages } else x) } })

/-! ### Completion of queue commands (R391, R392) -/

def State.queueAt (s : State) (p q : Nat) : Option Queue :=
  s.objs.queues.find? (fun x => hPart x.handle == p && hIndex x.handle == q)

def State.setQueue (s : State) (x : Queue) : State :=
  { s with objs := { s.objs with queues := s.objs.queues.map (fun y => if y.handle = x.handle then x else y) } }

/-- Where entry HEAD of a command queue lies in host memory. -/
def State.entryAt (s : State) (p : Nat) (x : Queue) : Option Nat :=
  match s.translate p (x.ringVa + 128 * (x.head % 2 ^ x.sizeLog2)) with
  | .here a =>
    match placeOf a with
    | .host o => some o
    | _ => none
  | _ => none

/-- The result of a command (R391). -/
def resultBytes (r : Reason) (h : Handle) : List Byte := leBytes 4 r ++ leBytes 4 h ++ leBytes 8 (2 ^ 63)

/-- A command ends: its result is written, the entry is taken, and the queue's fence advances, or latches an access
outside the address map (R11). -/
def State.finishCmd (s : State) (i : Issuer) (p q : Nat) (r : Reason) (h : Handle) : State :=
  let s := if r = 0 then s else s.setReg kHostRefusal r
  match i with
  | .jobServices => s
  | .driver =>
    match s.queueAt p q with
    | none => s
    | some x =>
      let s := if r = mkReason 0xA 0 0xF8 then s.latch x.fence r false else s
      let s := match s.entryAt p x with
        | some a => s.hostWrite (a + 112) (resultBytes r h)
        | none => s
      ((s.setQueue { x with head := (x.head + 1) % 65536, waiting := none }).signal x.fence 1).sweep

/-- The MAP and UNMAP commands of a partition that waited act, and their results are written (R399). -/
def State.runDeferred (s : State) (p : Nat) : State :=
  let mine := fun (c : Instr) => match c with
    | .mapPages _ q _ _ => q.val == p
    | .unmapPages _ q _ _ => q.val == p
    | _ => false
  let l := s.objs.deferred.filter mine
  let s := { s with objs := { s.objs with deferred := s.objs.deferred.filter (fun c => !mine c) } }
  l.foldl (fun s c =>
    match c with
    | .mapPages i p q e =>
      let x := params e.toNat
      let r := s.mapOp p.val false (fld x 0 32) (fld x 32 32) (fld x 64 64) (fld x 128 32)
      r.2.finishCmd i p.val q.val r.1 0
    | .unmapPages i p q e =>
      let x := params e.toNat
      let r := s.mapOp p.val true (fld x 0 32) (fld x 32 32) 0 (fld x 64 32)
      r.2.finishCmd i p.val q.val r.1 0
    | _ => s) s

/-- Created streams and groups become armed and active, for the gust of a number (R211). -/
def State.armObjects (s : State) (p gust : Nat) : State :=
  let o := s.objs
  { s with objs := { o with
    streams := o.streams.map (fun x => if hPart x.handle = p ∧ x.state = 1 then { x with state := 2, armGust := gust } else x)
    groups := o.groups.map (fun x => if hPart x.handle = p ∧ x.state = 1 then { x with state := 2 } else x) } }

/-- What takes effect in calm window 0 of a start boundary, or at once when the grid stops: pending
destructions and creations (R211), accepted mappings (R399). -/
def State.settleObjects (s : State) (p gust : Nat) : State :=
  ((s.freePending p).armObjects p gust).runDeferred p

end Sys2Proof.Machine
end

