-- ==== Sys2Proof/Machine/Teardown.lean ====
section
/-! DEFINITION. What ends a partition: the collapse of cluster groups (R333), ordinary and forced teardown
(R344, R345), and a breach of the tamper mesh (R205, R374). -/

namespace Sys2Proof.Machine

/-! ### Cluster groups (R333, R444) -/

/-- The CLUSTER_READY bits of a group's sixteen clusters. -/
def State.setGroupReady (s : State) (g bits : Nat) : State :=
  let k := kClusterReady (g / 4 + 1)
  s.setReg k (setFld (s.reg k) (16 * (g % 4)) 16 bits)

/-- The collapse of a group begins: its cell stores, held accumulators and loaded table slots are
destroyed, and none of its clusters is ready. -/
def State.collapseGroup (s : State) (g : Nat) : State :=
  let lo := cellBase + 16 * g * cellBytes
  let s := { s with
    mem := { s.mem with ram := memForget s.mem.ram lo (lo + 16 * cellBytes)
                        cellPoison := memForget s.mem.cellPoison (16 * g * cellLines) ((16 * g + 16) * cellLines) }
    held := s.held.filter (fun e => e.1 / 16 != g)
    slots := s.slots.filter (fun e => e.1 / 256 != g)
    power := { s.power with cgDown := setBit s.power.cgDown g, cgColl := setBit s.power.cgColl g } }
  (s.setGroupReady g 0).setRegBit kCgCollapsed g false

/-- Clusters of a group that can report ready: in service (R116), with a boot test passed (R441). -/
def State.usable (s : State) (g : Nat) : List Nat :=
  (List.range 16).filter (fun i => s.clusterWidth (16 * g + i) != 0 && !s.power.failed.contains (16 * g + i))

/-- A group's clusters report ready, those that failed an in-field test of R452 among them: R114 does not say that
such a test takes the bit back, and their width changes at the next boot only (DESIGN CHOICE, log entry 115). A
group that no partition holds counts as collapsed (R333). -/
def State.groupReady (s : State) (g : Nat) : State :=
  let s := { s with power := { s.power with cgDown := clearBit s.power.cgDown g, cgColl := clearBit s.power.cgColl g } }
  let s := s.setGroupReady g (ofBits (s.usable g))
  if (s.holderOf Part.cgMap g).isNone then s.setRegBit kCgCollapsed g true else s

/-- CG_COLLAPSE_DONE (R333): a collapse that is under way ends; after a trip none does before the die has
cooled (R450). -/
def execCgCollapseDone (g : Fin 32) (s : State) : Host.Outcome State Fault Refusal :=
  .next (if bit s.power.cgColl g.val = false ∨ s.power.tripped ∨ s.power.mode ≠ .running then s else s.groupReady g.val)

/-! ### Teardown (R344, R345) -/

/-- Step 1: the pass is abandoned, every module of the job is told, and the grid stops. -/
def State.haltPart (s : State) (p : Nat) (reason : Reason) : State :=
  let g := s.grid p
  let s := if g.on ∧ g.held = false then
      let m := mkTiming 5 1 (s.reg kModuleId % 2 ^ 14) (s.jobIdOf p) g.nextPoint 0 reason
      let s := { s with fabric := { s.fabric with seen := s.fabric.seen ++ [noticeId m] } }
      (s.abortHere p reason false 0).sendNotice p m none
    else s
  let s := (s.setGrid p Grid.idle).setReg (kGustEnable p) 0
  (s.objs.fences.filter (fun f => hPart f.handle == p)).foldl (fun s f => s.latch f.handle reason false) s

/-- Step 2: keys, secret and generator key go; the IDE stream's keys are invalid, and a forced teardown takes the TDI to
ERROR. -/
def State.dropKeys (s : State) (p : Nat) (forced : Bool) : State :=
  let s := (s.sec.keys.filter (fun k => k.2.live && k.2.owner == p)).foldl (fun s k => s.destroySlot k.1) s
  let s := s.setPart p { s.part p with secret := none, genKey := [], salt := [], dataKeys := [], shares := [], ckptKeys := none
                                       ideKeyed := false
                                       tdi := if forced then .error else (s.part p).tdi }
  (s.setRegBit kGenKeyLoaded p false).setGenSource p true

/-- Step 3: the partition's ranges return to free, quarantined ones too (R201), and its compatibility
keys with them. -/
def State.dropRanges (s : State) (p : Nat) : State :=
  let s := ((List.range 64).filter (fun e => s.reg (kRangeState e) != 0 && s.reg (kOwner e) == p)).foldl State.freeRange s
  (List.range 256).foldl (fun s i => if s.reg (kCompatKey p i) = 0 then s else s.setReg (kCompatKey p i) 0) s

/-- Step 4: ports DOWN and without owner; the forwarding table and what is outstanding go with them. -/
def State.dropPorts (s : State) (p : Nat) : State :=
  let s := ((List.range 16).filter (fun n => s.reg (kPortOwner n) == p)).foldl
    (fun s n => (s.downPort n).setReg (kPortOwner n) 0xFF) s
  let f := s.fabric
  let keep := fun (t : Tab Nat) => t.filter (fun e => e.1 / 16384 != p)
  { s with fabric := { f with fwd := keep f.fwd, fwdNext := keep f.fwdNext, fwdStaged := keep f.fwdStaged
                              shareNext := tabErase f.shareNext p
                              remotes := f.remotes.filter (fun r => r.part != p) } }.setReg (kFwdState p) 0

/-- Step 6: the partition's units leave it; its groups collapse and its memory is scrubbed, before a pending map may
take effect there (R206). -/
def State.dropUnits (s : State) (p : Nat) : State :=
  let x := s.part p
  let s := s.setPart p { x with cgMap := 0, stackMap := 0, fgMap := 0, portMap := 0 }
  let s := ((s.setReg (kCgMap p) 0).setReg (kPartStackMap p) 0).setReg (kFargroupMap p) 0
  let s := (bitsOf x.cgMap 32).foldl State.collapseGroup (s.setReg (kPortMap p) 0)
  (bitsOf x.stackMap 16 ++ (bitsOf x.fgMap 16).map (16 + ·)).foldl State.startScrub s

/-- The job goes with its partition: objects, bindings, streams and engines. -/
def State.dropJob (s : State) (p : Nat) : State :=
  let s := ((s.releaseObjects p).dropHeld p).dropColl p
  let s := { s with bindings := s.bindings.filter (fun b => b.part != p)
                    running := s.running.filter (fun r => r.part != p)
                    stalled := s.stalled.filter (fun r => r.part != p)
                    transfers := s.transfers.filter (fun t => t.part != p)
                    jobs := tabErase s.jobs p }
  let s := s.setPart p { s.part p with charter := none, stopping := false }
  let s := ((s.setReg (kCharterDigest p) 0).setReg (kJobId p) 0).setReg (kKeysDelivered p) 0
  ((s.setReg (kNoiseFloor p) 0).setReg (kCkptState p) 0).setReg (kGustKind p) 0

/-- A teardown (R345): its steps, done together. -/
def State.teardown (s : State) (p : Nat) (forced : Bool) (reason : Reason) : State :=
  let st := (s.part p).state
  if st = stFree then s
  else
    let s := (s.setPartState p stTeardown).event (if forced then 0x0B040044 else 0x0B030043) reason p
    let s := (((s.haltPart p reason).dropKeys p forced).dropRanges p).dropPorts p
    let s := ((s.bumpEpoch p).dropJob p).withCap (·.dropUnits p)
    (s.dropStaged (groupKeys (0x3010 + p))).setPartState p stFree

/-- An ordinary teardown (R344): a gust that runs ends first, at the next start boundary. -/
def State.stopPart (s : State) (p : Nat) : State :=
  if (s.part p).state = stRunning ∧ (s.grid p).inGust then
    (s.setPart p { s.part p with stopping := true }).pauseRequest p
  else s.teardown p false 0xB247

/-- The states that a teardown leaves from (R330). -/
def mayStop (st : Nat) : Bool := decide (2 ≤ st) && decide (st ≤ 5)

/-! ### The tamper mesh -/

/-- TAMPER_BREACH (R205, R330): the keys go, the TAMPER_COUNT blow starts, every range is quarantined, and
every partition faults and is torn down. With every count bit blown already there is no blow to wait
for. A life-cycle transition goes on at the next start (R377). -/
def execTamperBreach (s : State) : Host.Outcome State Fault Refusal :=
  if s.power.mode = .off then .next s
  else
    let s := s.zeroise.setReg kTamperState 1
    let full := decide (32 ≤ popCount (tabGet s.sec.fuses 18 0) 32)
    let s := { s with sec := { s.sec with breached := true, tamperBlow := !full, transition := none } }
    let s := ((List.range 64).filter (fun e => s.reg (kRangeState e) != 0)).foldl
      (fun s e => s.setReg (kRangeState e) 2) s
    let s := (s.event 0x06040003 0x6503 0).faultParts parts8 0x6503
    let s := parts8.foldl (fun s p => s.teardown p true 0xB245) s
    .next (if full then s.scrubModule else s)

end Sys2Proof.Machine
end

