-- ==== Sys2Proof/Machine/Gust.lean ====
section
/-! DEFINITION. The gust grid's operations: settings and their commit (R48 to R51), bindings (R56 to R58),
start boundaries with re-arming and clocks (R44, R59, R212, R449), pauses and stops (R83), and what goes
with a plan being short of END (R77). -/

namespace Sys2Proof.Machine

/-! ### Settings (R46 to R51) -/

/-- N_CALM of a period (R46). -/
def nCalm (period : Nat) : Nat := ceilDiv period 1000

/-- The budget of a gust in microseconds (R47). -/
def budgetUs (period calm lead : Nat) : Int := (period : Int) - (nCalm period * calm : Nat) - lead

/-- A refusal of the gust entry (R48). -/
def State.gustRefuse (s : State) (p : Nat) (r : Reason) : Reason × State := (r, s.setReg (kGustRefusal p) r)

/-- The checks of R49, and after them that a module which became UNALIGNED or was found lost takes part in the job again
only through a rejoin (R76, R320): its grid is refused with the code of R76 (DESIGN CHOICE, log entry 127). -/
def State.gustCheck (s : State) (p : Nat) : Reason :=
  let v := fun (k : Nat) => s.stagedReg k
  let period := v (kGustPeriodUs p)
  let lead := v (kSlipLeadUs p)
  let hops := v (kJobHops p)
  let limit := v (kSlipLimit p)
  firstOf [
    (s.reg (kGustEnable p) == 1 || (s.grid p).stopping, 0x1201),
    (decide (period < 10) || decide (20000 < period) || !([2, 4, 8].contains (v (kCalmLenUs p))) || lead == 0 ||
      decide (8 < lead) || decide (6 < hops) || limit == 0 || decide (64 < limit), 0x1001),
    (decide (lead * 100 < 58 + 65 * hops), 0x1105),
    (decide (v (kStartTimeNs p) < s.now + 2 * period * 1000), 0x1601),
    (decide (0 < hops) && s.reg kAlignState != 1, 0x1202),
    ((s.job p).away, 0x1603)]

/-- The grid starts: point 0 lies at START_TIME_NS. A partition that is HELD runs again, and its next step
is due (R150, R307, R330). -/
def State.startGrid (s : State) (p : Nat) : State :=
  let g := s.grid p
  let held := (s.part p).state == stHeld
  let t := s.reg (kStartTimeNs p)
  let s := (s.setReg (kGustEnable p) 1).setGrid p
    { Grid.idle with on := true, nextPoint := t, boundary := t, stepDue := g.stepDue || held, ingest := g.ingest && !held }
  let s := if held then s.setPartState p stRunning else s
  s.decideSource p

/-- The write of 1 to GUST_ENABLE (R49). -/
def gustOnOp (p : Nat) (s : State) : Reason × State :=
  let r := s.gustCheck p
  if r ≠ 0 then s.gustRefuse p r else (0, (s.commitStaged (groupKeys (0x2010 + p))).startGrid p)

/-- The grid stops (R51): what waited for a boundary takes effect at once. -/
def State.stopGrid (s : State) (p : Nat) : State :=
  let g := s.grid p
  let s := (s.setReg (kGustEnable p) 0).setGrid p { Grid.idle with stepDue := g.stepDue, ingest := g.ingest }
  let s := s.settleObjects p (s.reg (kGustNumber p) + 1)
  if s.reg (kFwdState p) = 1 then s.applyFwd p else s

/-- The write of 0 to GUST_ENABLE (R51). -/
def gustOffOp (p : Nat) (s : State) : Reason × State :=
  if s.reg (kGustEnable p) = 0 then (0, s)
  else
    let g := s.grid p
    if g.inGust then (0, ((s.setReg (kGustEnable p) 0).setGrid p { g with stopping := true }).pauseRequest p)
    else (0, s.stopGrid p)

/-! ### Bindings (R52 to R58) -/

/-- A plan's entries that keep the points of R56. -/
def planWellFormed (kind endCycle count : Nat) (entries : List Nat) : Bool :=
  let unit := fun (e : Nat) => fld e 32 4
  let at_ := fun (e : Nat) => fld e 0 32
  let body := entries.dropLast
  decide (1 ≤ count) && entries.length == count &&
    (match entries.getLast? with
      | some e => unit e == 15 && at_ e == endCycle && fld e 64 64 == 0
      | none => false) &&
    body.all (fun e => (if kind = 1 then decide (unit e ≤ 8) else unit e == 9) && fld e 64 64 != 0 && fld e 64 64 % 64 == 0) &&
    (entries.zip (entries.drop 1)).all (fun x => decide (at_ x.1 ≤ at_ x.2)) &&
    decide ((body.map (fun e => (unit e, at_ e))).Nodup)

/-- The kind of plan that a UNIT_ID runs (R53, R58). -/
def unitKind (u : Nat) : Nat := if u < 512 then 1 else if u ≤ 0x202 then u - 0x200 + 2 else 5

/-- The checks of R58, in its order. -/
def State.bindCheck (s : State) (p : Nat) (b h : Nat) (entries : List Nat) : Reason :=
  let u := fld b 0 10
  let kind := fld h 16 4
  let band := fld h 20 4
  let width := fld h 24 8
  let f := fld h 32 16
  let v := fun (k : Nat) => s.stagedReg k
  let budget := budgetUs (v (kGustPeriodUs p)) (v (kCalmLenUs p)) (v (kSlipLeadUs p))
  let rev := fld h 48 16
  firstOf [
    (decide (0x207 ≤ u) || decide (6 < fld b 10 4) || fld b 64 64 % 64 != 0 || fld h 0 16 != 2 ||
      (if kind = 1 then decide (width < 60) || decide (64 < width) else width != 0) ||
      decide (f < 750) || decide (1500 < f) || f % 25 != 0 || kind == 0 || decide (5 < kind) || decide (1 < band), 0x1004),
    (decide (u < 512) && s.clusterPart u != some p, 0x1301),
    (kind != unitKind u, 0x110F),
    (decide (u < 512) && decide (s.clusterWidth u < width), 0x1101),
    (fld h 64 32 != v (kGustPeriodUs p) || fld h 96 8 != v (kCalmLenUs p) || fld h 104 8 != v (kSlipLeadUs p), 0x1102),
    (decide (92 * fld h 128 32 < 100 * fld h 160 32), 0x1103),
    (decide ((fld h 128 32 : Int) ≠ budget * f), 0x1104),
    (!planWellFormed kind (fld h 160 32) (fld h 192 32) entries, 0x1106),
    (rev / 256 != s.seqIfRev / 256 || decide (s.seqIfRev % 256 < rev % 256), 0x1107),
    (fld h 112 8 != b2n (bit (s.reg kCompatPartitions) p), 0x110E),
    (fld b 32 32 != s.reg kColmapGen, 0x1203),
    (decide (u < 512) && !bit (s.reg (kClusterReady (u / 64 + 1))) (u % 64), 0x1204),
    (decide (0x203 ≤ u) && !bit (s.reg kSamplerEnable) (u - 0x203), 0x1206),
    (s.bindings.any (fun x => x.part == p && x.unitId == u && x.kind == fld b 10 4), 0x1401)]

/-- The cluster plans bound for a partition, of every kind. -/
def State.clusterPlans (s : State) (p : Nat) : List Binding := s.bindings.filter (fun b => b.part == p && decide (b.unitId < 512))

/-- F_FLOOR (R70): the smallest 25 MHz step at or above END_CYCLE over the budget, for every bound cluster
plan. -/
def State.fFloor (s : State) (p : Nat) : Nat :=
  ((s.clusterPlans p).map (fun b => if b.budgetUs = 0 then 750 else 25 * ceilDiv b.endCycle (25 * b.budgetUs))).foldl max 750

/-- An accepted binding (R58, R59): while the grid runs it takes effect at the next start boundary. -/
def State.bind (s : State) (p b h : Nat) (entries : List Nat) : State :=
  let budget := (budgetUs (s.stagedReg (kGustPeriodUs p)) (s.stagedReg (kCalmLenUs p)) (s.stagedReg (kSlipLeadUs p))).toNat
  let x : Binding := ⟨p, fld b 0 10, fld b 10 4, fld h 24 8, fld h 32 16, fld h 160 32, budget, fld h 20 4, entries, (s.grid p).on⟩
  let s := { s with bindings := s.bindings ++ [x] }
  s.setReg (kFFloorMhz p) (s.fFloor p)

/-- One binding entry, checked and bound. -/
def State.bindPlan (s : State) (p : Nat) (b : PlanIn) : Reason × State :=
  let r := s.bindCheck p b.binding.toNat b.header.toNat (b.entries.map BitVec.toNat)
  if r ≠ 0 then s.gustRefuse p r else (0, s.bind p b.binding.toNat b.header.toNat (b.entries.map BitVec.toNat))

/-- PLAN_BINDING (R58). -/
def execPlanBinding (p : Fin 8) (b : PlanIn) (s : State) : Host.Outcome State Fault Refusal :=
  .next (s.bindPlan p.val b).2

/-! ### Start boundaries -/

/-- The plans that the units of a partition run in the gust in progress. -/
def State.plansNow (s : State) (p : Nat) : List Binding :=
  s.bindings.filter (fun b => b.part == p && b.kind == s.reg (kGustKind p) && !b.fresh)

/-- Whether a bound unit is short of END (R77). -/
def State.short (s : State) (p : Nat) : Bool :=
  (s.plansNow p).any (fun b => !(s.grid p).ended.contains b.unitId)

/-- Whether a context's ring entry is the one of gust `g`: its new base, or the reason it is refused. -/
def State.rearmOne (s : State) (p g : Nat) (x : Stream) : State :=
  if (s.grid p).held ∨ hPart x.handle ≠ p ∨ x.state ≠ 2 ∨ x.ring = false then s
  else
    let va := x.ringAddr + 16 * (((g : Int) - x.armGust) % ((x.ringLen : Int) + 1)).toNat
    let r := s.readBytesVa p 3 va 16 1 0
    let e := ofLe r.1.data
    let c := firstOf [(fld e 64 64 != g, 0x3601), (fld e 0 64 % 64 != 0, 0x3102)]
    let s := (r.2.latch x.fence r.1.err false).closeRanges
    let s := if r.1.poison then s.poisonFence x.fence else s
    if c ≠ 0 then ((s.setReg kStreamRefusal c).event 0x03030005 c (hIndex x.handle)).faultPart p c
    else
      { s with objs := { s.objs with streams := s.objs.streams.map (fun (y : Stream) =>
          if y.handle = x.handle then { y with base := fld e 0 64 } else y) } }.bumpReg kRearms 1

/-- Re-arming at the boundary that starts gust `g` (R212). -/
def State.rearm (s : State) (p g : Nat) : State := s.objs.streams.foldl (fun s x => s.rearmOne p g x) s

/-- F_CORE of a partition at a start boundary (R449): the conditions of R447 lower it, their absence for
10 ms raises it, within F_TARGET, F_PLAN and F_FLOOR. -/
def State.throttle (s : State) (p : Nat) : State :=
  let t2 := (bitsOf (s.part p).stackMap 16 ++ (bitsOf (s.part p).fgMap 16).map (16 + ·)).any (fun u => decide (2 ≤ s.band u))
  let bits := s.power.conditions + (if t2 then 4 else 0) + (if bit s.power.squalled p then 16 else 0)
  let prev := s.reg (kFCoreMhz p)
  let s := if bits = 0 then s else { s with power := { s.power with lastHot := s.now } }
  let f := if bits ≠ 0 then prev - 25 else if s.power.lastHot + 10000000 ≤ s.now then prev + 25 else prev
  let plan := ((s.clusterPlans p).map (·.fPlan)).foldl min 1500
  let f := min (max (min (min f (s.reg (kFTargetMhz p))) plan) (s.fFloor p)) plan
  let sq := if s.power.squall.isSome then setBit s.power.squalled p else clearBit s.power.squalled p
  let s := { s with power := { s.power with squalled := sq } }
  let s := ((s.setReg kThrottleReason bits).setReg (kFCoreMhz p) f).setReg (kFFloorMhz p) (s.fFloor p)
  if f = prev then s else s.event 0x0C010009 0 p

/-- What ends a gust at a boundary (R109, R279): commits, and held accumulators gone. -/
def State.endGust (s : State) (p : Nat) : State := (s.commitGust p).dropHeld p

/-- The step that is due opens; a gust in which it did not has no unit that issues (R69). -/
def State.openAtBoundary (s : State) (p : Nat) : State :=
  let r := s.openStep p
  let s := r.2
  if r.1 then s else s.setGrid p { s.grid p with ended := (s.bindings.filter (fun b => b.part == p)).map (·.unitId) }

/-- A start boundary (R44), the gust before it ended: the gust number rises, what waited for the boundary takes
effect in calm window 0, and the gust begins. A pause point still to come keeps the point at which it resumes (R83).
-/
def State.startGust (s : State) (p : Nat) : State :=
  let g := s.grid p
  let point := g.nextPoint
  let s := s.setGrid p { g with inGust := true, paused := false, slip := false, slipped := 0
                                resumeAt := if g.pauseAt.isSome then g.resumeAt else none
                                ended := [], warned := false, late := false, boundary := point
                                started := point, progress := []
                                nextPoint := point + s.reg (kGustPeriodUs p) * 1000 }
  let s := s.bumpReg (kGustNumber p) 1
  let n := s.reg (kGustNumber p)
  let s := { s with bindings := s.bindings.map (fun (b : Binding) => if b.part = p then { b with fresh := false } else b) }
  let s := s.settleObjects p n
  let s := if s.reg (kFwdState p) = 1 then s.applyFwd p else s
  let s := ((s.rearm p n).lowerBands p).throttle p
  if (s.grid p).held then s
  else
    let s := s.openAtBoundary p
    s.warnBand p

end Sys2Proof.Machine
end

