-- ==== Sys2Proof/Machine/Elastic.lean ====
section
/-! DEFINITION. Shrinking and rejoining (R320 to R325): the lost set, the rebuild of a job's groups, and the
return of a module into its rank. -/

namespace Sys2Proof.Machine

/-! ### The lost set (R320) -/

/-- The modules of a partition's job, this one among them. -/
def State.jobModules (s : State) (p : Nat) : List Nat :=
  ((s.objs.groups.filter (fun g => hPart g.handle == p)).flatMap (·.mids)).eraseDups

/-- LIVENESS_REPORT (R320): a survivor's report or lost set, while the shrink waits. -/
def execLivenessReport (p : Fin 8) (l : Liveness) (s : State) : Host.Outcome State Fault Refusal :=
  let j := s.job p.val
  if j.shrinkAt.isNone then .next s
  else
    .next (match l with
      | .report m => s.setJob p.val { j with reports := (j.reports ++ [m.toNat]).eraseDups }
      | .lostSet m ms =>
        s.setJob p.val { j with reports := (j.reports ++ [m.toNat]).eraseDups
                                lost := (j.lost ++ ms.map BitVec.toNat).eraseDups })

/-- The members that this module takes as lost: those without a report. -/
def State.missing (s : State) (p : Nat) : List Nat :=
  (s.jobModules p).filter (fun m => m != s.reg kModuleId && !(s.job p).reports.contains m)

/-- The union that the wait fixes: members without a report, and those that others named. -/
def State.lostSet (s : State) (p : Nat) : List Nat :=
  (s.jobModules p).filter (fun m => (s.missing p).contains m || (s.job p).lost.contains m)

/-- This module's lost set is sent to all survivors, once per shrink (R320 step 3). -/
def State.sendLost (s : State) (p : Nat) : State :=
  if (s.job p).lostSent then s
  else
    let m := s.missing p
    { s.setJob p { s.job p with lostSent := true, lost := ((s.job p).lost ++ m).eraseDups } with
      fabric := { s.fabric with jobMsgs := s.fabric.jobMsgs ++ [⟨p, some m⟩] } }

/-! ### Rebuilding the groups (R321) -/

/-- The ranks of a group that a set of modules holds. -/
def Group.ranksOf (g : Group) (ms : List Nat) : List Nat :=
  (List.range g.mids.length).filter (fun r => ms.contains (g.mids.getD r 0))

/-- The stand-in of a rank: the member of its level-1 group whose digit is the next above that is not
itself lost. -/
def Group.standIn (g : Group) (lost : List Nat) (r : Nat) : Nat :=
  let n := g.radix 1
  let c := (List.range n).map (fun i => g.peer r 1 ((g.digit r 1 + 1 + i) % n))
  (c.find? (fun q => !(g.ranksOf lost).contains q)).getD r

/-- Whether a level-1 group loses a second member (R321), those that stand-ins carry already counted. -/
def Group.tooMany (g : Group) (lost held : List Nat) : Bool :=
  let gone := (g.ranksOf lost ++ held).eraseDups
  gone.any (fun r => gone.any (fun q => q != r && g.peer q 1 0 == g.peer r 1 0)) ||
    (g.radix 1 == 1 && !gone.isEmpty)

/-- A group with ranks given to other modules, its record as a create would write it: MY_RANK is the lowest rank that
module `me` holds, CONTRIBUTORS is counted again, and ORDER_GEN is the new one. -/
def Group.rebuilt (g : Group) (me order : Nat) (mids : List Nat) : Group :=
  let r := setFld (setFld g.record 176 15 mids.eraseDups.length) 352 32 order
  { g with mids := mids
           record := match mids.findIdx? (fun m => m == me) with
             | some k => setFld r 64 14 k
             | none => r }

/-- The groups of a partition. -/
def State.groupsOf (s : State) (p : Nat) : List Group := s.objs.groups.filter (fun g => hPart g.handle == p)

/-- Every group of a partition rebuilt in its place, with its member table, and UPD_ORDER_GEN with them (R268, R320; log
entry 125). -/
def State.rebuild (s : State) (p : Nat) (order : Group → Nat) (f : Group → List Nat) : State :=
  let me := s.reg kModuleId
  let gs := s.objs.groups.map (fun g => if hPart g.handle = p then g.rebuilt me (order g) (f g) else g)
  let s := { s with objs := { s.objs with groups := gs } }
  let s := (s.groupsOf p).foldl (fun s g =>
    (s.writeBytesVa p 7 (fld g.record 192 64) 1 0 (g.mids.flatMap (leBytes 2)) false).2) s
  s.setReg (kUpdOrderGen p) (((s.groupsOf p).map Group.orderGen).foldl max 0)

/-- ORDER_GEN of a rebuild that its members make: one higher. -/
def Group.nextOrder (g : Group) : Nat := g.orderGen + 1

/-- Forwarding entries of lost modules go from the committed table (R320 step 4). -/
def State.dropRoutes (s : State) (p : Nat) (lost : List Nat) : State :=
  { s with fabric := { s.fabric with fwd := s.fabric.fwd.filter (fun e => !(e.1 / 16384 == p && lost.contains (e.1 % 16384))) } }

/-- START_TIME_NS of a restart (R320 step 5): the first grid point of the old grid at or after the bound. -/
def State.restartPoint (s : State) (p t : Nat) : Nat :=
  let d := max 1 (s.reg (kGustPeriodUs p) * 1000)
  let t0 := s.reg (kStartTimeNs p)
  if t ≤ t0 then t0 else t0 + (t - t0 + d - 1) / d * d

/-- GUST_ENABLE committed again by the job services. -/
def State.restartGrid (s : State) (p t : Nat) : State :=
  (gustOnOp p (s.stage (kStartTimeNs p) t)).2

/-- A RESTORE step or a REJOIN step lasts one gust (R307, log entry 16): the next step is due, and after a REJOIN step
the rejoiner's own groups have its rank again (R324). -/
def State.endCopyStep (s : State) (p : Nat) : State :=
  let j := s.job p
  if s.reg (kGustKind p) < 5 ∨ j.submitted = false then s
  else
    let s := match j.returning with
      | some (rank, order) => if s.reg (kGustKind p) = 6 then
          s.rebuild p (fun _ => order) (fun g => g.mids.set rank (s.reg kModuleId)) else s
      | none => s
    let j := s.job p
    (if s.reg (kGustKind p) = 6 then s.setJob p { j with rejoining := false, returning := none }
      else s.setJob p { j with restoring := false }).setGrid p { s.grid p with stepDue := true }

/-- The survivors' rebuild (R320 steps 4 and 5): the lost ranks pass to stand-ins, and the next step is a
RECOVERY step. -/
def State.shrink (s : State) (p : Nat) (lost : List Nat) : State :=
  let j := s.job p
  let ranks := match s.firstGroup p with
    | some g => g.ranksOf lost
    | none => []
  let ta := j.abortAt
  let s := (s.bumpReg (kLostModules p) lost.length).event 0x09040005 0 p
  let s := (s.dropRoutes p lost).rebuild p Group.nextOrder (fun g =>
    (List.range g.mids.length).map (fun r =>
      if lost.contains (g.mids.getD r 0) then g.mids.getD (g.standIn lost r) 0 else g.mids.getD r 0))
  let s := s.setJob p { s.job p with recovery := true, standIns := (j.standIns ++ ranks).eraseDups }
  s.restartGrid p (s.restartPoint p (ta + 2 * s.reg (kShrinkWaitMs p) * 1000000 + 10000000 +
    2 * s.reg (kGustPeriodUs p) * 1000))

/-- The end of the shrink wait (R320 step 3, R321). A module in the union stays held until it rejoins; a job that cannot
shrink stays held too, and its next step is a RESTORE step. With nobody lost the grid restarts for the interrupted
step. -/
def State.shrinkEnd (s : State) (p : Nat) : State :=
  let j := s.job p
  let lost := s.lostSet p
  let s := s.setJob p { j with shrinkAt := none, reports := [], lost := [], lostSent := false }
  if lost.contains (s.reg kModuleId) then s.setJob p { s.job p with away := true }
  else if lost.isEmpty then
    (s.setJob p { s.job p with recovery := true }).restartGrid p (s.restartPoint p (j.abortAt +
      2 * s.reg (kShrinkWaitMs p) * 1000000 + 10000000 + 2 * s.reg (kGustPeriodUs p) * 1000))
  else
    let bad := (s.groupsOf p).any (fun g => g.tooMany lost j.standIns) ||
      decide (s.reg (kMaxLost p) < s.reg (kLostModules p) + lost.length)
    if bad then (s.setJob p { s.job p with restoring := true }).event 0x09040006 0x9401 p else s.shrink p lost

/-- SHRINK_WAIT_EXPIRY (R320): SHRINK_WAIT_MS after T_A the reports are in and this module's lost set goes out, and
twice that after T_A the wait ends (DEDUCED, log entry 126). -/
def execShrinkWaitExpiry (p : Fin 8) (t : Nat) (s : State) : Host.Outcome State Fault Refusal :=
  let s := s.tick t
  match (s.job p.val).shrinkAt with
  | none => .next s
  | some w =>
    let s := if w ≤ s.now + s.reg (kShrinkWaitMs p.val) * 1000000 then s.sendLost p.val else s
    .next (if s.now < w then s else s.shrinkEnd p.val)

/-! ### Rejoining (R324) -/

/-- The rank is restored (R324 step 5) once the copy is made, as the paused job resumes: groups rebuilt, LOST_MODULES
one lower, event 0x0901_0007. -/
def State.applyRejoin (s : State) (p : Nat) : State :=
  let j := s.job p
  match j.rejoin with
  | none => s
  | some (rank, m) =>
    let s := s.rebuild p Group.nextOrder (fun g => g.mids.set rank m)
    let s := s.setJob p { s.job p with rejoin := none, standIns := j.standIns.filter (fun r => r != rank) }
    (s.setReg (kLostModules p) (s.reg (kLostModules p) - 1)).event 0x09010007 0 p

/-- REJOIN at a member: into a rank that a stand-in holds. The module is given the job's secret; the job pauses at the
start boundary that opens its next step, or has paused; with its grid off it has no pause to wait for. -/
def State.rejoinAt (s : State) (p rank m : Nat) : State :=
  let j := s.job p
  if j.submitted = false ∨ j.standIns.contains rank = false ∨ j.shrinkAt.isSome ∨ j.rejoin.isSome then
    s.setReg (kCkptRefusal p) 0x9203
  else
    let s := (s.setJob p { j with rejoin := some (rank, m) }).sendSecret p (some m)
    let g := s.grid p
    if g.on = false then s.applyRejoin p
    else if g.inGust && g.stepDue then s.pauseRequest p
    else s

/-- REJOIN at the rejoiner itself: it takes the step state, and its next step is a REJOIN step, which brings its
rank and the ORDER_GEN of the rebuilt groups into force. -/
def State.rejoinSelf (s : State) (p rank step norm order : Nat) : State :=
  let s := (s.setReg (kUpdStep p) step).setReg (kNormPrev p) norm
  let s := s.setJob p { s.job p with rejoining := true, away := false, returning := some (rank, order) }
  s.setGrid p { s.grid p with stepDue := true }

/-- REJOIN (R324). -/
def execRejoin (p : Fin 8) (rank module : BitVec 14) (step : BitVec 64) (told : StepTold) (s : State) :
    Host.Outcome State Fault Refusal :=
  .next (if module.toNat = s.reg kModuleId then s.rejoinSelf p.val rank.toNat step.toNat told.norm.toNat told.order.toNat
    else s.rejoinAt p.val rank.toNat module.toNat)

end Sys2Proof.Machine
end

