-- ==== Sys2Proof/Machine/Grid.lean ====
section
/-! DEFINITION. The gust grid as time passes (R43 to R85): grid points, calm windows, check points,
pre-emption, and the notices of a job. -/

namespace Sys2Proof.Machine

/-! ### Settings -/

/-- GUST_ENABLE (R49). -/
def execGustEnable (r : Requester) (p : Fin 8) (s : State) : Host.Outcome State Fault Refusal :=
  .next (s.writeU8 r (0x2010 + p.val) 0x07 true (gustOnOp p.val))

/-- GUST_DISABLE (R51): no staged value is checked or discarded. -/
def execGustDisable (r : Requester) (p : Fin 8) (s : State) : Host.Outcome State Fault Refusal :=
  .next (s.writeU8 r (0x2010 + p.val) 0x07 false (gustOffOp p.val))

/-! ### Grid points (R44, R78, R80, R83, R84) -/

/-- The grid point is passed without a start: its calm window runs (R73), and the next point is named. -/
def State.passPoint (s : State) (p : Nat) : State :=
  let g := s.grid p
  s.setGrid p { g with boundary := g.nextPoint, slip := false, unstarted := g.unstarted ++ [g.nextPoint]
                       nextPoint := g.nextPoint + s.reg (kGustPeriodUs p) * 1000 }

/-- A slipped boundary (R78); at the limit a module short of END aborts (R80), and the calm window
of the point takes place all the same (R73). -/
def State.slipPoint (s : State) (p : Nat) : State :=
  let g := s.grid p
  let s := s.bumpReg (kSlipCount p) 1
  if g.inGust = false then s.passPoint p
  else
    let n := g.slipped + 1
    let s := s.setGrid p { g with slipped := n }
    if s.reg (kSlipLimit p) ≤ n ∧ s.short p then (s.faultWith p 0x1602 0x01030012).passPoint p else s.passPoint p

/-- A running gust ends at a boundary: what ends with it, and a step of one gust (R307). -/
def State.closeGust (s : State) (p : Nat) : State := (s.endGust p).endCopyStep p

/-- A gust ends at its pause or stop point (R51, R83), and an ordinary teardown that waited for the pause takes effect
(R344). A stop raises no 0x0101_0016: R85 names the pause alone (DEDUCED, log entry 128). -/
def State.pauseHere (s : State) (p : Nat) : State :=
  let s := s.closeGust p
  let g := s.grid p
  let s := s.setGrid p { g with inGust := false, pauseAt := none }
  let s := if g.stopping then s.stopGrid p
    else ((s.setGrid p { s.grid p with paused := true }).event 0x01010016 0 p).passPoint p
  if (s.part p).stopping then s.teardown p false 0xB247 else s

/-- A grid point of a running grid is decided (R44). -/
def State.decidePoint (s : State) (p : Nat) : State :=
  let g := s.grid p
  let resumes := match g.resumeAt with
    | some r => decide (r ≤ g.nextPoint)
    | none => false
  let due := match g.pauseAt with
    | some u => decide (u ≤ g.nextPoint)
    | none => false
  if g.held then s.passPoint p
  else if g.paused && !resumes then s.passPoint p
  else if g.slip then s.slipPoint p
  else if g.inGust && due then s.pauseHere p
  else
    let s := if g.inGust then s.closeGust p else s
    (if g.paused then s.applyRejoin p else s).startGust p

/-- The domain time reaches a grid point (R44). A teardown that waited for a gust which an abort has
ended meanwhile is done. -/
def State.gridPoint (s : State) (p t : Nat) : State :=
  let s := s.tickWork t
  let g := s.grid p
  if (s.part p).stopping ∧ g.inGust = false then s.teardown p false 0xB247
  else if g.on = false ∨ t < g.nextPoint then s
  else s.decidePoint p

/-- GRID_POINT (R44). -/
def execGridPoint (p : Fin 8) (t : Nat) (s : State) : Host.Outcome State Fault Refusal :=
  .next (s.gridPoint p.val t)

/-! ### Calm windows (R72, R73, R365) -/

/-- A transfer that the window finds running is suspended (R222). -/
def State.suspend (s : State) (t : Transfer) : State :=
  if t.suspended then s
  else ((s.setTransfer { t with suspended := true }).bumpReg kCalmSuspensions 1).event 0x03020004 0 t.fence

/-- Re-masking of the key cache, in the first window at or after each 100 ms mark (R365). -/
def State.remask (s : State) : State :=
  if s.sec.lastMask < s.now / 100000000 then { s with sec := { s.sec with lastMask := s.now / 100000000 } } else s

/-- The transfers that a calm window finds running are suspended, each once per window (R222). -/
def State.suspendAll (s : State) (p : Nat) : State :=
  let g := s.grid p
  let start := s.now - (s.now - g.boundary) % 1000000
  let s := if g.calmSeen = start then s
    else { s.setGrid p { g with calmSeen := start } with
      transfers := s.transfers.map (fun t => if t.part = p then { t with suspended := false } else t) }
  (s.transfers.filter (fun t => t.part == p)).foldl State.suspend s

/-- Whether requests that a partition's streams have issued to a tier of this module are still under way: the
calm-window work of that tier waits for them (R222). -/
def State.tierBusy (s : State) (p : Nat) (far : Bool) : Bool :=
  s.transfers.any (fun t => t.part == p && t.flights.any (fun f => !f.remote &&
    match s.translate p ((xferDesc t.desc).memAddr t.base f.first).toNat with
    | .here a => match placeOf a with
      | .near _ _ => !far
      | .far _ _ => far
      | _ => false
    | _ => false))

/-- The work of a calm window (R72): calibration of the partition's far groups and repair of its rows, each with what is
left of the window, and re-masking. It waits for requests that have been issued to its tier (R222). -/
def State.calmWork (s : State) (p : Nat) (cal : List CalRun) : State :=
  let s := s.suspendAll p
  let start := s.now - (s.now - (s.grid p).boundary) % 1000000
  let stop := start + s.reg (kCalmLenUs p) * 1000
  let s := if s.tierBusy p true then s else (bitsOf (s.part p).fgMap 16).foldl (State.calmCalibrate · start stop cal) s
  let chans := ((s.tier.repairs.map (·.1)).eraseDups).filter (fun ch =>
    s.unitPart (channelUnit ch) == some p && !s.tierBusy p (decide (1024 ≤ ch)))
  (chans.foldl (State.calmRepair · start stop) s).remask

/-- CALM_WINDOW (R72). -/
def execCalmWindow (p : Fin 8) (t : Nat) (cal : List CalRun) (s : State) : Host.Outcome State Fault Refusal :=
  let s := s.tickWork t
  .next (if s.calm p.val then s.calmWork p.val cal else s)

/-- REMASK_100_MS_MARK (R365): at the mark itself while no partition's grid runs. -/
def execRemask100MsMark (t : Nat) (s : State) : Host.Outcome State Fault Refusal :=
  let s := s.tickWork t
  .next (if parts8.any (fun p => (s.grid p).on) then s else s.remask)

/-! ### Check points and pre-emption (R77, R83) -/

/-- How a slip notice that partition `p` has sent itself is remembered: two partitions may send one for the same
time (R77). -/
def ownNotice (p m : Nat) : Nat := noticeId m + (p + 1) * 2 ^ 82

/-- The check point of the next grid point: a module short of END sends a slip notice, once per point. -/
def State.slipCheck (s : State) (p : Nat) : State :=
  let g := s.grid p
  let m := mkTiming 4 1 (s.reg kModuleId % 2 ^ 14) (s.jobIdOf p) g.nextPoint 0 0
  if g.inGust ∧ g.nextPoint ≤ s.now + s.reg (kSlipLeadUs p) * 1000 ∧ s.now ≤ g.nextPoint ∧ s.short p ∧
      s.fabric.seen.contains (ownNotice p m) = false then
    let s := { s with fabric := { s.fabric with seen := s.fabric.seen ++ [noticeId m, ownNotice p m] } }
    ((s.setGrid p { g with slip := true }).event 0x01020010 0 p).sendNotice p m none
  else s

/-- SLIP_CHECK_POINT (R77). -/
def execSlipCheckPoint (p : Fin 8) (t : Nat) (s : State) : Host.Outcome State Fault Refusal :=
  .next ((s.tickWork t).slipCheck p.val)

/-- Whether a time is a grid point still to come. -/
def State.futurePoint (s : State) (p t : Nat) : Bool :=
  let g := s.grid p
  decide (g.nextPoint ≤ t) && decide (s.now < t) &&
    (t - g.nextPoint) % max 1 (s.reg (kGustPeriodUs p) * 1000) == 0

/-- PREEMPT_REQUEST (R83): a running gust is to end at a pause point; a paused partition, or one that
will pause, is told the grid point at which it resumes. Where the grid runs but no gust has begun and the partition is
not paused there is no gust to end, and the request is dropped (DESIGN CHOICE, log entry 129). -/
def execPreemptRequest (p : Fin 8) (resumeAt : Option Nat) (s : State) : Host.Outcome State Fault Refusal :=
  let p := p.val
  let ok := match resumeAt with
    | some t => s.futurePoint p t
    | none => false
  let g := s.grid p
  if g.paused then .next (if ok then s.setGrid p { g with resumeAt := resumeAt } else s)
  else if g.inGust then
    let s := s.pauseRequest p
    .next (if ok then s.setGrid p { s.grid p with resumeAt := resumeAt } else s)
  else .next s

/-! ### Notices (R78 to R84, R258, R260) -/

/-- The partition whose job a message names. -/
def State.jobPart (s : State) (m : Nat) : Option Nat :=
  let j := fld m 32 32
  parts8.find? (fun p => (s.part p).state != stFree && j != 0 && s.jobIdOf p == j)

/-- A message sent on, one hop further (R260). -/
def hopOn (m : Nat) : Nat := setFld m 4 4 (fld m 4 4 + 1)

/-- A notice that arrives on a port: known ones are dropped; a new one acts on its job's partition and
travels on over that partition's other ports. A port of a lending carries none. -/
def State.jobNotice (s : State) (n kind m : Nat) (act : State → Nat → State) : State :=
  match s.jobPart m with
  | none => s
  | some p =>
    if s.reg (kPortState n) ≠ 3 ∨ fld m 0 4 ≠ kind ∨ s.reg (kPortOwner n) ≠ p ∨
        s.fabric.seen.contains (noticeId m) then s
    else
      let s := { s with fabric := { s.fabric with seen := s.fabric.seen ++ [noticeId m] } }
      (act s p).sendNotice p (hopOn m) (some n)

/-- Whether a gust of the running grid started at grid point `t`: the last boundary, or an earlier point that was
not passed without a start. -/
def State.startedAt (s : State) (p t : Nat) : Bool :=
  let g := s.grid p
  let t0 := s.reg (kStartTimeNs p)
  (g.boundary == t && g.inGust && g.slipped == 0) ||
    (decide (t0 ≤ t) && decide (t ≤ g.started) && (t - t0) % max 1 (s.reg (kGustPeriodUs p) * 1000) == 0 &&
      !g.unstarted.contains t)

/-- A slip notice (R78): in time, its grid point is a slipped boundary; after a start at that point, it is a
fault (R79). -/
def slipAct (m : Nat) (s : State) (p : Nat) : State :=
  let t := fld m 64 64
  let g := s.grid p
  if g.on && t == g.nextPoint && decide (s.now ≤ t) then s.setGrid p { g with slip := true }
  else if s.startedAt p t then s.faultPart p 0x1604
  else s

/-- SLIP_NOTICE (R78). -/
def execSlipNotice (n : Fin 16) (m : BitVec 256) (t : Nat) (s : State) : Host.Outcome State Fault Refusal :=
  .next ((s.tickWork t).jobNotice n.val 4 m.toNat (slipAct m.toNat))

/-- An abort notice (R81): the partition of the job aborts as the faulting module did. -/
def abortAct (m : Nat) (s : State) (p : Nat) : State :=
  if (s.part p).state = stRunning then s.abortHere p (fld m 192 16) true (fld m 64 64)
  else if (s.job p).shrinkAt.isSome then s.shrinkFrom p (fld m 64 64)
  else s

/-- ABORT_NOTICE (R81). -/
def execAbortNotice (n : Fin 16) (m : BitVec 256) (t : Nat) (s : State) : Host.Outcome State Fault Refusal :=
  .next ((s.tickWork t).jobNotice n.val 5 m.toNat (abortAct m.toNat))

/-- A pause notice (R83): the earliest point named is the one. -/
def pauseAct (m : Nat) (s : State) (p : Nat) : State :=
  let t := fld m 64 64
  let g := s.grid p
  if g.inGust then
    s.setGrid p { g with pauseAt := some (match g.pauseAt with
      | some u => min t u
      | none => t) }
  else s

/-- PAUSE_NOTICE (R83). -/
def execPauseNotice (n : Fin 16) (m : BitVec 256) (t : Nat) (s : State) : Host.Outcome State Fault Refusal :=
  .next ((s.tickWork t).jobNotice n.val 6 m.toNat (pauseAct m.toNat))

end Sys2Proof.Machine
end

