-- ==== Sys2Proof/Machine/Security.lean ====
section
/-! DEFINITION. The security complex's keys (R359 to R365, R423), its random source (R366, R367) and the
recovery epochs (R375, R376). -/

namespace Sys2Proof.Machine

/-! ### Key commands (R361) -/

/-- What a key command answers: its reason, a handle and a blob. -/
abbrev KeyOut := (Reason × Handle × List Byte) × State

/-- A refused key command (R378). -/
def State.keyRefuse (s : State) (r : Reason) : KeyOut := ((r, 0, []), s.setReg kSecRefusal r)

/-- A handle of a key slot, checked under R17 for partition `p`. -/
def State.keyCheck (s : State) (p : Nat) (h : Handle) : Reason := s.checkHandle 11 8 p h

/-- Keys resident in the cache (R359). -/
def State.cacheUsed (s : State) : Nat := (s.sec.keys.filter (fun k => k.2.live && k.2.resident)).length

/-- The lowest free slot of the key table. -/
def State.freeSlot (s : State) : Option Nat := (List.range 8192).find? (fun i => !(s.keySlot i).live)

/-- The attributes that a command may give a slot: wrap-only is the session wrap key's alone (R360). -/
def attrOk (a : Nat) : Bool := a == 0 || a == 1 || a == 3

/-- Room for one more key (R361). -/
def State.keyRoom (s : State) : Reason :=
  firstOf [(s.freeSlot.isNone, 0xB401), (decide (1024 ≤ s.cacheUsed), 0xB445)]

/-- A new slot filled with a key. -/
def State.fillSlot (s : State) (p attr : Nat) (key : List Byte) (prov : Bool) : KeyOut :=
  match s.freeSlot with
  | none => s.keyRefuse 0xB401
  | some i =>
    let k := s.keySlot i
    let s := s.setKeySlot i { k with live := true, key := key, attr := attr, owner := p, resident := true, provisional := prov }
    ((0, s.slotHandle i, []), s)

/-- GENERATE (R361): 32 bytes of the CTR_DRBG with prediction resistance. -/
def State.keyGenerate (s : State) (p attr : Nat) (prov : Bool) : KeyOut :=
  let r := firstOf [(s.sec.breached, 0xB505), (!attrOk attr, 0xB001), (s.keyRoom != 0, s.keyRoom)]
  if r ≠ 0 then s.keyRefuse r
  else
    match s.drbg 32 true with
    | none => s.keyRefuse 0xB504
    | some (k, t) => t.fillSlot p attr k prov

/-- DERIVE (R361, R356): a key that stands outside the cache as a blob derives none (log entry 19). -/
def State.keyDerive (s : State) (p parent attr : Nat) (label ctx : List Byte) (prov : Bool) : KeyOut :=
  let h := s.keyCheck p parent
  let k := s.keySlot (hIndex parent)
  let r := firstOf [(s.sec.breached, 0xB505), (h != 0, h), (k.attr != 3, 0xB301),
    (label.isEmpty || decide (32 < label.length) || decide (64 < ctx.length), 0xB002), (!attrOk attr, 0xB001),
    (!k.resident, 0xB201), (s.keyRoom != 0, s.keyRoom)]
  if r ≠ 0 then s.keyRefuse r else s.fillSlot p attr ((derive k.key label ctx).take 32) prov

/-- The 64 bits of a blob that are its additional data (R362). -/
def blobHead (attr p index gen : Nat) : Nat :=
  1 + attr * 2 ^ 16 + p * 2 ^ 18 + index * 2 ^ 22 + gen * 2 ^ 35

/-- EVICT (R361, R362): the slot's blob, sealed under the session wrap key with a fresh nonce. A slot that
stands outside already has no cache slot to free (log entry 19). -/
def State.keyEvict (s : State) (p h : Nat) : KeyOut :=
  let c := s.keyCheck p h
  let i := hIndex h
  let k := s.keySlot i
  let r := firstOf [(s.sec.breached, 0xB505), (c != 0, c), (!(s.keyUses h).isEmpty, 0xB202), (!k.resident, 0xB201)]
  if r ≠ 0 then s.keyRefuse r
  else
    match s.drbg 12 false with
    | none => s.keyRefuse 0xB504
    | some (nonce, t) =>
      let aad := leBytes 8 (blobHead k.attr k.owner i k.gen)
      let e := gcmSeal t.sec.wrapKey nonce aad k.key
      ((0, h, aad ++ nonce ++ e.1 ++ e.2 ++ List.replicate 28 0),
        t.setKeySlot i { k with resident := false, key := [] })

/-- LOAD_BLOB (R361, R363). -/
def State.keyLoad (s : State) (p : Nat) (blob : Nat) : KeyOut :=
  let b := leBytes 96 blob
  let i := fld blob 22 13
  let k := s.keySlot i
  let open_ := gcmOpen s.sec.wrapKey ((b.drop 8).take 12) (b.take 8) ((b.drop 20).take 32) ((b.drop 52).take 16)
  let r := firstOf [(s.sec.breached, 0xB505), (open_.isNone || fld blob 0 16 != 1, 0xB501),
    (fld blob 18 3 != p || !k.live || k.resident || k.owner != p || k.gen != fld blob 35 9, 0xB201),
    (decide (1024 ≤ s.cacheUsed), 0xB445)]
  if r ≠ 0 then s.keyRefuse r
  else
    let s := s.setKeySlot i { k with resident := true, key := open_.getD [] }
    ((0, s.slotHandle i, []), s)

/-- DESTROY (R361, R364). -/
def State.keyDestroy (s : State) (p h : Nat) : KeyOut :=
  let c := s.keyCheck p h
  if c ≠ 0 then s.keyRefuse c else ((0, 0, []), s.destroySlot (hIndex h))

/-- KEY_RESULT of a command (R423). -/
def keyResult (o : Reason × Handle × List Byte) : Nat :=
  o.1 + o.2.1 * 2 ^ 32 + ofLe o.2.2 * 2 ^ 64

/-- A key command of the normal world: its outcome stands in KEY_RESULT, and the write is accepted (R423);
on a locked partition it is refused with 0xB240 (R361). -/
def keyFromWorld (p : Nat) (cmd : State → KeyOut) (s : State) : Reason × State :=
  let o := if lockedState (s.part p).state then s.keyRefuse 0xB240 else cmd s
  (0, o.2.setReg (kKeyResult p) (keyResult o.1))

/-- A key command by whoever issues it: the job services' go to the complex directly. -/
def State.keyCommand (s : State) (r : Requester) (p : Nat) (cmd : Bool → State → KeyOut) : State :=
  match r with
  | .jobServices => (cmd false s).2
  | _ => (s.write r (0x9020 + p) 0x01 112 false (keyFromWorld p (cmd true))).2

/-- GENERATE (R361). -/
def execGenerateKey (r : Requester) (p : Fin 8) (attr : BitVec 8) (s : State) : Host.Outcome State Fault Refusal :=
  .next (s.keyCommand r p.val (fun prov s => s.keyGenerate p.val attr.toNat prov))

/-- DERIVE (R361). -/
def execDeriveKey (r : Requester) (p : Fin 8) (parent : BitVec 32) (attr : BitVec 8) (label ctx : List Byte)
    (s : State) : Host.Outcome State Fault Refusal :=
  .next (s.keyCommand r p.val (fun prov s => s.keyDerive p.val parent.toNat attr.toNat label ctx prov))

/-- EVICT (R361). -/
def execEvictKey (r : Requester) (p : Fin 8) (slot : BitVec 32) (s : State) : Host.Outcome State Fault Refusal :=
  .next (s.keyCommand r p.val (fun _ s => s.keyEvict p.val slot.toNat))

/-- LOAD_BLOB (R363). -/
def execLoadBlob (r : Requester) (p : Fin 8) (blob : BitVec 768) (s : State) : Host.Outcome State Fault Refusal :=
  .next (s.keyCommand r p.val (fun _ s => s.keyLoad p.val blob.toNat))

/-- KEY_DESTROY (R364). -/
def execKeyDestroy (r : Requester) (p : Fin 8) (slot : BitVec 32) (s : State) : Host.Outcome State Fault Refusal :=
  .next (s.keyCommand r p.val (fun _ s => s.keyDestroy p.val slot.toNat))

/-- The bytes of a write of KEY_CMD (R423), as the command they spell. -/
def keyCmdOp (p x : Nat) (s : State) : Reason × State :=
  let b := leBytes 112 x
  let byte := fun (i : Nat) => fld x (8 * i) 8
  let h := fld x 32 32
  keyFromWorld p (fun s =>
    match byte 0 with
    | 1 => s.keyGenerate p (byte 1) true
    | 2 =>
      let bad := decide (32 < byte 2) || decide (64 < byte 3)
      s.keyDerive p h (byte 1) (if bad then [] else (b.drop 8).take (byte 2)) ((b.drop 40).take (byte 3)) true
    | 3 => s.keyEvict p h
    | 4 => s.keyLoad p (ofLe ((b.drop 8).take 96))
    | 5 => s.keyDestroy p h
    | _ => s.keyRefuse 0xB001) s

/-- The write of 1 to KEY_ENABLE (R423): the provisional slots of the partition stand. -/
def keyEnableOp (p : Nat) (s : State) : Reason × State :=
  (0, { s with sec := { s.sec with keys := s.sec.keys.map (fun e =>
    (e.1, if e.2.owner = p then { e.2 with provisional := false } else e.2)) } })

/-- KEY_ENABLE (R423). -/
def execKeyEnable (r : Requester) (p : Fin 8) (s : State) : Host.Outcome State Fault Refusal :=
  .next (s.writeU8 r (0x9020 + p.val) 0x03 true (keyEnableOp p.val))

/-! ### Random source (R366, R367) -/

/-- ENTROPY_HEALTH_FAIL (R367): the source is FAILED until a cold boot whose start-up tests pass. -/
def execEntropyHealthFail (s : State) : Host.Outcome State Fault Refusal :=
  if s.sec.failed ∨ s.power.mode = .off then .next s
  else .next (({ s with sec := { s.sec with failed := true } }.setReg kEntropyState 2).event 0x0B040007 0 0)

/-- DRBG_RESEED (R366): the generator reseeds once 1 s has passed since it last did. -/
def execDrbgReseed (t : Nat) (s : State) : Host.Outcome State Fault Refusal :=
  let s := s.tick t
  match s.sec.drbg with
  | none => .next s
  | some d =>
    if s.sec.failed ∨ s.now < s.sec.drbgSince + nsPerS then .next s
    else
      let e := s.takeEntropy 48
      .next { e.2 with sec := { s.sec with drbg := some (drbgReseed d e.1), drbgSince := s.now } }

/-! ### Recovery epochs (R376) -/

/-- The write of RECOVERY_BUMP. -/
def recoveryBumpOp (p v : Nat) (s : State) : Reason × State := (0, if v = 1 then s.bumpEpoch p else s)

/-- RECOVERY_BUMP (R376): a partition's epoch, or the device-wide one for 8. -/
def execRecoveryBump (r : Requester) (p : Fin 9) (s : State) : Host.Outcome State Fault Refusal :=
  .next (s.writeU8 r (0x9010 + p.val) 0x02 false (recoveryBumpOp p.val 1))

end Sys2Proof.Machine
end

