-- ==== Sys2Proof/Machine/Boot.lean ====
section
/-! DEFINITION. A start of the module (R351, R440 to R442): the fuses (R352 to R355), the slot that boots
(R476, R477), the derivation chain (R350, R357), the random source, and what a cold boot, a warm reset and
a wake leave. -/

namespace Sys2Proof.Machine

/-! ### Fuses (R353 to R355, R369) -/

/-- The state that an LC_STATE word names, as its rank (R368, R369). -/
def lcRank (w : Nat) : Nat :=
  if fld w 5 27 ≠ 0 ∨ bit w 4 then 5
  else if bit w 3 then 2
  else if bit w 2 then 3
  else if bit w 1 then 4
  else if bit w 0 then 1 else 0

/-- A word as read at one margin: words without a reading of their own read alike at all three. -/
def State.fuseAt (s : State) (b : BootInput) (pick : FuseReading → BitVec 32) (w : Nat) : Nat :=
  match b.fuses.find? (fun r => r.word.val == w) with
  | some r => (pick r).toNat
  | none => tabGet s.sec.fuses w 0

/-- The three margins. -/
def State.margins (s : State) (b : BootInput) : List (Nat → Nat) :=
  [s.fuseAt b FuseReading.low, s.fuseAt b FuseReading.nominal, s.fuseAt b FuseReading.high]

/-- The reported words that are marginal: their readings differ, or at a warm reset the nominal one differs
from the value latched at cold boot. -/
def State.marginalWords (s : State) (b : BootInput) (cold : Bool) : List Nat :=
  (List.range 148).filter (fun w =>
    let n := s.fuseAt b FuseReading.nominal w
    s.fuseAt b FuseReading.low w != n || s.fuseAt b FuseReading.high w != n || (!cold && n != s.latched w))

/-- The more restrictive reading of a rights field: more bits blown (R354). -/
def mostBlown (rs : List (Nat → Nat)) (a n w : Nat) : Nat :=
  (rs.map (fun rd => popCount (field3 rd a n w) 32)).foldl max 0

/-- LC_PROGRESS (R378): three bits per target, by the reading with more bits blown (log entry 20). -/
def State.lcProgress (s : State) (b : BootInput) : Nat :=
  ((List.range 5).map (fun i =>
    let best := (s.margins b).foldl (fun (x : Nat) rd =>
      let y := field3 rd 3 5 i
      if popCount x 32 < popCount y 32 then y else x) 0
    fld best 0 3 * 8 ^ i)).sum

/-- The UDS as latched. -/
def State.uds (s : State) : List Byte := (List.range 8).flatMap (fun i => leBytes 4 (s.latched (75 + i)))

/-- The key fields of R355: the first word of each and its length; 0 is UDS with UDS_CHECK, 1 to 5 are the
token digests. -/
def keyWords (i : Nat) : List Nat :=
  if i = 0 then (List.range 9).map (75 + ·) else (List.range 12).map (84 + 12 * (i - 1) + ·)

/-- Marginal words are counted, each with its event (R354). -/
def State.countMarginal (s : State) (ws : List Nat) : State :=
  ws.foldl (fun s w => ((s.bumpReg kFuseMarginal 1).setReg kFuseLastMarginal w).event 0x0B020001 0 w) s

/-- The values that a cold boot latches. -/
def State.latchFuses (s : State) (b : BootInput) : State :=
  let rs := s.margins b
  let seen := (List.range 148).filterMap (fun w =>
    let n := s.fuseAt b FuseReading.nominal w
    if n = 0 then none else some (w, n))
  { s with sec := { s.sec with
      fuseSeen := seen
      latchedLc := (rs.map (fun rd => lcRank (field3 rd 0 1 0))).foldl max 0
      latchedTamper := mostBlown rs 18 1 0
      latchedSvn := (List.range 6).map (fun i => mostBlown rs 57 6 i) } }

/-- Step 1 of R351: the fuses are read and resolved. -/
def State.readFuses (s : State) (b : BootInput) (cold : Bool) : State :=
  let ws := s.marginalWords b cold
  let s := { s with sec := { s.sec with fuseTemp := s.reg kDieTemp } }
  let old := if cold then 0 else s.sec.unusable
  let s := if cold then s.latchFuses b else s
  let s := (s.countMarginal ws)
  let udsBad := ofLe ((sha384 s.uds).take 4) != s.latched 83
  let bad := (List.range 6).filter (fun i =>
    bit old i || (keyWords i).any (fun w => ws.contains w) || (i == 0 && udsBad))
  let s := { s with sec := { s.sec with unusable := ofBits bad } }
  let s := (bad.filter (fun i => !bit old i)).foldl (fun s i => s.event 0x0B030002 0 i) s
  let s := (s.setReg kKeysUnusable (ofBits bad)).setReg kLcState s.sec.latchedLc
  (s.setReg kTamperCount s.sec.latchedTamper).setReg kLcProgress (s.lcProgress b)

/-! ### The slot that boots (R463, R476, R477) -/

/-- Records that are not valid are discarded, each counted (R463). -/
def State.dropTorn (s : State) : State :=
  let torn := ((List.range 3).map (fun a => ((s.recs a).filter (fun r => !r.committed)).length)).sum
  let s := (List.range 3).foldl (fun s a => s.setRecs a ((s.recs a).filter (·.committed))) s
  (List.range torn).foldl (fun s _ => (s.bumpReg kTornRecords 1).event 0x0C010018 0 0) s

/-- The slot that BOOT_PREF names; A when there is none. -/
def State.prefSlot (s : State) : Nat :=
  match s.storeRec 0x0201 with
  | some r => r.index % 2
  | none => 0

/-- A slot's failure is recorded, and the other slot named. -/
def State.fallBack (s : State) (slot : Nat) (f : Reason × Nat) : State :=
  let s := s.writeRec 2 0x0202 (leBytes 2 f.1 ++ [BitVec.ofNat 8 f.2])
  (s.writeRec 2 0x0201 (leBytes 4 (1 - slot)))

/-- The slot is chosen; answers whether one boots. -/
def State.chooseSlot (s : State) : Bool × State :=
  let a := s.prefSlot
  let s := { s with fw := { s.fw with fellBack := false } }
  match s.slotCheckBoot a with
  | none => (true, s.setReg kActiveSlot a)
  | some f =>
    let s := s.fallBack a f
    match s.slotCheckBoot (1 - a) with
    | none => (true, ({ s with fw := { s.fw with fellBack := true } }.setReg kActiveSlot (1 - a)))
    | some g =>
      let s := s.fallBack (1 - a) g
      (false, (s.event 0x0C040017 g.1 g.2))

/-- FALLBACK_REASON and FALLBACK_IMAGE, from the last FALLBACK record (R480). -/
def State.showFallback (s : State) : State :=
  match s.storeRec 0x0202 with
  | some r => (s.setReg kFallbackReason (fld (ofLe r.data) 0 16)).setReg kFallbackImage (fld (ofLe r.data) 16 8)
  | none => s

/-! ### Measurements and the chain (R350, R356, R357) -/

/-- The measurement of an image of the running slot. -/
def State.measurement (s : State) (i : Nat) : List Byte :=
  let slot := s.reg kActiveSlot
  if s.fw.factory.any (fun e => e.1 == slot * 8 + i) then leBytes 48 (Config.factoryDigest i).toNat
  else
    match s.imageRec slot i with
    | some r => r.data.drop 16
    | none => List.replicate 48 0

/-- CDI_i of the chain. -/
def State.cdi (s : State) : Nat → List Byte
  | 0 => derive s.uds (ascii "DICE") [BitVec.ofNat 8 s.sec.latchedLc, BitVec.ofNat 8 s.sec.latchedTamper]
  | i + 1 => derive (s.cdi i) (ascii "CDI") (s.measurement (i + 1))

/-- DEVICE_SERIAL (R352). -/
def State.deviceSerial (s : State) : List Byte := (List.range 4).flatMap (fun i => leBytes 4 (s.latched (144 + i)))

/-- Steps 2, 3 and 7 of R351: measurements, and the DeviceID and alias keys where UDS is usable. -/
def State.formChain (s : State) : State :=
  let ms := (List.range 6).flatMap (fun i => s.measurement (i + 1))
  let s := (s.setReg kMeasurements (ofLe ms)).setReg kComposite (ofLe (sha384 ms))
  let s := s.setReg kBuiltinTableRev (Config.tableRev (ofBe (s.measurement 6))).toNat
  let s := s.setReg kSerial (s.latched 144)
  if bit s.sec.unusable 0 then { s with sec := { s.sec with deviceId := 0, alias_ := 0 } }
  else
    { s with sec := { s.sec with
        deviceId := scalarOf (derive (s.cdi 1) (ascii "DEVICEID") s.deviceSerial)
        alias_ := scalarOf (derive (s.cdi 6) (ascii "ALIAS") s.deviceSerial) } }

/-! ### The random source and the session's keys (R351 steps 4 and 7, R366) -/

/-- The entropy start-up tests, and the generator's instance. A source that has FAILED stays so until a cold
boot. -/
def State.startDrbg (s : State) (b : BootInput) (cold : Bool) : State :=
  let bad := !b.entropyPass || (!cold && s.sec.failed) || (cold && !b.drbgPass)
  let e := s.takeEntropy 48
  if bad then
    let s := { s with sec := { s.sec with failed := true, drbg := none } }.setReg kEntropyState 2
    s.event 0x0B040007 0 0
  else
    { e.2 with sec := { s.sec with failed := false, drbg := some (drbgInstantiate e.1), drbgSince := s.now } }.setReg
      kEntropyState 1

/-- The scrub key and the session wrap key, and at cold boot the first EPOCH_NEXT (R191, R202). -/
def State.drawSession (s : State) (cold : Bool) : State :=
  let s := match s.drbg 32 false with
    | some (k, t) => { t with enc := { t.enc with scrubKey := some k } }
    | none => { s with enc := { s.enc with scrubKey := none } }
  let s := match s.drbg 32 false with
    | some (k, t) => { t with sec := { t.sec with wrapKey := k } }
    | none => s
  if cold then
    match s.drbg 4 false with
    | some (k, t) => { t with enc := { t.enc with epochNext := ofLe k } }
    | none => s
  else s

/-! ### Columns and channel maps (R114 to R116, R180) -/

/-- A cluster's width under a bypass map (R116). -/
def widthOf (bypass : Nat) : Nat :=
  let w := 64 - popCount bypass 64
  if w < 60 then 0 else w

/-- The pending bypass maps take effect. -/
def State.applyColumns (s : State) : State :=
  let s' := (List.range 512).foldl (fun s c =>
    let q := c / 128
    let i := c % 128 + 1
    let b := s.reg (kColumnBypassPending q i)
    if b = s.reg (kColumnBypass q i) then s
    else
      let w := widthOf b
      let t := (s.setReg (kColumnBypass q i) b).setReg (kClusterWidth q i) w
      if w = 0 ∧ s.reg (kClusterWidth q i) ≠ 0 then t.event 0x01040024 0 c else t) s
  let ws := (List.range 512).map s'.clusterWidth
  let changed := ws != (List.range 512).map s.clusterWidth
  let g := s.reg kColmapGen
  let s' := if changed then s'.setReg kColmapGen (if g = 0xFFFFFFFF then 1 else g + 1) else s'
  (s'.setReg kActiveColumns ws.sum).setReg kFullWidthClusters (ws.filter (· == 64)).length

/-- The pending channel maps take effect. -/
def State.applyMaps (s : State) : State := (List.range 32).foldl State.startMap s

/-! ### What a start leaves of the state before (R435, R440) -/

/-- Entries that the dictionary store keeps: column and channel maps, repairs, and the flash's own. -/
def storeKeeps (k : Nat) : Bool :=
  let i := k / 256
  let sub := k % 256
  (decide (0x4100 ≤ i) && decide (i < 0x410C)) || k == kColmapGen ||
    (decide (0x5810 ≤ i) && decide (i < 0x5820) && (sub == 3 || sub == 4)) ||
    (decide (0x6010 ≤ i) && decide (i < 0x6020) && (sub == 3 || sub == 4)) ||
    k == kNearRepairs || k == kFarRepairs || k == kSparesLeft || k == kLogNewestSeq

/-- Entries of the management always-on domain, which a warm reset and doldrums leave, and those that last
until a cold boot. -/
def alwaysOn (k : Nat) : Bool :=
  let i := k / 256
  (decide (0x1000 ≤ i) && decide (i < 0x3000)) || (decide (0xA000 ≤ i) && decide (i < 0xA800)) ||
    k == kFuseMarginal || k == kFuseLastMarginal || k == kTamperState

/-- The management controller after a start of its own: the log in flash and the log sequence stand. -/
def Mgmt.restart (m : Mgmt) : Mgmt :=
  { State.reset.mgmt with flashLog := m.flashLog, nextSeq := m.nextSeq }

/-- The rows that the repair records of the dictionary store name (R177, R435); they are reapplied at every start. -/
def State.repairsRecorded (s : State) : List (Nat × Nat) :=
  (s.fw.store.filter (fun r => r.committed && r.kind == 0x0210)).map (fun r =>
    (fld (ofLe r.data) 0 32, fld (ofLe r.data) 32 32))

/-- The module with everything gone that the start does not keep. -/
def State.cleared (s : State) (cold : Bool) : State :=
  let s := s.endStaging
  { State.reset with
    pending := s.pending
    freeCount := s.freeCount
    now := if cold then 0 else s.now
    dict := s.dict.filter (fun e => storeKeeps e.1 || (!cold && alwaysOn e.1))
    expert := if cold then [] else s.expert
    power := { State.reset.power with
      mode := .running, perst := s.power.perst, refclk := s.power.refclk
      slotRead := !cold && s.power.slotRead, tripped := !cold && s.power.tripped }
    mem := { State.reset.mem with flash := s.mem.flash, host := s.mem.host }
    tier := { State.reset.tier with spares := s.repairsRecorded }
    enc := { State.reset.enc with epochNext := s.enc.epochNext }
    sec := { s.sec with keys := [], drbg := none, wrapKey := [], transition := none, spdm := ⟨0, [], [], []⟩, doeReply := []
                        sessions := [], deferred := [], tokenMiss := if cold then 0 else s.sec.tokenMiss
                        encFailed := !cold && s.sec.encFailed, failed := !cold && s.sec.failed }
    mgmt := if cold then s.mgmt.restart else { s.mgmt with tests := [], running := [] }
    fw := if cold then { s.fw with ops := [], staged := 0, erases := s.fw.saved } else { s.fw with staged := 0 } }

/-! ### The start -/

/-- The tamper mesh at a start (R374): an open mesh, or a count that is full, is a breach; a whole one
re-arms at a cold boot. -/
def State.testMesh (s : State) (b : BootInput) (cold : Bool) : State :=
  if cold = false then s
  else if b.meshOpen ∨ 32 ≤ s.sec.latchedTamper then
    { s with sec := { s.sec with breached := true } }.setReg kTamperState 1
  else
    let was := s.sec.breached
    let s := { s with sec := { s.sec with breached := false, tamperBlow := false } }
    if was then s.event 0x0B00000C 0 0 else s

/-- The target of a transition that was begun and not done, and the step it is resumed at (R372). -/
def State.begunTarget (s : State) : Option (Nat × Nat) :=
  let x := s.reg kLcProgress
  match (List.range 5).find? (fun i => bit x (3 * i) && !bit x (3 * i + 2)) with
  | none => none
  | some i =>
    let state := bit (field3 s.latched 0 1 0) i
    some (i, if bit x (3 * i + 1) = false then 3 else if state then 6 else 5)

/-- LINK_STATUS of a link that trains at time `t` (R4, R405): x16 or narrower, at 64 GT/s or a lower rate of the
PCIe specification (log entry 86). -/
def linkWord (t : Nat) : Nat :=
  [16, 8, 4, 2, 1].getD (Config.linkWidth t % 5) 16 + [64, 32, 16, 8, 5, 2].getD (Config.linkRate t % 6) 64 * 256

/-- Subsystems that serve their entries once the module runs (R421, R441): the PF's bit waits for PERST#,
and bit 6 for the known-answer test of the encryption engine (R451). The link trains once PERST# is released
(R4). -/
def State.setReady (s : State) : State :=
  let bits := 0x1FFE - (if s.power.perst then 2 ^ 10 else 0) - (if s.sec.encFailed then 2 ^ 6 else 0)
  (s.setReg kReadyMap (bits &&& s.reg kFuncEnable)).setReg kLinkStatus (if s.power.perst then 0 else linkWord s.now)

/-- Steps 2 to 8 of R441 after the state is cleared: fuses, slot, chain, random source and keys. With no
slot that boots the module stays silent. Life-cycle transitions are resumed by `resume`. -/
def State.secureBoot (s : State) (b : BootInput) (cold : Bool) (resume : State → State) : State :=
  s.withCap fun s =>
  let s := s.readFuses b cold
  let s := if cold then s.dropTorn else s
  let r := s.chooseSlot
  let s := r.2.showFallback
  if r.1 = false then { s with power := { s.power with mode := .bootFailed } }
  else
    let s := ((s.formChain).startDrbg b cold).testMesh b cold
    let s := if cold ∧ b.encPass = false then { s with sec := { s.sec with encFailed := true } } else s
    let s := resume (s.drawSession cold)
    let s := if s.fw.fellBack ∧ cold = false then { s with mgmt := s.mgmt.restart, expert := [] } else s
    let s := if s.fw.fellBack then s.event 0x0C030013 (s.reg kFallbackReason) (s.reg kFallbackImage) else s
    let s := s.setReg kRevision s.hostIfRev
    s.applyColumns.applyMaps.setReady

end Sys2Proof.Machine
end

