-- ==== Sys2Proof/Machine/LifeCycle.lean ====
section
/-! DEFINITION. Cold boots, warm resets and wakes (R440 to R446), and the life cycle's transitions (R368
to R373, R377). -/

namespace Sys2Proof.Machine

/-! ### Life-cycle transitions (R370 to R372) -/

/-- The target of LC_PROGRESS that a rank names: PROVISION, FIELD, FIELD_OPEN, ANALYSIS, SCRAP are 0 to 4. -/
def lcTarget (rank : Nat) : Nat :=
  match rank with
  | 1 => 0
  | 4 => 1
  | 3 => 2
  | 2 => 3
  | _ => 4

/-- The transitions of R370, by ranks. -/
def lcReachable (cur goal : Nat) : Bool :=
  (cur == 0 && goal == 1) || (cur == 1 && goal == 4) || (cur == 4 && goal == 3) || ((cur == 4 || cur == 3) && goal == 2) ||
    (decide (cur < 5) && goal == 5)

/-- The precondition of a transition to a rank. -/
def State.lcReady (s : State) (goal : Nat) : Bool :=
  match goal with
  | 4 => s.sec.certified
  | 3 => parts8.all (fun p => (s.part p).state == stFree) && s.fabric.lendings.isEmpty
  | _ => true

/-- Bits of LC_PROGRESS of a target are blown, and the entry follows. -/
def State.blowProgress (s : State) (t i : Nat) : State :=
  (s.blow3 3 5 t (2 ^ i)).setReg kLcProgress (setBit (s.reg kLcProgress) (3 * t + i))

/-- The FIELD_OPEN wipe (R370): partitions and lendings end, every key slot is destroyed, and the whole
module is scrubbed with a new key. Without a key the transition stays BEGUN (R377). -/
def State.beginWipe (s : State) (t : Nat) : State :=
  if t < 2 then { s with sec := { s.sec with transition := some (t, 4) } }
  else
    let s := parts8.foldl (fun s p => s.teardown p true 0xB245) s
    let s := s.fabric.lendings.foldl State.endLending s
    let s := (s.sec.keys.filter (fun k => k.2.live)).foldl (fun s k => s.destroySlot k.1) s
    if s.sec.failed then { s with sec := { s.sec with transition := none } }
    else { s with sec := { s.sec with transition := some (t, if 3 ≤ t then 3 else 4) } }.scrubModule

/-- Every unit in service has been scrubbed. -/
def State.wiped (s : State) : Bool :=
  (List.range 32).all (fun u => s.tier.outOfService.contains u || bit (s.reg (scrubbedKey u)) (unitBit u))

/-- A transition that was begun and not done is resumed (R372). -/
def State.resumeLc (s : State) : State :=
  match s.begunTarget with
  | none => s
  | some (t, step) =>
    let s := s.event 0x0B010005 0 t
    if step = 3 then s.beginWipe t else { s with sec := { s.sec with transition := some (t, step) } }

/-- The token digest of a target, as bytes. -/
def State.tokenDigest (s : State) (t : Nat) : List Byte :=
  (List.range 12).flatMap (fun w => leBytes 4 (s.latched (84 + 12 * t + w)))

/-- A refusal of the security block. -/
def State.secRefuse (s : State) (r : Reason) : Reason × State := (r, s.setReg kSecRefusal r)

/-- The write of LC_ENABLE (R371, R373). While a transition runs no other is reachable (log entry 20). -/
def lcOp (v : Nat) (s : State) : Reason × State :=
  if v ≠ 1 then (0, s)
  else
    let goal := s.stagedReg kLcTarget
    let t := lcTarget goal
    let token := leBytes 16 (s.stagedReg kLcToken)
    let r := firstOf [
      (!lcReachable (s.reg kLcState) goal || s.sec.transition.isSome, 0xB203),
      (!s.lcReady goal, 0xB204),
      (bit s.sec.unusable (t + 1), 0xB502),
      (decide (3 ≤ s.sec.tokenMiss), 0xB601),
      (sha384 token != s.tokenDigest t, 0xB503),
      (s.sec.breached && goal == 3, 0xB505)]
    if r = 0xB503 then
      ({ s with sec := { s.sec with tokenMiss := s.sec.tokenMiss + 1 } }.event 0x0B020006 0xB503 t).secRefuse r
    else if r ≠ 0 then s.secRefuse r
    else
      let s := s.commitStaged [kLcTarget, kLcToken]
      (0, { s with sec := { s.sec with transition := some (t, 2) } })

/-- LC_ENABLE (R371). -/
def execLcEnable (r : Requester) (s : State) : Host.Outcome State Fault Refusal :=
  .next (s.writeU8 r 0x9001 0x04 true (lcOp 1))

/-! ### Starts (R440 to R443) -/

/-- A cold boot (R441). -/
def State.coldBoot (s : State) (b : BootInput) : State := (s.cleared true).secureBoot b true State.resumeLc

/-- COLD_START (R441): PWR_GOOD has risen. -/
def execColdStart (b : BootInput) (s : State) : Host.Outcome State Fault Refusal :=
  .next (if s.power.mode = .off then s.coldBoot b else s)

/-- A warm reset (R440): every partition that is not FREE is torn down by force first. -/
def State.warmReset (s : State) (b : BootInput) : State :=
  let s := parts8.foldl (fun s p => s.teardown p true 0xB245) s
  (s.cleared false).secureBoot b false State.resumeLc

/-- The conditions of doldrums (R446). -/
def State.mayDoze (s : State) : Bool :=
  parts8.all (fun p => (s.part p).state == stFree) && s.fabric.lendings.isEmpty && s.enc.scrubbing.isEmpty &&
    s.mgmt.running.isEmpty && s.fw.ops.isEmpty && s.reg kFwState == 0 && s.sec.transition.isNone &&
    !s.sec.tamperBlow && s.power.perst

/-- Doldrums are entered (R444, R446): every memory, key and cell store is lost, and the erase counts are
written to the store (R465). -/
def State.doze (s : State) : State :=
  let s := ((s.writeRec 2 0x0204 []).cleared false)
  let s := { s with fw := { s.fw with saved := s.fw.erases }, power := { s.power with mode := .doldrums } }
  (s.setReg kReadyMap (2 ^ 12)).event 0x0C01000D 0 0

/-- A wake from doldrums (R446): steps 2 to 10 of R441 run. -/
def State.wake (s : State) (b : BootInput) : State :=
  if s.power.mode = .doldrums then ((s.cleared false).secureBoot b false State.resumeLc).event 0x0C01000D 0 0 else s

/-- PERST_ASSERT (R440): ignored without PWR_GOOD (R499); in doldrums the pin alone changes. -/
def execPerstAssert (b : BootInput) (s : State) : Host.Outcome State Fault Refusal :=
  if s.power.mode = .off ∨ s.power.perst then .next s
  else
    let s := { s with power := { s.power with perst := true } }
    .next (if s.power.mode = .doldrums then s else s.warmReset b)

/-- PERST_RELEASE (R441, R446, R485): the PF answers, with the clock found at the release; from doldrums the
module wakes. -/
def execPerstRelease (refclk : Bool) (b : BootInput) (s : State) : Host.Outcome State Fault Refusal :=
  if s.power.mode = .off ∨ s.power.perst = false then .next s
  else
    let s := { s with power := { s.power with perst := false, refclk := refclk } }
    .next (match s.power.mode with
      | .doldrums => s.wake b
      | .running => s.setReady
      | _ => s)

/-- A flash program that has started completes within the hold-up time (R443, R463). -/
def State.holdUp (s : State) : State :=
  match s.fw.ops with
  | [] => s
  | .erase _ :: _ => s
  | o :: _ => s.programOk o

/-- The module without PWR_GOOD (R443): nothing but the flash and what it keeps is left. -/
def State.powerOff (s : State) : State :=
  let s := s.holdUp.cleared true
  { s with power := { s.power with mode := .off } }

/-- PWR_GOOD_FALL (R443). -/
def execPwrGoodFall (s : State) : Host.Outcome State Fault Refusal := .next s.powerOff

/-- INPUT_SWITCH_OPEN (R492): as a fall of PWR_GOOD, whether the input ran under or over. -/
def execInputSwitchOpen (_high : Bool) (s : State) : Host.Outcome State Fault Refusal := .next s.powerOff

/-! ### Fuse blows (R371, R374) -/

/-- The blow of one TAMPER_COUNT bit ends, and the scrub of the whole module follows (R205, R374). -/
def State.tamperBlown (s : State) : State :=
  let n := popCount (tabGet s.sec.fuses 18 0) 32
  let s := (s.blow3 18 1 0 (2 ^ n)).setReg kTamperCount (n + 1)
  { s with sec := { s.sec with tamperBlow := false } }.scrubModule

/-- The blow of a transition's step ends, and the next step begins; a step whose wipe has not ended has no
blow in progress. -/
def State.lcBlown (s : State) (b : BootInput) (t step : Nat) : State :=
  let go := fun (s : State) (n : Nat) => { s with sec := { s.sec with transition := some (t, n) } }
  match step with
  | 2 => ((s.blowProgress t 0).event 0x0B010003 0 t).beginWipe t
  | 3 => if s.wiped then go ((List.range 9).foldl (fun s i => s.blow (75 + i) 0xFFFFFFFF) s) 4 else s
  | 4 => if 2 ≤ t ∧ s.wiped = false then s else go (s.blowProgress t 1) 5
  | 5 => go (s.blow3 0 1 0 (2 ^ t)) 6
  | _ => ((s.blowProgress t 2).event 0x0B010004 0 t).coldBoot b

/-- FUSE_BLOW_DONE (R371): the tamper count comes before any other fuse (R374). -/
def execFuseBlowDone (b : BootInput) (s : State) : Host.Outcome State Fault Refusal :=
  if s.power.mode ≠ .running then .next s
  else if s.sec.tamperBlow then .next s.tamperBlown
  else
    match s.sec.transition with
    | none => .next s
    | some (t, step) => .next (s.lcBlown b t step)

end Sys2Proof.Machine
end

