-- ==== Sys2Proof/Machine/Power.lean ====
section
/-! DEFINITION. Power and heat (R442 to R450), requests that locked partitions defer (R346, R421, R440),
self-tests (R451 to R455), and the slot pins (R424). -/

namespace Sys2Proof.Machine

/-! ### Cluster groups and slot pins at power-up (R424, R441, R454) -/

/-- Columns that a test finds failing are added to the pending bypass map (R115, R454); a failing lane or
cell store takes the whole cluster (R451). -/
def State.bypass (s : State) (x : ClusterTest) : State :=
  let c := x.cluster.val
  let k := kColumnBypassPending (c / 128) (c % 128 + 1)
  let s := (bitsOf x.columns.toNat 64).foldl (fun s i => s.event 0x01020023 0 (c + i * 2 ^ 16)) s
  s.setReg k (if x.laneFail then 2 ^ 64 - 1 else s.reg k ||| x.columns.toNat)

/-- CLUSTER_GROUP_POWER_UP (R441): the group's clusters are tested, and those that pass are ready. -/
def execClusterGroupPowerUp (g : Fin 32) (r : List ClusterTest) (s : State) : Host.Outcome State Fault Refusal :=
  if s.power.mode ≠ .running ∨ bit s.power.cgDown g.val = false ∨ bit s.power.cgColl g.val ∨ s.power.tripped then
    .next s
  else
    let bad := r.filter (fun x => x.cluster.val / 16 == g.val && (x.columns != 0 || x.laneFail))
    let s := bad.foldl State.bypass s
    let s := { s with power := { s.power with failed := s.power.failed ++ bad.map (fun (x : ClusterTest) => x.cluster.val) } }
    .next (s.groupReady g.val)

/-- A frame that the module sends. -/
def State.sendFrame (s : State) (base : Nat) (data : List Byte) : State :=
  if s.onBus = false then s
  else { s with mgmt := { s.mgmt with frames := s.mgmt.frames ++ [⟨s.cobId base, data⟩] } }

/-- SLOT_ID_READ (R424, R489): the node id; 0 leaves the module silent. The boot-up message follows. -/
def execSlotIdRead (pins : BitVec 7) (s : State) : Host.Outcome State Fault Refusal :=
  if s.power.mode ≠ .running ∨ s.power.slotRead then .next s
  else
    let s := { s with power := { s.power with slotRead := true } }.setReg kNodeId pins.toNat
    if pins = 0 then .next ({ s with mgmt := { s.mgmt with silent := true } }.event 0x0C020002 0 0)
    else .next (s.sendFrame 0x700 [0, 0])

/-- SLOT_ID_CHANGE (R424): ignored once the pins are read, with its event. -/
def execSlotIdChange (pins : BitVec 7) (s : State) : Host.Outcome State Fault Refusal :=
  .next (if s.power.slotRead ∧ s.power.mode ≠ .off then s.event 0x0C020003 0 pins.toNat else s)

/-! ### Samples, squalls and trips (R447 to R450) -/

/-- The conditions of a boundary throttle that a sample meets, as THROTTLE_REASON numbers them; an open or
shorted inlet sensor reads as too hot (R496). -/
def hotBits (v : PowerReading) (cap : Nat) : Nat :=
  let hot := match v.inlet with
    | some c => decide (400 < c)
    | none => true
  b2n (decide (cap < v.avgW)) + 2 * b2n (decide (1000 < v.die)) + 8 * b2n hot

/-- A squall trigger is present. -/
def squallOn (v : PowerReading) : Bool := v.peak10us || v.over18ms || v.low100us || decide (1030 ≤ v.die)

/-- The readings' own entries. -/
def State.showSample (s : State) (v : PowerReading) : State :=
  let s := ((s.setReg kInputMv v.mv).setReg kInputW v.w).setReg kDieTemp (unsgn 32 v.die)
  s.setReg kCoolantInTemp (match v.inlet with
    | some c => unsgn 32 c
    | none => 0x7FFFFFFF)

/-- A squall begins, or goes on, or its triggers have cleared (R448). -/
def State.squallStep (s : State) (on : Bool) : State :=
  match s.power.squall, on with
  | none, false => s
  | none, true =>
    let gusts := ofBits (parts8.filter (fun p => (s.grid p).inGust))
    let s := { s with power := { s.power with squall := some (s.now, none), squalled := s.power.squalled ||| gusts } }
    (s.bumpReg kSqualls 1).event 0x0C020008 0 0
  | some (t, _), true => { s with power := { s.power with squall := some (t, none) } }
  | some (t, none), false => { s with power := { s.power with squall := some (t, some s.now) } }
  | some _, false => s

/-- A unit whose contents a test has destroyed is scrubbed again before it is offered (R451). -/
def State.cleanUnit (s : State) (u : Nat) : State :=
  (s.forgetUnit u).startScrub u

/-- The unit that a memory test works on and destroys the contents of. -/
def Test.memoryUnit (x : Test) : Option Nat :=
  if x.id = 3 ∨ x.id = 4 then some x.unit else if x.id = 5 then some (16 + x.unit) else none

/-- A die trip (R450, R455): running partitions fault, every group collapses, and running tests end; a unit that
one of them was destroying is scrubbed again. -/
def State.trip (s : State) : State :=
  let s := { s with power := { s.power with tripped := true } }
  let s := (s.bumpReg kThermalTrips 1).event 0x0C04000A 0xC404 0
  let s := s.faultParts (parts8.filter (fun p => (s.part p).state == stRunning)) 0xC404
  let s := (List.range 32).foldl (fun s g => if bit s.power.cgDown g then s else s.collapseGroup g) s
  if s.mgmt.running.isEmpty then s
  else
    let st := if s.mgmt.tests.isEmpty then 0 else 1
    let cut := s.mgmt.running.filterMap Test.memoryUnit
    let s := ({ s with mgmt := { s.mgmt with running := [] } }.setReg kTestResult 0xC404).setReg kTestState st
    s.withCap (cut.foldl State.cleanUnit)

/-- What a sample does (R447). -/
def State.powerSample (s : State) (v : PowerReading) : State :=
  let s := s.showSample v
  let bits := hotBits v (s.reg kPowerCapW)
  let was := s.power
  let s := if bits != 0 || squallOn v || v.high100us then { s with power := { s.power with lastHot := s.now } } else s
  let s := { s with power := { s.power with conditions := bits, alarms := b2n v.low100us + 2 * b2n v.high100us } }
  let s := if bit bits 3 ∧ bit was.conditions 3 = false then s.event 0x0C02000B 0 0 else s
  let s := if v.low100us ∧ bit was.alarms 0 = false then s.event 0x0C02000C 0 v.mv else s
  let s := if v.high100us ∧ bit was.alarms 1 = false then s.event 0x0C02000C 0 v.mv else s
  let s := s.squallStep (squallOn v)
  if 1050 ≤ v.die ∧ s.power.tripped = false then s.trip
  else if v.die ≤ 900 then { s with power := { s.power with tripped := false } }
  else s

/-- POWER_SAMPLE (R447). -/
def execPowerSample (t : Nat) (v : PowerReading) (s : State) : Host.Outcome State Fault Refusal :=
  let s := s.tick t
  .next (if s.power.mode = .running then s.powerSample v else s)

/-- SQUALL_END (R448): 50 µs after every trigger has cleared. -/
def execSquallEnd (t : Nat) (s : State) : Host.Outcome State Fault Refusal :=
  let s := s.tick t
  match s.power.squall with
  | some (b, some c) =>
    .next (if s.now < c + 50000 then s
      else { s with power := { s.power with squall := none } }.bumpReg kSquallNs (s.now - b))
  | _ => .next s

/-! ### Doldrums (R446) -/

/-- A refusal of the power block (R456). -/
def State.powerRefuse (s : State) (r : Reason) : Reason × State := (r, s.setReg kPowerRefusal r)

/-- The write of DOLDRUMS_NOW. -/
def doldrumsOp (v : Nat) (s : State) : Reason × State :=
  if v ≠ 1 then (0, s)
  else if s.power.mode = .running ∧ s.mayDoze then (0, s.doze) else s.powerRefuse 0xC206

/-- DOLDRUMS_NOW (R446). -/
def execDoldrumsNow (r : Requester) (s : State) : Host.Outcome State Fault Refusal :=
  .next (s.writeU8 r 0x2020 0x07 false (doldrumsOp 1))

/-- WAKE (R446). -/
def execWakeUp (r : Requester) (b : BootInput) (s : State) : Host.Outcome State Fault Refusal :=
  .next (s.writeU8 r 0x2020 0x08 false (fun s => (0, s.wake b)))

/-! ### Deferred requests (R346, R421, R440) -/

/-- The partitions that a request concerns: the locked ones, each with its last sealed step. -/
def State.concerned (s : State) : List (Nat × Nat) :=
  (parts8.filter (fun p => lockedState (s.part p).state)).map (fun p => (p, s.reg (kLastSealedStep p)))

/-- A clock or power request (R346): it acts, is refused, or is deferred with its snapshot triggers armed. -/
def State.powerRequest (s : State) (reset : Bool) (mask : Nat) (act : State → State) : Reason × State :=
  let ps := s.concerned
  if ps.isEmpty then (0, act s)
  else if s.reg kRequestDefer = 0 then (0xB244, s)
  else
    let s := ps.foldl (fun s x => s.armTrigger x.1 2) s
    let d : Deferred := ⟨reset, mask, ps, s.now, s.epochOf 8⟩
    (0, { s with sec := { s.sec with deferred := s.sec.deferred ++ [d] } }.event 0x0B010046 0 0)

/-- FUNC_ENABLE takes a value (R421): stopped subsystems are not ready, those with a clock again are. -/
def State.setClocks (s : State) (v : Nat) : State :=
  let on := v &&& (0x1FFE - s.reg kFuncEnable)
  let s := s.setReg kFuncEnable v
  let keep := s.reg kReadyMap &&& v
  s.setReg kReadyMap (if s.sec.encFailed then keep ||| clearBit on 6 else keep ||| on)

/-- The write of FUNC_ENABLE (R421): bits 11 and 12 cannot be cleared, and the others' reserved
neighbours are ignored (R9). -/
def funcEnableOp (v : Nat) (s : State) : Reason × State :=
  let old := s.reg kFuncEnable
  let v := v &&& 0x1FFE
  if v &&& 0x1800 ≠ 0x1800 then (0xC302, s)
  else if old &&& v = old then (0, s.setClocks v)
  else s.powerRequest false v (fun s => s.setClocks v)

/-- FUNC_ENABLE (R421). -/
def execFuncEnable (r : Requester) (v : BitVec 16) (s : State) : Host.Outcome State Fault Refusal :=
  .next (s.write r 0x1060 0x02 2 false (funcEnableOp v.toNat)).2

/-- The write of MODULE_RESET (R440). -/
def moduleResetOp (b : BootInput) (v : Nat) (s : State) : Reason × State :=
  if v ≠ 1 then (0, s)
  else
    let r := s.powerRequest true 0 (fun s => s.warmReset b)
    if r.1 ≠ 0 then s.powerRefuse r.1 else r

/-- MODULE_RESET (R440). -/
def execModuleReset (r : Requester) (b : BootInput) (s : State) : Host.Outcome State Fault Refusal :=
  .next (s.writeU8 r 0x2020 0x09 false (moduleResetOp b 1))

/-- Every partition that a request concerns has sealed a later step, or is gone. -/
def State.sealed (s : State) (d : Deferred) : Bool :=
  d.parts.all (fun x => lockedState (s.part x.1).state = false || decide (x.2 < s.reg (kLastSealedStep x.1)))

/-- A deferred request goes on: its partitions are torn down, and once they are, it acts. -/
def State.releaseDeferred (s : State) (d : Deferred) (rest : List Deferred) (b : BootInput) : State :=
  let s := (d.parts.filter (fun x => mayStop (s.part x.1).state && !(s.part x.1).stopping)).foldl
    (fun s x => s.stopPart x.1) s
  if d.parts.any (fun x => (s.part x.1).state != stFree) then s
  else
    let s := { s with sec := { s.sec with deferred := rest } }
    if d.reset then s.warmReset b else s.setClocks d.mask

/-- DEFERRED_REQUEST_RELEASE (R346): one of an older epoch is dropped (R375). -/
def execDeferredRequestRelease (b : BootInput) (s : State) : Host.Outcome State Fault Refusal :=
  match s.sec.deferred with
  | [] => .next s
  | d :: rest =>
    .next (if d.epoch ≠ s.epochOf 8 then { s with sec := { s.sec with deferred := rest } }.staleEpoch 8
      else if s.sealed d then s.releaseDeferred d rest b else s)

/-- DEFER_LIMIT_EXPIRY (R346): the oldest request has waited too long; its triggers stay armed. -/
def execDeferLimitExpiry (t : Nat) (s : State) : Host.Outcome State Fault Refusal :=
  let s := s.tick t
  match s.sec.deferred with
  | [] => .next s
  | d :: rest =>
    if s.now < d.since + s.reg kDeferLimitS * nsPerS then .next s
    else
      let s := { s with sec := { s.sec with deferred := rest } }
      let s := s.setReg (if d.reset then kPowerRefusal else kMgmtRefusal) 0xB640
      .next (s.event 0x0B020047 0xB640 0)

/-! ### Self-tests (R451 to R454) -/

/-- How many units a test has (R451). -/
def testUnits (id : Nat) : Nat := [0, 32, 32, 16, 16, 16, 16, 16, 1, 1].getD id 0

/-- A test runs on the unit that a test names: tests of one kind of unit share it. -/
def State.underTest (s : State) (id u : Nat) : Bool :=
  let kind := fun (i : Nat) => [0, 1, 1, 2, 2, 3, 3, 4, 5, 6].getD i 0
  s.mgmt.running.any (fun t => kind t.id == kind id && t.unit == u)

/-- A unit is in service for a test (R451). -/
def State.inService (s : State) (id u : Nat) : Bool :=
  s.underTest id u ||
    (match id with
      | 1 => !bit (s.reg kCgCollapsed) u
      | 2 => !bit (s.reg kCgCollapsed) u
      | 3 => (s.unitPart u).isSome || s.enc.scrubbing.contains (.unit (unitOf u))
      | 4 => (s.unitPart u).isSome || s.enc.scrubbing.contains (.unit (unitOf u))
      | 5 => !s.unitFree (16 + u) || s.enc.scrubbing.contains (.unit (unitOf (16 + u)))
      | 6 => !s.unitFree (16 + u) || s.enc.scrubbing.contains (.unit (unitOf (16 + u)))
      | 7 => s.reg (kPortOwner u) != 0xFF || (s.reg (kPortState u) != 0 && s.reg (kPortState u) != 4)
      | 8 => parts8.any (fun p => lockedState (s.part p).state)
      | _ => false)

/-- A test may run now: the calibration check also runs in a calm window of the holding partition. -/
def State.mayTest (s : State) (id u : Nat) : Bool :=
  !s.inService id u || (id == 6 && !s.underTest id u &&
    (match s.unitPart (16 + u) with
      | some p => s.calm p
      | none => false))

/-- TEST_STATE and TESTS_QUEUED follow. -/
def State.showTests (s : State) : State :=
  (s.setReg kTestState (if s.mgmt.running.isEmpty = false then 2 else if s.mgmt.tests.isEmpty then 0 else 1)).setReg
    kTestsQueued s.mgmt.tests.length

/-- The write of TEST_ENABLE (R452). -/
def testOp (v : Nat) (s : State) : Reason × State :=
  if v ≠ 1 then (0, s)
  else
    let id := s.stagedReg kTestId
    let u := s.stagedReg kTestUnit
    let busy := s.inService id u
    let r := firstOf [
      (decide (testUnits id ≤ u) || decide (1 < s.stagedReg kTestQueue), 0xC005),
      (busy && s.stagedReg kTestQueue == 0, 0xC205),
      (busy && decide (16 ≤ s.mgmt.tests.length), 0xC403)]
    if r ≠ 0 then (r, s.setReg kTestRefusal r)
    else
      let s := s.commitStaged [kTestId, kTestUnit, kTestQueue]
      let t : Test := ⟨id, u, s.now⟩
      (0, ({ s with mgmt := if busy then { s.mgmt with tests := s.mgmt.tests ++ [t] }
                            else { s.mgmt with running := s.mgmt.running ++ [t] } }).showTests)

/-- TEST_ENABLE (R452). -/
def execTestEnable (r : Requester) (s : State) : Host.Outcome State Fault Refusal :=
  .next (s.writeU8 r 0xA801 0x04 true (testOp 1))

/-- TEST_START (R453): the first queued request whose unit is idle. -/
def execTestStart (t : Nat) (s : State) : Host.Outcome State Fault Refusal :=
  let s := s.tick t
  match s.mgmt.tests.find? (fun x => s.mayTest x.id x.unit) with
  | none => .next s
  | some x =>
    .next ({ s with mgmt := { s.mgmt with tests := s.mgmt.tests.erase x, running := s.mgmt.running ++ [x] } }).showTests

/-- What a failing test does (R451, R454). -/
def State.testFailed (s : State) (x : Test) (o : TestOutcome) : State :=
  let chan := fun (s : State) (u : Nat) => match o.channel with
    | some c => if c < unitWidth u then s.setRegBit (pendingKey u) c false else s
    | none => s
  let mine := o.clusters.filter (fun c => c.cluster.val / 16 == x.unit)
  match x.id with
  | 1 => mine.foldl State.bypass s
  | 2 => mine.foldl (fun s c => s.bypass { c with laneFail := true }) s
  | 3 => chan s x.unit
  | 4 => chan s x.unit
  | 5 => chan s (16 + x.unit)
  | 6 => chan s (16 + x.unit)
  | 7 => (s.withCap (·.setPort x.unit { s.port x.unit with failed := true })).setReg (kPortState x.unit) 4
  | 8 => ({ s with sec := { s.sec with encFailed := true } }).setRegBit kReadyMap 6 false
  | _ => (({ s with sec := { s.sec with failed := true } }).setReg kEntropyState 2).event 0x0B040007 0 0

/-- A unit whose contents a test has destroyed is collapsed or scrubbed again before it is offered. -/
def State.afterTest (s : State) (x : Test) : State :=
  match x.id with
  | 1 => s.collapseGroup x.unit
  | 2 => s.collapseGroup x.unit
  | 3 => s.cleanUnit x.unit
  | 4 => s.cleanUnit x.unit
  | 5 => s.cleanUnit (16 + x.unit)
  | 6 => s.mapFree (16 + x.unit)
  | _ => s

/-- The words that a self-test is served while GEN_SOURCE of its unit is 1 (R150): how many is a free value. -/
def State.testWords (s : State) (x : Test) : State :=
  if Config.testNeedsWords x.id then
    { s with freeCount := s.freeCount + 1 }.bumpReg kDrbgWords (Config.testWords s.freeCount)
  else s

/-- TEST_COMPLETE (R453): the test that has run longest ends. One that needs words of a FAILED source ends
with no verdict (R150). -/
def execTestComplete (o : TestOutcome) (s : State) : Host.Outcome State Fault Refusal :=
  match s.mgmt.running with
  | [] => .next s
  | x :: rest =>
    let s := { s with mgmt := { s.mgmt with running := rest } }
    if s.sec.failed ∧ Config.testNeedsWords x.id then
      .next (((s.setReg kTestResult 0xB504).withCap (·.afterTest x)).showTests)
    else
    let s := s.testWords x
    let res := if o.pass then 0 else Config.testReason x.id % 2 ^ 16
    let s := s.setReg kTestResult (res + o.faults.toNat * 2 ^ 16)
    let s := s.event (if o.pass then 0x0C00000E else 0x0C02000F) (if o.pass then 0 else res) (x.id + x.unit * 2 ^ 8)
    let s := if o.pass then s else s.testFailed x o
    .next ((s.withCap (·.afterTest x)).showTests)

/-- A queued request's unit has left service. -/
def State.testGone (s : State) (x : Test) : Bool :=
  match x.id with
  | 3 => s.tier.outOfService.contains x.unit
  | 4 => s.tier.outOfService.contains x.unit
  | 5 => s.tier.outOfService.contains (16 + x.unit)
  | 6 => s.tier.outOfService.contains (16 + x.unit)
  | _ => false

/-- TEST_QUEUE_EXPIRY (R453). -/
def execTestQueueExpiry (t : Nat) (s : State) : Host.Outcome State Fault Refusal :=
  let s := s.tick t
  let old := fun (x : Test) => decide (x.since + s.reg kTestQueueLimitS * nsPerS ≤ s.now) || s.testGone x
  let gone := s.mgmt.tests.filter old
  if gone.isEmpty then .next s
  else
    let s := { s with mgmt := { s.mgmt with tests := s.mgmt.tests.filter (fun x => !old x) } }.setReg kTestRefusal 0xC603
    .next (gone.foldl (fun s x => s.event 0x0C010010 0xC603 x.id) s).showTests

end Sys2Proof.Machine
end

