-- ==== Sys2Proof/Machine/Spdm.lean ====
section
/-! DEFINITION. The SPDM responder (R4, R340, R355): the messages are those of SPDM 1.3, which the spec
names and does not print (log entry 22); what they carry is R340's. -/

namespace Sys2Proof.Machine

/-- A message's header: version 1.3, code and two parameters. -/
def spdmHead (code p1 p2 : Nat) : List Byte :=
  [0x13, BitVec.ofNat 8 code, BitVec.ofNat 8 p1, BitVec.ofNat 8 p2]

/-- An ERROR response. -/
def spdmError (code : Nat) : List Byte := spdmHead 0x7F code 0

def errInvalid : Nat := 0x01
def errUnexpected : Nat := 0x04
def errUnspecified : Nat := 0x05
def errDecrypt : Nat := 0x06
def errUnsupported : Nat := 0x07
def errVersion : Nat := 0x41

/-- `n` little-endian bytes of a message at an offset. -/
def msgLe (m : List Byte) (o n : Nat) : Nat := ofLe ((m.drop o).take n)

/-- What a request answers: the response, and the state. -/
abbrev SpdmOut := List Byte × State

def State.setSpdm (s : State) (x : Spdm) : State := { s with sec := { s.sec with spdm := x } }

/-- Whether SPDM gives evidence: UDS is usable (R355). -/
def State.proves (s : State) : Bool := !bit s.sec.unusable 0

/-! ### Evidence (R340, R350) -/

/-- The certificate chain as SPDM carries it: its bytes are a free value. -/
def State.certChain (s : State) : List Byte := Config.certChain s.sec.deviceId s.sec.alias_

/-- The value of a measurement block. -/
def State.blockValue (s : State) (i : Nat) : Option (List Byte) :=
  if 1 ≤ i ∧ i ≤ 6 then some ((leBytes 288 (s.reg kMeasurements)).drop (48 * (i - 1)) |>.take 48)
  else if i = 7 then some (leBytes 1 (s.reg kLcState))
  else if 0x10 ≤ i ∧ i < 0x18 then
    let x := s.part (i - 0x10)
    some (leBytes 1 x.state ++ leBytes 4 x.gen ++ leBytes 4 x.cgMap ++ leBytes 2 x.stackMap ++ leBytes 2 x.fgMap ++
      leBytes 2 x.portMap ++ leBytes 48 (s.reg (kCharterDigest (i - 0x10))))
  else none

/-- A measurement block: index, DMTF specification, and the kind of value: a digest of firmware for 1 to 6,
raw bytes for the others. -/
def State.block (s : State) (i : Nat) : List Byte :=
  match s.blockValue i with
  | none => []
  | some v =>
    let kind := if i ≤ 6 then 0x01 else if i = 7 then 0x82 else 0x83
    [BitVec.ofNat 8 i, 1] ++ leBytes 2 (v.length + 3) ++ leBytes 1 kind ++ leBytes 2 v.length ++ v

/-- The numbers of the blocks. -/
def blockNumbers : List Nat := [1, 2, 3, 4, 5, 6, 7] ++ (List.range 8).map (0x10 + ·)

/-- The digest of all blocks, where a request asks for it. -/
def State.summary (s : State) (ask : Nat) : List Byte :=
  if ask = 0 then [] else sha384 (blockNumbers.flatMap s.block)

/-! ### Signatures -/

/-- What SPDM 1.3 puts before a digest that it signs. -/
def signContext (label : String) : List Byte :=
  let v := (List.replicate 4 (ascii "dmtf-spdm-v1.3.*")).flatten
  let l := ascii label
  v ++ List.replicate (36 - l.length) 0 ++ l

/-- A signature of evidence by the alias key (R357). Its secret is drawn from the CTR_DRBG, which serves
nothing once the source has failed (R367). -/
def State.signed (s : State) (label : String) (covered : List Byte) : Option SpdmOut :=
  match s.drbg 48 false with
  | none => none
  | some (k, t) => some (ecdsaSign t.sec.alias_ (scalarOf k) (signContext label ++ sha384 covered), t)

/-! ### The requests -/

/-- GET_VERSION starts the agreement over. -/
def State.spdmVersion (s : State) (m : List Byte) : SpdmOut :=
  let r := [0x10, 0x04, 0, 0, 0, 1, 0x00, 0x13]
  (r, s.setSpdm ⟨1, m.take 4 ++ r, [], []⟩)

/-- GET_CAPABILITIES: certificates, challenge, signed measurements, encryption, authentication, key exchange with its
handshake in the clear; messages of up to 4,096 bytes (R437). -/
def State.spdmCapabilities (s : State) (m : List Byte) : SpdmOut :=
  let x := s.sec.spdm
  if x.stage ≠ 1 then (spdmError errUnexpected, s)
  else if m.length < 20 then (spdmError errInvalid, s)
  else
    let r := spdmHead 0x61 0 0 ++ [0, Config.ctExponent, 0, 0] ++ leBytes 4 0x82D6 ++ leBytes 4 4096 ++ leBytes 4 4096
    (r, s.setSpdm { x with stage := 2, vca := x.vca ++ m.take 20 ++ r })

/-- NEGOTIATE_ALGORITHMS (R4): ECDSA P-384 and SHA-384, with the key exchange on the same curve and
AES-256-GCM for its sessions, where the requester asks for an algorithm table. -/
def State.spdmAlgorithms (s : State) (m : List Byte) : SpdmOut :=
  let x := s.sec.spdm
  let n := msgLe m 4 2
  if x.stage ≠ 2 then (spdmError errUnexpected, s)
  else if n < 32 ∨ m.length < n ∨ 128 < n then (spdmError errInvalid, s)
  else
    let tables := if msgLe m 2 1 = 0 then [] else
      [2, 0x20] ++ leBytes 2 0x10 ++ [3, 0x20] ++ leBytes 2 0x02 ++ [5, 0x20] ++ leBytes 2 0x01
    let r := spdmHead 0x63 (tables.length / 4) 0 ++ leBytes 2 (36 + tables.length) ++ [1, 2] ++ leBytes 4 0x04 ++
      leBytes 4 0x80 ++ leBytes 4 0x02 ++ List.replicate 16 0 ++ tables
    (r, s.setSpdm { x with stage := 3, vca := x.vca ++ m.take n ++ r })

/-- GET_DIGESTS: slot 0 holds the one chain. -/
def State.spdmDigests (s : State) (m : List Byte) : SpdmOut :=
  let x := s.sec.spdm
  if x.stage ≠ 3 then (spdmError errUnexpected, s)
  else if s.proves = false then (spdmError errUnsupported, s)
  else
    let r := spdmHead 0x01 1 1 ++ sha384 s.certChain
    (r, s.setSpdm { x with chain := x.chain ++ m.take 4 ++ r })

/-- GET_CERTIFICATE: a portion of the chain. -/
def State.spdmCertificate (s : State) (m : List Byte) : SpdmOut :=
  let x := s.sec.spdm
  let c := s.certChain
  let off := msgLe m 4 2
  let n := min (min (msgLe m 6 2) (c.length - off)) 4080
  if x.stage ≠ 3 then (spdmError errUnexpected, s)
  else if s.proves = false then (spdmError errUnsupported, s)
  else if m.length < 8 ∨ msgLe m 2 1 ≠ 0 ∨ c.length ≤ off then (spdmError errInvalid, s)
  else
    let r := spdmHead 0x02 0 0 ++ leBytes 2 n ++ leBytes 2 (c.length - off - n) ++ (c.drop off).take n
    (r, s.setSpdm { x with chain := x.chain ++ m.take 8 ++ r })

/-- CHALLENGE: a signature of the alias key over the agreement, the chain's messages and this one. -/
def State.spdmChallenge (s : State) (m : List Byte) : SpdmOut :=
  let x := s.sec.spdm
  if x.stage ≠ 3 then (spdmError errUnexpected, s)
  else if s.proves = false then (spdmError errUnsupported, s)
  else if m.length < 44 ∨ msgLe m 2 1 ≠ 0 then (spdmError errInvalid, s)
  else
    match s.drbg 32 false with
    | none => (spdmError errUnspecified, s)
    | some (nonce, t) =>
      let r := spdmHead 0x03 0 1 ++ sha384 s.certChain ++ nonce ++ s.summary (msgLe m 3 1) ++ leBytes 2 0 ++
        (m.drop 36).take 8
      match t.signed "responder-challenge_auth signing" (x.vca ++ x.chain ++ m.take 44 ++ r) with
      | none => (spdmError errUnspecified, t)
      | some (sig, t) => (r ++ sig, t.setSpdm { x with chain := [] })

/-- GET_MEASUREMENTS: how many blocks there are, one of them, or all, signed where the request asks. -/
def State.spdmMeasurements (s : State) (m : List Byte) : SpdmOut :=
  let x := s.sec.spdm
  let sign := msgLe m 2 1 % 2 == 1
  let op := msgLe m 3 1
  let len := if sign then 45 else 12
  let blocks := if op = 0 then [] else if op = 0xFF then blockNumbers else [op]
  if x.stage ≠ 3 then (spdmError errUnexpected, s)
  else if sign && !s.proves then (spdmError errUnsupported, s)
  else if m.length < len ∨ (sign && msgLe m 36 1 != 0) ∨ blocks.any (fun i => (s.blockValue i).isNone) then
    (spdmError errInvalid, s)
  else
    match s.drbg 32 false with
    | none => (spdmError errUnspecified, s)
    | some (nonce, t) =>
      let data := blocks.flatMap s.block
      let r := spdmHead 0x60 (if op = 0 then blockNumbers.length else 0) 0 ++ leBytes 1 blocks.length ++
        leBytes 3 data.length ++ data ++ nonce ++ leBytes 2 0 ++ (m.drop (len - 8)).take 8
      let l := x.meas ++ m.take len ++ r
      if sign = false then (r, t.setSpdm { x with meas := l })
      else
        match t.signed "responder-measurements signing" (x.vca ++ l) with
        | none => (spdmError errUnspecified, t)
        | some (sig, t) => (r ++ sig, t.setSpdm { x with meas := [] })

/-! ### Sessions -/

/-- HMAC with SHA-384, for keys of at most a block. -/
def hmac384 (key m : List Byte) : List Byte :=
  let k := padTo 128 0 key
  sha384 (k.map (· ^^^ 0x5C) ++ sha384 (k.map (· ^^^ 0x36) ++ m))

/-- The 48-byte expansion of SPDM's key schedule. -/
def expand48 (key : List Byte) (label : String) (ctx : List Byte) : List Byte :=
  hmac384 key (leBytes 2 48 ++ ascii "spdm1.3 " ++ ascii label ++ ctx ++ [1])

/-- The key that proves one side of a handshake: of the responder's secret or of the requester's. -/
def finishedKey (handshake : List Byte) (label : String) (th1 : List Byte) : List Byte :=
  expand48 (expand48 handshake label th1) "finished" []

/-- Whether the requester too has its handshake in the clear: bit 15 of the flags in its GET_CAPABILITIES, which
stands behind the two messages of the version. -/
def Spdm.clear (x : Spdm) : Bool := bit (msgLe x.vca 20 4) 15

/-- KEY_EXCHANGE: an ephemeral Diffie–Hellman exchange on P-384, signed by the alias key, opens a
session; its response proves the handshake secret unless the handshake goes in the clear. -/
def State.spdmKeyExchange (s : State) (m : List Byte) : SpdmOut :=
  let x := s.sec.spdm
  let len := 138 + msgLe m 136 2
  let peer := pair48 ((m.drop 40).take 96)
  if x.stage ≠ 3 then (spdmError errUnexpected, s)
  else if s.proves = false then (spdmError errUnsupported, s)
  else if m.length < len ∨ m.length < 138 ∨ msgLe m 3 1 ≠ 0 ∨ ecOnCurve peer = false then (spdmError errInvalid, s)
  else
    match s.drbg 82 false with
    | none => (spdmError errUnspecified, s)
    | some (rnd, t) =>
      let d := scalarOf ((rnd.drop 34).take 48)
      let r := spdmHead 0x64 0 0 ++ rnd.take 2 ++ [0, 0] ++ (rnd.drop 2).take 32 ++ ecPublic d ++
        s.summary (msgLe m 2 1) ++ leBytes 2 0
      let th := x.vca ++ sha384 s.certChain ++ m.take len ++ r
      match t.signed "responder-key_exchange_rsp signing" th with
      | none => (spdmError errUnspecified, t)
      | some (sig, t) =>
        let secret := match (ecMul d peer).affine with
          | some q => beBytes 48 q.1
          | none => List.replicate 48 0
        let hs := hmac384 (List.replicate 48 0) secret
        let th1 := sha384 (th ++ sig)
        let proof := if x.clear then [] else hmac384 (finishedKey hs "rsp hs data" th1) th1
        let id := msgLe m 4 2 + ofLe (rnd.take 2) * 2 ^ 16
        (r ++ sig ++ proof,
          { t with sec := { t.sec with sessions := t.sec.sessions ++ [⟨id, hs, th ++ sig ++ proof, false⟩] } })

/-- FINISH: the requester proves the handshake secret of the session whose handshake is open, and the module proves it
in its response where the handshake goes in the clear. A proof that does not hold ends that session. -/
def State.spdmFinish (s : State) (m : List Byte) : SpdmOut :=
  match s.sec.sessions.find? (fun x => !x.done) with
  | none => (spdmError errUnexpected, s)
  | some x =>
    let clear := s.sec.spdm.clear
    let th1 := sha384 (if clear then x.transcript else x.transcript.take (x.transcript.length - 48))
    let th := x.transcript ++ m.take 4
    let others := s.sec.sessions.filter (· != x)
    if m.length < 52 ∨ msgLe m 2 1 ≠ 0 then (spdmError errInvalid, s)
    else if hmac384 (finishedKey x.handshake "req hs data" th1) (sha384 th) ≠ (m.drop 4).take 48 then
      (spdmError errDecrypt, { s with sec := { s.sec with sessions := others } })
    else
      let head := spdmHead 0x65 0 0
      let t := { s with sec := { s.sec with sessions := others ++ [{ x with done := true, transcript := th ++ (m.drop 4).take 48 ++ head }] } }
      let proof := if clear then hmac384 (finishedKey x.handshake "rsp hs data" th1) (sha384 (th ++ (m.drop 4).take 48 ++ head)) else []
      (head ++ proof, t)

/-- END_SESSION: the session whose handshake is closed ends. -/
def State.spdmEndSession (s : State) : SpdmOut :=
  match s.sec.sessions.find? (·.done) with
  | none => (spdmError errUnexpected, s)
  | some x => (spdmHead 0x6C 0 0, { s with sec := { s.sec with sessions := s.sec.sessions.filter (· != x) } })

/-! ### How a request arrives -/

/-- The response to a message: the version is checked first, for every code but GET_VERSION's. -/
def State.spdmAnswer (s : State) (m : List Byte) : SpdmOut :=
  let code := msgLe m 1 1
  if m.length < 4 then (spdmError errInvalid, s)
  else if code ≠ 0x84 ∧ msgLe m 0 1 ≠ 0x13 then (spdmError errVersion, s)
  else
    match code with
    | 0x84 => s.spdmVersion m
    | 0xE1 => s.spdmCapabilities m
    | 0xE3 => s.spdmAlgorithms m
    | 0x81 => s.spdmDigests m
    | 0x82 => s.spdmCertificate m
    | 0x83 => s.spdmChallenge m
    | 0xE0 => s.spdmMeasurements m
    | 0xE4 => s.spdmKeyExchange m
    | 0xE5 => s.spdmFinish m
    | 0xEC => s.spdmEndSession
    | _ => (spdmError errUnsupported, s)

/-- A message of the request code `code`, whatever its second byte says. -/
def withCode (code : Nat) (m : List Byte) : List Byte := m.take 1 ++ [BitVec.ofNat 8 code] ++ m.drop 2

/-- The write of SPDM_REQUEST (R437): the response stands ready at once. In doldrums the security complex
does not answer, and the request stays in work. -/
def spdmOp (m : List Byte) (s : State) : Reason × State :=
  if bit (s.reg kReadyMap) 11 = false then (0, (s.setReg kSpdmResponse 0).setReg kSpdmStatus 1)
  else
    let o := s.spdmAnswer m
    (0, (o.2.setReg kSpdmResponse (ofLe o.1)).setReg kSpdmStatus 2)

/-- A request by way of the dictionary, or of the PF's DOE mailbox, which answers once the PF does and SPDM is
ready (R380, R441). -/
def State.spdmRequest (s : State) (r : Option Requester) (m : List Byte) : State :=
  match r with
  | some r => (s.write r 0x1F20 0x01 (max 4096 m.length) false (spdmOp m)).2
  | none =>
    if s.power.mode ≠ .running ∨ s.power.perst ∨ bit (s.reg kReadyMap) 11 = false then s
    else
      let o := s.spdmAnswer m
      { o.2 with sec := { o.2.sec with doeReply := o.1 } }

/-- GET_VERSION (R340). -/
def execGetVersion (r : Option Requester) (msg : List Byte) (s : State) : Host.Outcome State Fault Refusal :=
  .next (s.spdmRequest r (withCode 0x84 msg))

/-- GET_CAPABILITIES (R340). -/
def execGetCapabilities (r : Option Requester) (msg : List Byte) (s : State) : Host.Outcome State Fault Refusal :=
  .next (s.spdmRequest r (withCode 0xE1 msg))

/-- NEGOTIATE_ALGORITHMS (R340). -/
def execNegotiateAlgorithms (r : Option Requester) (msg : List Byte) (s : State) : Host.Outcome State Fault Refusal :=
  .next (s.spdmRequest r (withCode 0xE3 msg))

/-- GET_DIGESTS (R340). -/
def execGetDigests (r : Option Requester) (msg : List Byte) (s : State) : Host.Outcome State Fault Refusal :=
  .next (s.spdmRequest r (withCode 0x81 msg))

/-- GET_CERTIFICATE (R340). -/
def execGetCertificate (r : Option Requester) (msg : List Byte) (s : State) : Host.Outcome State Fault Refusal :=
  .next (s.spdmRequest r (withCode 0x82 msg))

/-- CHALLENGE (R340). -/
def execChallenge (r : Option Requester) (msg : List Byte) (s : State) : Host.Outcome State Fault Refusal :=
  .next (s.spdmRequest r (withCode 0x83 msg))

/-- GET_MEASUREMENTS (R340). -/
def execGetMeasurements (r : Option Requester) (msg : List Byte) (s : State) : Host.Outcome State Fault Refusal :=
  .next (s.spdmRequest r (withCode 0xE0 msg))

/-- KEY_EXCHANGE (R340). -/
def execKeyExchange (r : Option Requester) (msg : List Byte) (s : State) : Host.Outcome State Fault Refusal :=
  .next (s.spdmRequest r (withCode 0xE4 msg))

end Sys2Proof.Machine
end

