-- ==== Sys2Proof/Machine/Partition.lean ====
section
/-! DEFINITION. Partitions (R328 to R347): builds, charters, the requests of the host's trusted domain,
owner keys, teardown requests, and the comparison of the views. -/

namespace Sys2Proof.Machine

/-- A refusal of a partition's entry (R348). -/
def State.partRefuse (s : State) (p : Nat) (r : Reason) : Reason × State := (r, s.setReg (kPartRefusal p) r)

/-! ### Building (R332) -/

/-- Clusters of a group stand ready, and no test runs on it. -/
def State.groupServes (s : State) (g : Nat) : Bool :=
  !bit s.power.cgDown g && !(s.usable g).isEmpty && !s.underTest 1 g

/-- A memory unit is in service and ready, and no test runs on it. -/
def State.unitServes (s : State) (u : Nat) : Bool :=
  !s.tier.outOfService.contains u && bit (s.reg (readyKey u)) (unitBit u) &&
    !(if u < 16 then s.underTest 3 u else s.underTest 5 (u - 16))

/-- The memory units that two maps name. -/
def unitsNamed (near far : Nat) : List Nat := bitsOf near 16 ++ (bitsOf far 16).map (16 + ·)

/-- The checks of R332 in its order, after the breach of R374; `held` tells whether the requester held the
build lock before it wrote. No partition is built from a transition's begin to its end (R372). -/
def State.buildCheck (s : State) (p : Nat) (held : Bool) : Reason :=
  let cgs := bitsOf (s.stagedReg (kCgMap p)) 32
  let units := unitsNamed (s.stagedReg (kPartStackMap p)) (s.stagedReg (kFargroupMap p))
  let ports := bitsOf (s.stagedReg (kPortMap p)) 16
  firstOf [
    (s.sec.breached, 0xB505),
    (s.stagedReg (kExpectGen p) != (s.part p).gen, 0xB241),
    (!held, 0xB242),
    ((s.part p).state != stBuilding || s.sec.transition.isSome || s.begunTarget.isSome, 0xB240),
    (cgs.isEmpty || s.stagedReg (kPartStackMap p) == 0 || s.stagedReg (kFargroupMap p) == 0, 0xB040),
    (cgs.any (fun g => (s.holderOf Part.cgMap g).isSome) || units.any (fun u => (s.unitPart u).isSome) ||
      ports.any (fun n => decide (s.reg (kPortOwner n) < 8)), 0xB440),
    (cgs.any (fun g => !s.groupServes g) || units.any (fun u => !s.unitServes u), 0xB441),
    (units.any (fun u => !bit (s.reg (scrubbedKey u)) (unitBit u) || !(s.lentIn u).isEmpty), 0xB442),
    (cgs.any (fun g => !bit (s.reg kCgCollapsed) g), 0xB443),
    (ports.any (fun n => s.reg (kPortOwner n) != 0xFF || (s.reg (kPortState n) != 0 && s.reg (kPortState n) != 4)), 0xB444)]

/-- The write of BUILD_ENABLE (R332). -/
def buildOp (p : Nat) (held : Bool) (v : Nat) (s : State) : Reason × State :=
  if v ≠ 1 then (0, s)
  else
    let r := s.buildCheck p held
    if r ≠ 0 then s.partRefuse p r
    else
      let s := s.commitStaged (groupKeys (0x3010 + p))
      let cg := s.reg (kCgMap p)
      let st := s.reg (kPartStackMap p)
      let fg := s.reg (kFargroupMap p)
      let pm := s.reg (kPortMap p)
      let s := s.setPart p { s.part p with cgMap := cg, stackMap := st, fgMap := fg, portMap := pm }
      let s := (bitsOf cg 32).foldl (fun s g => s.setRegBit kCgCollapsed g false) s
      let s := (unitsNamed st fg).foldl (fun s u => s.setRegBit (scrubbedKey u) (unitBit u) false) s
      let s := (bitsOf pm 16).foldl (fun s n => s.setReg (kPortOwner n) p) s
      (0, (s.setPartState p stConfigured).event 0x0B000040 0 p)

/-- Whether a requester holds a group's lock. -/
def State.holdsLock (s : State) (r : Requester) (g : Nat) : Bool :=
  s.locks.any (fun l => l.group == g && l.owner == reqCode r)

/-- BUILD_ENABLE (R332). -/
def execBuildEnable (r : Requester) (p : Fin 8) (s : State) : Host.Outcome State Fault Refusal :=
  .next (s.writeU8 r (0x3010 + p.val) 0x06 true (buildOp p.val (s.holdsLock r (0x3010 + p.val)) 1))

/-! ### The charter (R335 to R338) -/

/-- Owner entry `i` of a charter (R337). -/
def ownerAt (doc : List Byte) (i : Nat) : Owner :=
  let b := (doc.drop (128 + 128 * i)).take 128
  let x := ofLe b
  ⟨b.take 96, bit x 768, bit x 769, bit x 770, fld x 776 4⟩

/-- An accepted measurement of a charter. -/
def measAt (doc : List Byte) (owners i : Nat) : List Byte := (doc.drop (128 + 128 * owners + 48 * i)).take 48

/-- The fields of the header of R336, as a charter. -/
def charterOf (doc : List Byte) : Charter :=
  let h := ofLe (doc.take 128)
  let n := fld h 16 4
  let mc := fld h 24 7
  { digest := sha384 (doc.take (128 + 128 * n + 48 * mc))
    jobId := fld h 32 32
    clip := fld h 64 2
    badStep := fld h 66 2
    hostDrain := bit h 68
    lending := bit h 69
    maxModules := fld h 96 16
    maxLost := fld h 112 16
    noiseFloor := fld h 128 32
    jobDigest := (doc.drop 24).take 48
    owners := (List.range n).map (ownerAt doc)
    accepted := (List.range mc).map (measAt doc n) }

/-- The fields within the ranges of R336 and R337. -/
def charterRanges (doc : List Byte) : Bool :=
  let h := ofLe (doc.take 128)
  let c := charterOf doc
  fld h 0 16 == 1 && !c.owners.isEmpty && decide (c.owners.length ≤ 8) && !c.accepted.isEmpty &&
    decide (c.accepted.length ≤ 64) && c.jobId != 0 && decide (c.clip ≤ 2) && decide (c.badStep ≤ 2) &&
    decide (1 ≤ c.maxModules) && decide (c.maxModules ≤ 16384) && decide (c.maxLost ≤ 2048) &&
    !bit c.noiseFloor 31 && fld c.noiseFloor 23 8 != 0xFF &&
    c.owners.all (fun o => decide (o.dataKeys ≤ 8) && (!o.data || o.dataKeys != 0))

/-- The owners' signatures hold; with UDS unusable none can be checked (R355). -/
def State.charterSigned (s : State) (doc : List Byte) : Bool :=
  let c := charterOf doc
  let n := c.owners.length
  let body := 128 + 128 * n + 48 * c.accepted.length
  s.udsUsable && (c.owners.zipIdx).all (fun o =>
    ecdsaVerify o.1.key (doc.take body) ((doc.drop (body + 96 * o.2)).take 96))

/-- The checks of R338, after the breach of R374. -/
def State.charterCheck (s : State) (p : Nat) (doc : List Byte) : Reason :=
  let c := charterOf doc
  let n := c.owners.length
  let live := parts8.any (fun q => q != p && (s.part q).state != stFree && s.jobIdOf q == c.jobId)
  if s.sec.breached then 0xB505
  else if (s.part p).state ≠ stLocked ∨ (s.part p).charter.isSome then 0xB240
  else if charterRanges doc = false then 0xB041
  else if doc.length ≠ 128 + 128 * n + 48 * c.accepted.length + 96 * n ∨ c.owners.any (·.share) = false ∨ live then 0xB140
  else if s.charterSigned doc = false then 0xB540
  else if c.accepted.contains (leBytes 48 (s.reg kComposite)) = false then 0xB541
  else if s.reg kLcState ≠ 4 then 0xB542
  else 0

/-- CHARTER (R338). -/
def execCharter (p : Fin 8) (doc : List Byte) (s : State) : Host.Outcome State Fault Refusal :=
  let p := p.val
  let r := s.charterCheck p doc
  if r ≠ 0 then .next ((s.event 0x0B020042 r p).partRefuse p r).2
  else
    let c := charterOf doc
    let s := s.setPart p { s.part p with charter := some c }
    let s := ((s.setReg (kCharterDigest p) (ofLe c.digest)).setReg (kJobId p) c.jobId).setReg (kNoiseFloor p) c.noiseFloor
    .next (s.riseGen p)

/-! ### The host's trusted domain (R339) -/

/-- Every unit of the partition is ready. -/
def State.unitsReady (s : State) (p : Nat) : Bool :=
  let x := s.part p
  (bitsOf x.cgMap 32).all (fun g => !bit s.power.cgDown g && !(s.usable g).isEmpty) &&
    (unitsNamed x.stackMap x.fgMap).all (fun u =>
      !s.tier.outOfService.contains u && bit (s.reg (readyKey u)) (unitBit u))

/-- Every owner has delivered what its entry owes: KEYS_DELIVERED. -/
def State.delivered (s : State) (p : Nat) : Nat :=
  let x := s.part p
  let os := match x.charter with
    | some c => c.owners
    | none => []
  ofBits ((List.range os.length).filter (fun i =>
    match os[i]? with
    | some o => (!o.data || decide (o.dataKeys ≤ (x.dataKeys.filter (fun d => d.1 == i)).length)) &&
        (!o.share || x.shares.any (fun d => d.1 == i))
    | none => false))

/-- A TDISP response: its message code and its payload (log entry 22). -/
def State.tdispReply (s : State) (code : Nat) (data : List Byte) : State :=
  { s with sec := { s.sec with doeReply := [0x10, BitVec.ofNat 8 code] ++ data } }

/-- A TDISP error response, with the reason recorded. -/
def State.tdispError (s : State) (p : Nat) (r : Reason) : State := (s.partRefuse p r).2.tdispReply 0x7F []

/-- LOCK_INTERFACE_REQUEST (R339). -/
def execLockInterfaceRequest (p : Fin 8) (s : State) : Host.Outcome State Fault Refusal :=
  let x := s.part p.val
  .next (if x.state = stConfigured ∧ x.ideKeyed ∧ s.unitsReady p.val then (s.setPartState p.val stLocked).tdispReply 0x03 []
    else s.tdispError p.val 0xB240)

/-- GET_DEVICE_INTERFACE_REPORT (R339): the sizes of BAR0 and BAR4, the unit maps, PART_GEN and
CHARTER_DIGEST. -/
def execGetDeviceInterfaceReport (p : Fin 8) (s : State) : Host.Outcome State Fault Refusal :=
  let x := s.part p.val
  .next (if x.state = stLocked ∨ x.state = stRunning then
      s.tdispReply 0x04 (leBytes 4 0x40000 ++ leBytes 4 0x100000 ++ leBytes 4 x.cgMap ++ leBytes 2 x.stackMap ++
        leBytes 2 x.fgMap ++ leBytes 2 x.portMap ++ leBytes 4 x.gen ++ leBytes 48 (s.reg (kCharterDigest p.val)))
    else s.tdispError p.val 0xB240)

/-- START_INTERFACE_REQUEST (R339): the job is admitted. A secret is drawn for it (R147, R367), unless the module
that admitted the job has sent its own; the partition runs, so its generator takes its words from the secret (R150),
and LOST_MODULES counts from here (R320). -/
def execStartInterfaceRequest (p : Fin 8) (s : State) : Host.Outcome State Fault Refusal :=
  let p := p.val
  match (s.part p).charter with
  | none => .next (s.tdispError p (if (s.part p).state = stLocked then 0xB243 else 0xB240))
  | some c =>
    if (s.part p).state ≠ stLocked then .next (s.tdispError p 0xB240)
    else if s.delivered p ≠ 2 ^ c.owners.length - 1 then .next (s.tdispError p 0xB243)
    else
      let r := if (s.part p).secret.isSome then (0, s) else s.drawSecret p
      .next (if r.1 ≠ 0 then r.2.tdispError p r.1
        else (((r.2.setPartState p stRunning).setReg (kLostModules p) 0).decideSource p).tdispReply 0x06 [])

/-- STOP_INTERFACE_REQUEST (R339, R344). -/
def execStopInterfaceRequest (p : Fin 8) (s : State) : Host.Outcome State Fault Refusal :=
  .next (if mayStop (s.part p.val).state then (s.stopPart p.val).tdispReply 0x07 [] else s.tdispError p.val 0xB240)

/-- IDE_STREAM_KEYED (R339): the VF exists while its partition is not FREE (R380). -/
def execIdeStreamKeyed (p : Fin 8) (s : State) : Host.Outcome State Fault Refusal :=
  .next (if (s.part p.val).state = stFree then s
    else s.setPart p.val { s.part p.val with ideKeyed := true })

/-- IDE_INTEGRITY_FAILURE (R339): on a keyed stream, a forced teardown with 0xB543. -/
def execIdeIntegrityFailure (p : Fin 8) (s : State) : Host.Outcome State Fault Refusal :=
  .next (if (s.part p.val).ideKeyed ∧ mayStop (s.part p.val).state then s.teardown p.val true 0xB543 else s)

/-! ### Owner keys (R341) -/

/-- The layout of a delivery (log entry 23): CHARTER_DIGEST, owner index, kind (0 a data key, 1 a share), the
wrapped key, and the signature as the last 96 bytes. -/
structure Delivery where
  digest : List Byte
  owner  : Nat
  kind   : Nat
  key    : List Byte
  signed : List Byte
  sig    : List Byte
  deriving DecidableEq, Repr

def deliveryOf (m : List Byte) : Delivery :=
  let n := m.length - 96
  ⟨m.take 48, msgLe m 48 1, msgLe m 49 1, padTo 32 0 (Config.unwrapKey ((m.take n).drop 50)), m.take n, m.drop n⟩

/-- The checks of R341; outside FIELD no key is taken (R368). -/
def State.deliveryCheck (s : State) (p : Nat) (d : Delivery) : Reason :=
  let x := s.part p
  let right := match x.charter with
    | none => false
    | some c =>
      match c.owners[d.owner]? with
      | none => false
      | some o =>
        (d.kind == 0 && o.data && decide ((x.dataKeys.filter (fun k => k.1 == d.owner)).length < o.dataKeys)) ||
          (d.kind == 1 && o.share && !x.shares.any (fun k => k.1 == d.owner))
  let holds := match x.charter with
    | none => false
    | some c => d.digest == c.digest && s.udsUsable && ecdsaVerify ((c.owners[d.owner]?).elim [] (·.key)) d.signed d.sig
  if x.state ≠ stLocked ∧ x.state ≠ stRunning then 0xB240
  else if right = false then 0xB340
  else if holds = false then 0xB540
  else if s.reg kLcState ≠ 4 then 0xB542
  else 0

/-- The checkpoint key: every share together. -/
def xorShares (l : List (Nat × List Byte)) : List Byte :=
  l.foldl (fun k x => xorBytes k x.2) (List.replicate 32 0)

/-- A share delivered: with the last of them the key is loaded twice. -/
def State.takeShare (s : State) (p : Nat) (d : Delivery) : State :=
  let x := s.part p
  let shares := x.shares ++ [(d.owner, d.key)]
  let all := match x.charter with
    | some c => (List.range c.owners.length).all (fun i =>
        !((c.owners[i]?).elim false (·.share)) || shares.any (fun k => k.1 == i))
    | none => false
  if all = false then s.setPart p { x with shares := shares }
  else if 8190 < (s.sec.keys.filter (fun k => k.2.live)).length ∨ 1022 < s.cacheUsed then (s.partRefuse p 0xB445).2
  else
    let k := xorShares shares
    let a := s.fillSlot p 0 k false
    let b := a.2.fillSlot p 1 k false
    b.2.setPart p { b.2.part p with shares := shares, ckptKeys := some (a.1.2.1, b.1.2.1) }

/-- A delivery that passed its checks. -/
def State.takeDelivery (s : State) (p : Nat) (d : Delivery) : State :=
  let s := if d.kind = 1 then s.takeShare p d
    else if s.keyRoom ≠ 0 then (s.partRefuse p 0xB445).2
    else
      let a := s.fillSlot p 1 d.key false
      let x := a.2.part p
      let n := (x.dataKeys.filter (fun k => k.1 == d.owner)).length
      a.2.setPart p { x with dataKeys := x.dataKeys ++ [(d.owner, n, a.1.2.1)] }
  s.setReg (kKeysDelivered p) (s.delivered p)

/-- VENDOR_DEFINED_REQUEST (R341): a delivery inside an open session. -/
def execVendorDefinedRequest (p : Fin 8) (msg : List Byte) (s : State) : Host.Outcome State Fault Refusal :=
  if s.sec.sessions.isEmpty then .next s
  else
    let d := deliveryOf msg
    let r := s.deliveryCheck p.val d
    .next (if r ≠ 0 then (s.partRefuse p.val r).2 else s.takeDelivery p.val d)

/-! ### Requests for teardown (R331, R344, R345) -/

/-- The write of TEARDOWN or FORCE_OFF. A requester that has staged EXPECT_GEN under the build lock is held to
that value, and an accepted request gives the lock back (log entry 24). -/
def tearOp (r : Requester) (p : Nat) (forced : Bool) (v : Nat) (s : State) : Reason × State :=
  if v ≠ 1 then (0, s)
  else
    let g := 0x3010 + p
    let held := s.holdsLock r g
    let expect := if held then s.stagedReg (kExpectGen p) else s.reg (kExpectGen p)
    let c := firstOf [(expect != (s.part p).gen, 0xB241), (!mayStop (s.part p).state, 0xB240)]
    if c ≠ 0 then s.partRefuse p c
    else
      let s := if held then s.releaseLock g else s
      (0, if forced then s.teardown p true 0xB245 else s.stopPart p)

/-- An owner's own request: its entry has STOP. -/
def State.ownerStop (s : State) (i p : Nat) : State :=
  let may := match (s.part p).charter with
    | some c => (c.owners[i]?).elim false (·.stop)
    | none => false
  if mayStop (s.part p).state = false then (s.partRefuse p 0xB240).2
  else if may = false then (s.partRefuse p 0xB340).2
  else s.stopPart p

/-- TEARDOWN (R344). -/
def execTeardown (by_ : StopBy) (p : Fin 8) (s : State) : Host.Outcome State Fault Refusal :=
  match by_ with
  | .dict r => .next (s.writeU8 r (0x3010 + p.val) 0x09 false (tearOp r p.val false 1))
  | .owner i => .next (if s.sec.sessions.isEmpty then s else s.ownerStop i.val p.val)

/-- FORCE_OFF (R345). -/
def execForceOff (r : Requester) (p : Fin 8) (s : State) : Host.Outcome State Fault Refusal :=
  .next (s.writeU8 r (0x3010 + p.val) 0x0A false (tearOp r p.val true 1))

/-! ### The views (R347) -/

/-- The rank of a state that a copy shows; a value that is no state ranks above all. -/
def shownRank (st : Nat) : Nat := if st ≤ 6 then stateRank st else 9

/-- The copies of a partition that differ from its record are resolved by the one of highest rank. -/
def State.resolveViews (s : State) (p : Nat) (seen : List MirrorSeen) : State :=
  let x := s.part p
  let bad := seen.filter (fun m => m.part.val == p && (m.state.toNat != x.state || m.gen.toNat != x.gen))
  match bad with
  | [] => s
  | f :: rest =>
    let st := rest.foldl (fun a m => if shownRank a < shownRank m.state.toNat then m.state.toNat else a) f.state.toNat
    let s := bad.foldl (fun s _ => (s.bumpReg kMirrorDisagreements 1).event 0x0B020045 0 p) s
    let t := if shownRank st ≤ stateRank x.state then s
      else if st = stHeld ∧ x.state = stRunning then s.faultPart p 0xB246
      else if mayStop x.state then s.teardown p true 0xB245
      else s
    if (t.part p).gen = x.gen then t.riseGen p else t

/-- MIRROR_CHECK (R347): `seen` tells what the copies hold; those it does not name agree. Of one copy named
twice the first counts. -/
def execMirrorCheck (t : Nat) (seen : List MirrorSeen) (s : State) : Host.Outcome State Fault Refusal :=
  let s := s.tick t
  let once := seen.foldl (fun (l : List MirrorSeen) m =>
    if l.any (fun x => x.part == m.part && x.host == m.host) then l else l ++ [m]) []
  .next (parts8.foldl (fun s p => s.resolveViews p once) s)

end Sys2Proof.Machine
end

