-- ==== Sys2Proof/Machine/Dictionary.lean ====
section
/-! DEFINITION. Accesses to any entry of the object dictionary (R407 to R421, R437): what a write does at
each entry, what a read returns, locks and their leases, the expert unlock, and the event log's window. -/

namespace Sys2Proof.Machine

/-! ### Locks and the expert unlock -/

/-- The write of LOCK_RELEASE of sequence lock `i` (R418, R437): what was staged under the lock goes with it,
and what its group had begun (R330, R420, log entry 26). -/
def lockReleaseOp (r : Requester) (i v : Nat) (s : State) : Reason × State :=
  let g := sequenceGroup i
  if s.holdsLock r g = false then (0xC201, s)
  else if v ≠ 1 then (0, s)
  else
    let s := s.releaseLock g
    if i < 8 then (0, if (s.part i).state = stBuilding then s.setPartState i stFree else s)
    else if i < 16 then
      (0, (s.sec.keys.filter (fun k => k.2.provisional && k.2.owner == i - 8)).foldl (fun t k => t.destroySlot k.1) s)
    else (0, s.endStaging)

/-- LOCK_RELEASE (R418). -/
def execLockRelease (r : Requester) (index : BitVec 16) (s : State) : Host.Outcome State Fault Refusal :=
  .next (s.writeU8 r index.toNat 0x04 false (lockReleaseOp r (index.toNat - 0x1030) 1))

/-- LOCK_LEASE_EXPIRY (R419): the lease of a group's lock has run out. -/
def execLockLeaseExpiry (index : BitVec 16) (t : Nat) (s : State) : Host.Outcome State Fault Refusal :=
  let s := s.tick t
  .next (s.breakLocks (fun l => l.group == index.toNat && decide (l.leaseEnd ≤ s.now)))

/-- The write of EXPERT_UNLOCK (R411): the limit is the one in force now (R434). -/
def expertOp (r : Requester) (v : Nat) (s : State) : Reason × State :=
  if v = 0x45585054 then
    (0, { s with expert := tabSet s.expert (reqCode r) (s.now, s.reg kToExpertS * nsPerS) }.event 0x0C000007 0 (reqCode r))
  else if v = 0 then (0, { s with expert := tabErase s.expert (reqCode r) })
  else (0xC003, s)

/-- EXPERT_UNLOCK (R411). -/
def execExpertUnlock (r : Requester) (v : BitVec 32) (s : State) : Host.Outcome State Fault Refusal :=
  .next (s.write r 0x1F10 0x01 4 false (expertOp r v.toNat)).2

/-- EXPERT_LAPSE (R411): the unlock of a requester lapses when its time has passed. -/
def execExpertLapse (r : Requester) (t : Nat) (s : State) : Host.Outcome State Fault Refusal :=
  let s := s.tick t
  .next (if s.expertHeld r then s else { s with expert := tabErase s.expert (reqCode r) })

/-! ### The event log (R432, R433) -/

/-- The records held, in the flash or in the RAM ring. -/
def State.logRecord (s : State) (seq : Nat) : Option EventRec :=
  match s.mgmt.ring.find? (fun e => e.seq == seq) with
  | some e => some e
  | none => s.mgmt.flashLog.find? (fun e => e.seq == seq)

/-- SEQ of the oldest record held; 0 while none is. -/
def State.oldestSeq (s : State) : Nat :=
  match s.mgmt.flashLog.head?, s.mgmt.ring.head? with
  | some a, some b => min a.seq b.seq
  | some a, none => a.seq
  | none, some b => b.seq
  | none, none => 0

/-- A record as LOG_RECORD gives it (R432). -/
def EventRec.word (e : EventRec) : Nat :=
  e.time % 2 ^ 64 + e.code * 2 ^ 64 + (e.seq % 2 ^ 32) * 2 ^ 96 + (e.reason % 2 ^ 16) * 2 ^ 128 +
    (e.suppressed % 2 ^ 16) * 2 ^ 144 + (e.params % 2 ^ 96) * 2 ^ 160

/-- The write of LOG_READ_SEQ (R433). -/
def logReadOp (v : Nat) (s : State) : Reason × State :=
  if (s.mgmt.flashLog.isEmpty ∧ s.mgmt.ring.isEmpty) ∨ v < s.oldestSeq ∨ s.reg kLogNewestSeq < v then (0xC003, s)
  else (0, s.setReg kLogReadSeq v)

/-- LOG_READ_SEQ (R433). -/
def execLogReadSeq (r : Requester) (v : BitVec 32) (s : State) : Host.Outcome State Fault Refusal :=
  .next (s.write r 0xA001 0x03 4 false (logReadOp v.toNat)).2

/-! ### Writes (R414 to R416) -/

/-- A value of a declared range (R416). -/
def rangeWrite (index sub v lo hi : Nat) (s : State) : Reason × State :=
  if v < lo ∨ hi < v then (0xC003, s) else (0, s.setReg (dkey index sub) v)

/-- An enable: 1 is its commit, 0 stands without effect. -/
def enableWrite (index sub v : Nat) (op : State → Reason × State) (s : State) : Reason × State :=
  if v = 1 then op s else rangeWrite index sub v 0 1 s

/-- The declared ranges of the entries that are neither staged nor acted upon (R416). -/
def plainRange (index sub : Nat) : Nat × Nat :=
  if index = 0x1017 then (50, 1000)
  else if index = 0x1060 then (0, 1)
  else if index = 0x1070 then
    (match sub with
      | 2 => (100, 100000)
      | 4 => (100, 10000)
      | 5 => (200, 5000)
      | _ => (10, 3600))
  else if index = 0x2001 then (1000, 10000)
  else if index = 0x2020 then (if sub = 3 then (400, 1600) else (25, 75))
  else if index = 0x3001 then (10, 86400)
  else if index = 0x6801 then (1, 64)
  else if index = 0x7001 then (if sub = 3 then (10, 10000) else (0, 640))
  else if index = 0x9803 then (0, 4095)
  else if index = 0xA001 then (0, 5)
  else if index = 0xA801 then (60, 604800)
  else (0, 2 ^ 32 - 1)

/-- What a write does at an entry of the module, management and memory blocks. -/
def lowOp (r : Requester) (index sub v : Nat) (data : List Byte) (w : Around) : State → Reason × State :=
  if 0x1030 ≤ index ∧ index ≤ 0x1040 then lockReleaseOp r (index - 0x1030) v
  else if index = 0x1060 ∧ sub = 2 then funcEnableOp v
  else if index = 0x1F10 then expertOp r v
  else if index = 0x1F20 then spdmOp data
  else if index = 0x2001 ∧ sub = 1 then fun s => (0, (s.setReg kBeaconRoot v).rootSet)
  else if inSet 0x2010 index then
    (match v with
      | 0 => gustOffOp (index % 16)
      | 1 => gustOnOp (index % 16)
      | _ => fun s => s.gustRefuse (index % 16) 0x1001)
  else if index = 0x2020 ∧ sub = 7 then doldrumsOp v
  else if index = 0x2020 ∧ sub = 8 then fun s => (0, if v = 1 then s.wake w.boot else s)
  else if index = 0x2020 ∧ sub = 9 then moduleResetOp w.boot v
  else if inSet 0x2040 index then
    fun s => if v % 25 = 0 then rangeWrite index sub v 750 1500 s else (0xC003, s)
  else if inSet 0x3010 index then
    (match sub with
      | 0x06 => fun s => enableWrite index sub v (buildOp (index % 16) (s.holdsLock r index) 1) s
      | 0x09 => tearOp r (index % 16) false v
      | _ => tearOp r (index % 16) true v)
  else if index = 0x4802 then samplerEnableOp v
  else if inSet 0x5010 index then shareOp (index % 16) v
  else if index = 0x5801 then mapOutOp false v
  else if index = 0x6001 then mapOutOp true v
  else if index = 0x6801 ∧ sub = 6 then compatOp v
  else if 0x6810 ≤ index ∧ index < 0x6850 then rangeOp (index - 0x6810) v
  else if inSet 0x6860 index then compatKeyOp (index % 16) sub v
  else rangeWrite index sub v (plainRange index sub).1 (plainRange index sub).2

/-- What a write does at an entry of the other blocks. -/
def highOp (index sub v : Nat) (data : List Byte) (w : Around) : State → Reason × State :=
  let p := index % 16
  if index = 0x7001 ∧ sub = 1 then moduleIdOp v
  else if 0x7010 ≤ index ∧ index < 0x7020 then
    (match v with
      | 0 => portOffOp p
      | 1 => portOnOp p w.prsntHigh
      | _ => fun s => (0xC003, s))
  else if inSet 0x7020 index then enableWrite index sub v (fwdOp p v)
  else if inSet 0x7810 index then enableWrite index sub v (updOp p)
  else if inSet 0x8010 index then
    (match sub with
      | 0x0A => enableWrite index sub v (ckptOp p)
      | 0x0B => ckptNowOp p v
      | _ => ckptLoadOp p v)
  else if index = 0x9001 then enableWrite index sub v (lcOp 1)
  else if 0x9010 ≤ index ∧ index < 0x9019 then recoveryBumpOp p v
  else if inSet 0x9020 index then
    (if sub = 1 then keyCmdOp p v else enableWrite index sub v (keyEnableOp p))
  else if index = 0x9801 then
    (match sub with
      | 0x04 => enableWrite index sub v fwStageOp
      | 0x06 => fwChunkOp data
      | 0x07 => fwCommitOp v
      | _ => fun s => (0, s.setReg kFwChunkOffset v))
  else if index = 0x9802 then (if sub = 2 then fwActivateOp v else fwConfirmOp v)
  else if index = 0xA001 ∧ sub = 3 then logReadOp v
  else if index = 0xA801 ∧ sub = 4 then enableWrite index sub v (testOp 1)
  else rangeWrite index sub v (plainRange index sub).1 (plainRange index sub).2

/-- Whether a write commits a group (R414): FW_STAGE_ENABLE opens a session, which FW_STAGE_COMMIT commits
(R471). -/
def commitsGroup (index sub v : Nat) : Bool :=
  v == 1 && (match lockGroup index sub with
    | none => false
    | some g => if g = 0x9801 then sub == 7 else sub == enableSub g)

/-- A write to any entry, with its reason. -/
def State.access (s : State) (r : Requester) (index sub : Nat) (data : List Byte) (w : Around) : Reason × State :=
  let v := ofLe data
  s.write r index sub data.length (commitsGroup index sub v)
    (if stagedSub index sub then stageWrite index sub v
      else if index < 0x7000 then lowOp r index sub v data w else highOp index sub v data w)

/-- DICT_WRITE (R414 to R416). -/
def execDictWrite (r : Requester) (index : BitVec 16) (sub : BitVec 8) (data : List Byte) (w : Around)
    (s : State) : Host.Outcome State Fault Refusal :=
  .next (s.access r index.toNat sub.toNat data w).2

/-! ### Reads (R410, R415, R421) -/

/-- Milliseconds left of a lease, rounded up (R437). -/
def leaseLeft (now leaseEnd : Nat) : Nat := min 0xFFFF (ceilDiv (leaseEnd - now) 1000000)

/-- Entries of a sequence lock (R437). -/
def State.lockView (s : State) (i sub : Nat) : Option Nat :=
  let l := s.locks.find? (fun x => x.group == sequenceGroup i)
  match sub with
  | 1 => some (l.elim 0 (·.owner))
  | 2 => some (l.elim 0 (fun x => leaseLeft s.now x.leaseEnd))
  | 3 => some (l.elim 0 (·.epoch))
  | _ => none

/-- Groups in lull (R445). -/
def State.lullMap (s : State) : Nat :=
  ofBits ((List.range 32).filter (fun g => match s.holderOf Part.cgMap g with
    | none => false
    | some p => [stConfigured, stLocked, stHeld].contains (s.part p).state || (s.grid p).paused))

/-- Entries whose value follows from the rest of the state. -/
def State.liveView (s : State) (r : Requester) (index sub : Nat) : Option Nat :=
  if 0x1030 ≤ index ∧ index ≤ 0x1040 then s.lockView (index - 0x1030) sub
  else
    let k := dkey index sub
    if k = kCapability then some s.capability
    else if k = kExpertHeld then some (b2n (s.expertHeld r))
    else if k = kCgLull then some s.lullMap
    else if k = kStreamsLive then some s.objs.streams.length
    else if k = kGroupsLive then some s.objs.groups.length
    else if k = kNearUsableBytes then some ((List.range 16).map s.populatedBytes).sum
    else if k = kFarUsableBytes then some ((List.range 16).map (fun u => s.populatedBytes (16 + u))).sum
    else if k = kRangesFree then some ((List.range 64).filter (fun e => s.reg (kOwner e) == 0xFF)).length
    else if k = kXlateFree then some s.xlateFree
    else if k = kKeySlotsLive then some (s.sec.keys.filter (fun e => e.2.live)).length
    else if k = kCacheSlotsFree then some (1024 - s.cacheUsed)
    else if k = kSlotImages then some s.slotImages
    else if k = kSectorErases then some (tabGet s.fw.erases (s.reg kSectorSel) 0)
    else if k = kSectorState then some (s.sectorState (s.reg kSectorSel))
    else if k = kLogOldestSeq then some s.oldestSeq
    else if k = kLogRecord then some ((s.logRecord (s.reg kLogReadSeq)).elim 0 (·.word))
    else none

/-- The value that a read returns. -/
def State.readValue (s : State) (r : Requester) (index sub : Nat) : Nat :=
  if sub = 0 ∧ singleEntry index = false then highestSub index
  else if bit (s.reg kReadyMap) (subsystemOf index) = false ∧ s.power.mode ≠ .doldrums then keyReset (dkey index sub)
  else (s.liveView r index sub).getD (s.reg (dkey index sub))

/-- What a read that is served does: an RC entry clears (R410), and bit 7 of ERROR_REGISTER with
EMCY_DROPPED (R429). -/
def State.readEffect (s : State) (index sub : Nat) (row : DRow) : State :=
  if row.acc = .rc ∧ (bit (s.reg kReadyMap) (subsystemOf index) ∨ s.power.mode = .doldrums) then
    let s := s.setReg (dkey index sub) 0
    if dkey index sub = kEmcyDropped then s.setRegBit kErrorRegister 7 false else s
  else s

/-- A read of any entry: its reason and, when it is served, its bytes. The owner's reads refresh the lease
(R418). -/
def State.readEntry (s : State) (r : Requester) (index sub : Nat) : (Reason × List Byte) × State :=
  if s.reaches r = false then ((0xC202, []), s)
  else
    let s := (s.noteFrame r).touchExpert r
    let c := s.accessCheck r index sub none
    if c ≠ 0 then ((c, []), s.keepReason r index c)
    else
      match entryRow index sub with
      | none => ((0xC002, []), s)
      | some row =>
        let out := leBytes row.bytes (s.readValue r index sub)
        let s := s.readEffect index sub row
        let s := match lockGroup index sub with
          | some g => if s.holdsLock r g then s.takeLock r g else s
          | none => s
        ((0, out), s)

end Sys2Proof.Machine
end

