-- ==== Sys2Proof/Machine/HostIf.lean ====
section
/-! DEFINITION. Queues, doorbells and commands (R388 to R396, R403): how a command's entry is reached,
what it waits for, which states allow it, and what each command does. -/

namespace Sys2Proof.Machine

/-! ### Refused accesses (R382) -/

/-- A refused register access of the function with view `i` (8 for the PF): it is logged. -/
def State.logAccess (s : State) (i off : Nat) (r : Reason) : State :=
  let v := s.view i
  ((s.setView i { v with err := true, reason := r, offset := off }).bumpReg kAccessLogCount 1).event 0x0A020001 r off

/-! ### Doorbells (R389, R390) -/

/-- A write of a doorbell, decided by the cases of R389. The entries of a shard queue are consumed at
once. -/
def State.doorbell (s : State) (p q v : Nat) : State :=
  let tail := fld v 0 16
  if fld v 16 16 ≠ s.epochOf p then (s.setReg kHostRefusal 0xB205).staleEpoch p
  else
    match s.queueAt p q with
    | none => (s.setReg kHostRefusal 0xA205).logAccess p (0x10000 + 4 * q) 0xA205
    | some x =>
      let n := (tail + 65536 - x.head) % 65536
      if x.dying ∨ x.error then (s.setReg kHostRefusal 0xA205).logAccess p (0x10000 + 4 * q) 0xA205
      else if 2 ^ x.sizeLog2 ≤ n then (s.setReg kHostRefusal 0xA004).queueError x.handle 0xA004
      else if x.shard then (s.setQueue { x with tail := tail, head := tail }).signal x.fence n
      else s.setQueue { x with tail := tail }

/-- DOORBELL (R389): the VF exists while its partition is not FREE (R380). -/
def execDoorbell (p : Fin 8) (q : Fin 64) (v : BitVec 32) (s : State) : Host.Outcome State Fault Refusal :=
  .next (if (s.part p.val).state = stFree then s else s.doorbell p.val q.val v.toNat)

/-! ### What a command does (R393 to R396) -/

/-- What a command answers at once: its result, that its result comes later, or that it cannot begin before
its channel is free. -/
inductive CmdOut where
  | done (r : Reason) (h : Handle)
  | later
  | wait
  deriving DecidableEq, Repr

/-- A handle that a command names and that must be live and not destroy pending (R387, R394). -/
def State.liveHandle (s : State) (t p : Nat) (h : Handle) : Reason :=
  let c := s.checkHandle 0xA t p h
  let dying := s.objs.fences.any (fun x => x.handle == h && x.dying) || s.objs.memobjs.any (fun x => x.handle == h && x.dying) ||
    s.objs.contexts.any (fun x => x.handle == h && x.dying) || s.objs.channels.any (fun x => x.handle == h && x.dying)
  if c ≠ 0 then c else if dying then 0xA201 else 0

/-- A fence that a device is to signal. -/
def State.deviceHandle (s : State) (p : Nat) (h : Handle) : Reason :=
  let c := s.liveHandle 4 p h
  if c ≠ 0 then c else s.deviceFence h

/-- SIGNAL (R396): VALUE becomes the larger of the two, unless ERR is set (R20). -/
def State.hostSignal (s : State) (p : Nat) (h : Handle) (v : Nat) : Reason × State :=
  let c := s.liveHandle 4 p h
  match s.fence? h with
  | none => (if c = 0 then 0xA2F0 else c, s)
  | some f =>
    if c ≠ 0 then (c, s)
    else if f.hostSignal = false then (0xA303, s)
    else if f.err then (0, s)
    else (0, fenceValueIrq s { f with value := max f.value v })

/-- SET_JOB_FENCE (R403): the old fence keeps its error. -/
def State.moveJobFence (s : State) (p : Nat) (ctx h : Handle) : Reason × State :=
  let c := firstOf [(s.liveHandle 1 p ctx != 0, s.liveHandle 1 p ctx), (s.deviceHandle p h != 0, s.deviceHandle p h)]
  if c ≠ 0 then (c, s)
  else
    (0, { s with objs := { s.objs with contexts := s.objs.contexts.map (fun (x : Ctx) =>
        if x.handle = ctx then { x with jobFence := h } else x) } }.sweep)

/-- A channel that is live and free of copies. -/
def State.channel? (s : State) (h : Handle) : Option Channel := s.objs.channels.find? (fun c => c.handle == h)

def State.setChannel (s : State) (c : Channel) : State :=
  { s with objs := { s.objs with channels := s.objs.channels.map (fun (x : Channel) => if x.handle = c.handle then c else x) } }

/-- 64 bytes of a copy: from this module they move at once; from another a request, with the queue's fence, asks for the
lines that hold them (R245). -/
def State.copyLine (s : State) (p : Nat) (ch : Handle) (src dst : Nat) : State :=
  match s.translate p src with
  | .there m a =>
    let units := if a % 64 = 0 then 1 else 2
    let r := s.request p 1 units (m * 2 ^ 50 + a / 64 * 64) 1 0 (s.copyFence ch) 0 [] (.bytes ch dst (a % 64) 64)
    if r.1 then r.2 else r.2.copyReason ch 0x7304
  | _ =>
    let r := s.readBytesVa p 10 src 64 1 0
    ((r.2.copyReason ch r.1.err).copyPut p ch dst r.1.data r.1.poison).closeRanges

/-- A channel runs one copy at a time (R386). -/
def State.channelBusy (s : State) (h : Handle) : Bool :=
  match s.channel? h with
  | none => false
  | some c => c.busy.isSome

/-- A copy begins on a channel: the channel is busy with a command of a queue until its copy ends. -/
def State.startCopy (s : State) (ch q : Handle) (c : Instr) : State :=
  match s.channel? ch with
  | none => s
  | some x => s.setChannel { x with busy := some (q, c), reason := 0 }

/-- COPY (R386, R393): its bytes move, and its result follows when the channel has ended (log entry 25). -/
def State.copyCmd (s : State) (p : Nat) (q : Handle) (c : Instr) (x : Nat) : CmdOut × State :=
  let n := fld x 128 64
  let ch := fld x 192 32
  let h := s.liveHandle 6 p ch
  if h ≠ 0 then (.done h 0, s)
  else if n % 64 ≠ 0 then (.done 0xA002 0, s)
  else if s.channelBusy ch then (.wait, s)
  else
    let s := s.startCopy ch q c
    (.later, (List.range (n / 64)).foldl (fun s i =>
      s.copyLine p ch (fld x 0 64 + 64 * i) (fld x 64 64 + 64 * i)) s)

/-- The checks of SUBMIT_JOB (R394, R403), in the order of the table; the image's own follow once it can be
read. -/
def State.submitCheck (s : State) (p x : Nat) (b : JobImage) : Reason :=
  let n := fld x 96 32
  let img := padTo n 0 b.bytes
  let h := ofLe (img.take 64)
  let ctx := s.liveHandle 1 p (fld x 0 32)
  let fence := s.deviceHandle p (fld x 160 32)
  let ch := s.liveHandle 6 p (fld x 192 32)
  let st := (s.part p).state
  let c := firstOf [
    (ctx != 0, ctx), (fence != 0, fence), (ch != 0, ch), (decide (n < 64), 0xA002),
    (fld x 128 32 != s.reg kCapGen, 0xA101),
    (st != stLocked && st != stRunning, 0xA202),
    ((s.part p).charter.isNone, 0xA207),
    (s.objs.contexts.any (fun y => hPart y.handle == p && y.submitted), 0xA403)]
  if c ≠ 0 then c
  else
    match s.translate p (fld x 32 64) with
    | .here _ =>
      firstOf [
        (fld h 0 32 != 1 || fld h 128 64 != n - 64 || !s.nearSpan p (fld h 64 64) (n - 64), 0xA002),
        (fld h 32 32 != s.jobIdOf p, 0xA106),
        (match (s.part p).charter with
          | some k => sha384 img != k.jobDigest
          | none => true, 0xB141)]
    | _ => 0xA003

/-- SUBMIT_JOB (R403): the accepted image is copied over the channel. -/
def State.submitCmd (s : State) (p : Nat) (q : Handle) (c : Instr) (x : Nat) (b : JobImage) : CmdOut × State :=
  let r := s.submitCheck p x b
  if r ≠ 0 then (.done r 0, s)
  else if s.channelBusy (fld x 192 32) then (.wait, s)
  else
    let n := fld x 96 32
    let img := padTo n 0 b.bytes
    let ch := fld x 192 32
    let s := s.startCopy ch q c
    let w := s.writeBytesVa p 10 (fld (ofLe (img.take 64)) 64 64) 1 0 (img.drop 64) false
    (.later, w.2.copyReason ch w.1)

/-! ### Which states allow a command (R395) -/

/-- A target in this module's host window. -/
def State.hostTarget (s : State) (t : Nat) : Bool := t / 2 ^ 50 == s.reg kModuleId && decide (hostBase ≤ t % 2 ^ 50)

/-- The pages of a memory object from `lo` on, `n` of them, lie in the host window where they are mapped. -/
def State.hostPages (s : State) (h : Handle) (lo n : Nat) : Bool :=
  match s.memobj? h with
  | none => true
  | some m => m.pages.all (fun e => decide (e.1 < lo) || decide (lo + n ≤ e.1) || s.hostTarget e.2)

/-- Whether the driver may issue a command of an opcode now. -/
def State.driverMay (s : State) (p op t x : Nat) : Bool :=
  let st := (s.part p).state
  let hostType := fun (t : Nat) => t == 1 || t == 2 || t == 3 || t == 4
  if st = stConfigured then op != 6
  else if lockedState st = false then false
  else
    match op with
    | 1 => hostType t
    | 2 => hostType (hType (fld x 0 32)) && (hType (fld x 0 32) != 3 || s.hostPages (fld x 0 32) 0 (2 ^ 32))
    | 3 => s.hostTarget (fld x 64 64)
    | 4 => s.hostPages (fld x 0 32) (fld x 32 32) (fld x 64 32)
    | 5 => true
    | 6 => true
    | 8 => true
    | _ => false

/-! ### Reaching a command -/

/-- The OPCODE that a command's row stands for, and whose function it acts for. -/
def opcodeOf : Instr → Nat
  | .createObj _ _ _ _ => 1
  | .destroyObj _ _ _ _ => 2
  | .mapPages _ _ _ _ => 3
  | .unmapPages _ _ _ _ => 4
  | .signalFence _ _ _ _ => 5
  | .submitJob _ _ _ _ _ => 6
  | .copyBytes _ _ _ _ => 7
  | .setJobFence _ _ _ _ => 8
  | _ => 0

/-- What a command does once it runs, for a context (0 for the job services) and a queue. -/
def State.runBody (s : State) (p ctx : Nat) (q : Handle) (c : Instr) : CmdOut × State :=
  let e := entryBits c
  let x := params e
  match c with
  | .createObj _ _ _ _ =>
    let m := s.create p ctx (fld e 8 4) x
    (.done m.1.1 m.1.2, m.2)
  | .destroyObj _ _ _ _ =>
    let r := s.destroy p ctx (fld x 0 32)
    (.done r.1 0, r.2)
  | .mapPages _ _ _ _ =>
    if s.reg (kGustEnable p) = 1 then (.later, { s with objs := { s.objs with deferred := s.objs.deferred ++ [c] } })
    else
      let r := s.mapOp p false (fld x 0 32) (fld x 32 32) (fld x 64 64) (fld x 128 32)
      (.done r.1 0, r.2)
  | .unmapPages _ _ _ _ =>
    if s.reg (kGustEnable p) = 1 then (.later, { s with objs := { s.objs with deferred := s.objs.deferred ++ [c] } })
    else
      let r := s.mapOp p true (fld x 0 32) (fld x 32 32) 0 (fld x 64 32)
      (.done r.1 0, r.2)
  | .signalFence _ _ _ _ =>
    let r := s.hostSignal p (fld x 0 32) (fld x 64 64)
    (.done r.1 0, r.2)
  | .submitJob _ _ _ _ b => s.submitCmd p q c x b
  | .copyBytes _ _ _ _ => s.copyCmd p q c x
  | .setJobFence _ _ _ _ =>
    let r := s.moveJobFence p (fld x 0 32) (fld x 32 32)
    (.done r.1 0, r.2)
  | _ => (.later, s)

/-- The checks before a command's own: EXPECT_GEN for the driver (R331), a reserved OPCODE (R393), and the
state (R395). -/
def State.cmdCheck (s : State) (i : Issuer) (p : Nat) (c : Instr) : Reason :=
  let e := entryBits c
  let op := fld e 0 8
  firstOf [
    (i == .driver && fld e 32 32 != (s.part p).gen, 0xB241),
    (op == 0 || decide (8 < op), 0xA001),
    (i == .driver && !s.driverMay p (opcodeOf c) (fld e 8 4) (params e), 0xA202)]

/-- A command runs: refused, done, or done later. -/
def State.runCmd (s : State) (i : Issuer) (p q : Nat) (ctx : Nat) (qh : Handle) (c : Instr) : State :=
  let r := s.cmdCheck i p c
  if r ≠ 0 then s.finishCmd i p q r 0
  else
    match s.runBody p ctx qh c with
    | (.done r h, t) => t.finishCmd i p q r h
    | (.later, t) => t
    | (.wait, t) =>
      match i, t.queueAt p q with
      | .driver, some x => t.setQueue { x with waiting := some c }
      | _, _ => t

/-- How the WAIT of an entry stands (R18, R391, R392). -/
inductive WaitState where
  | go
  | pending
  | error
  | refused (r : Reason)
  deriving DecidableEq, Repr

def State.waitState (s : State) (p e : Nat) : WaitState :=
  if bit e 12 = false then .go
  else
    let c := s.checkHandle 0xA 4 p (waitFence e)
    match s.fence? (waitFence e) with
    | none => .refused (if c = 0 then 0xA2F0 else c)
    | some f =>
      if c ≠ 0 then .refused c
      else if fld e 128 64 ≤ f.value then .go
      else if f.err then .error
      else if f.dying then .refused 0xA201
      else .pending

/-- A command of a queue has been started and not ended: it waits for a boundary or for its channel. -/
def State.queueBusy (s : State) (x : Queue) : Bool :=
  s.objs.deferred.any (fun c => match c with
    | .mapPages i p q _ => i == .driver && p.val == hPart x.handle && q.val == hIndex x.handle
    | .unmapPages i p q _ => i == .driver && p.val == hPart x.handle && q.val == hIndex x.handle
    | _ => false) ||
  s.objs.channels.any (fun c => match c.busy with
    | some b => b.1 == x.handle
    | none => false)

/-- The entry at HEAD of a queue is taken up. -/
def State.takeEntry (s : State) (p q : Nat) (x : Queue) (c : Instr) : State :=
  match s.waitState p (entryBits c) with
  | .refused r => (s.setQueue { x with waiting := none }).finishCmd .driver p q r 0
  | .error => s.queueError x.handle 0xA204
  | .pending => s.setQueue { x with waiting := some c }
  | .go => (s.setQueue { x with waiting := none }).runCmd .driver p q x.creator x.handle c

/-- A command arrives: from the driver as the entry at HEAD of a live command queue that has entries, in any
state but TEARDOWN; from the job services directly, once its WAIT is met. -/
def State.command (s : State) (i : Issuer) (p q : Nat) (c : Instr) : State :=
  let down := (s.part p).state == stTeardown
  match i with
  | .jobServices =>
    if down then s.setReg kHostRefusal 0xA202
    else
      match s.waitState p (entryBits c) with
      | .refused r => s.setReg kHostRefusal r
      | .error => s.setReg kHostRefusal 0xA204
      | .pending => s
      | .go => s.runCmd .jobServices p q 0 0 c
  | .driver =>
    match s.queueAt p q with
    | none => s
    | some x =>
      if down ∨ x.dying ∨ x.error ∨ x.shard ∨ x.head = x.tail ∨ x.waiting.isSome ∨ s.queueBusy x then s
      else if (s.entryAt p x).isNone then s.queueError x.handle 0xA003
      else s.takeEntry p q x c

/-- CREATE (R393). -/
def execCreateObj (i : Issuer) (p : Fin 8) (q : Fin 64) (e : BitVec 896) (s : State) : Host.Outcome State Fault Refusal :=
  .next (s.command i p.val q.val (.createObj i p q e))

/-- DESTROY (R387). -/
def execDestroyObj (i : Issuer) (p : Fin 8) (q : Fin 64) (e : BitVec 896) (s : State) : Host.Outcome State Fault Refusal :=
  .next (s.command i p.val q.val (.destroyObj i p q e))

/-- MAP (R398, R399). -/
def execMapPages (i : Issuer) (p : Fin 8) (q : Fin 64) (e : BitVec 896) (s : State) : Host.Outcome State Fault Refusal :=
  .next (s.command i p.val q.val (.mapPages i p q e))

/-- UNMAP (R398, R399). -/
def execUnmapPages (i : Issuer) (p : Fin 8) (q : Fin 64) (e : BitVec 896) (s : State) : Host.Outcome State Fault Refusal :=
  .next (s.command i p.val q.val (.unmapPages i p q e))

/-- SIGNAL (R396). -/
def execSignalFence (i : Issuer) (p : Fin 8) (q : Fin 64) (e : BitVec 896) (s : State) : Host.Outcome State Fault Refusal :=
  .next (s.command i p.val q.val (.signalFence i p q e))

/-- SUBMIT_JOB (R403). -/
def execSubmitJob (i : Issuer) (p : Fin 8) (q : Fin 64) (e : BitVec 896) (b : JobImage) (s : State) :
    Host.Outcome State Fault Refusal :=
  .next (s.command i p.val q.val (.submitJob i p q e b))

/-- COPY (R393). -/
def execCopyBytes (i : Issuer) (p : Fin 8) (q : Fin 64) (e : BitVec 896) (s : State) : Host.Outcome State Fault Refusal :=
  .next (s.command i p.val q.val (.copyBytes i p q e))

/-- SET_JOB_FENCE (R403). -/
def execSetJobFence (i : Issuer) (p : Fin 8) (q : Fin 64) (e : BitVec 896) (s : State) : Host.Outcome State Fault Refusal :=
  .next (s.command i p.val q.val (.setJobFence i p q e))

/-- The command that a queue holds back is tried again. -/
def State.retryQueue (s : State) (p q : Nat) : State :=
  match s.queueAt p q with
  | none => s
  | some x =>
    match x.waiting with
    | none => s
    | some c => if (s.part p).state = stTeardown ∨ x.error then s else s.takeEntry p q x c

/-- WAIT_RELEASE (R391): the fence that a queue's entry waits for has been reached, or has an error. -/
def execWaitRelease (p : Fin 8) (q : Fin 64) (s : State) : Host.Outcome State Fault Refusal :=
  .next (s.retryQueue p.val q.val)

/-- HOST_DMA_TIMEOUT (R392): a host access of the queue's entry has passed its time. -/
def execHostDmaTimeout (p : Fin 8) (q : Fin 64) (s : State) : Host.Outcome State Fault Refusal :=
  match s.queueAt p.val q.val with
  | none => .next s
  | some x =>
    if x.error ∨ x.shard ∨ x.head = x.tail then .next s
    else .next (((s.queueError x.handle 0xA601).bumpEpoch p.val).event 0x0A020006 0xA601 p.val)

/-- VF_FLR (R404): the epoch bumps, and the VF's queues go to error; the job runs on. -/
def execVfFlr (p : Fin 8) (s : State) : Host.Outcome State Fault Refusal :=
  .next (if (s.part p.val).state = stFree then s else s.bumpEpoch p.val)

end Sys2Proof.Machine
end

