-- ==== Sys2Proof/Machine/Management.lean ====
section
/-! DEFINITION. The management controller's paths: the BAR2 mailbox (R422), the CAN FD bus with USDO, NMT,
heartbeats and EMCY (R424 to R429), the lull agreement (R430, R431), and the flash's event log (R432). -/

namespace Sys2Proof.Machine

/-! ### The mailbox (R422) -/

/-- The result of a mailbox access stands; a reset that the access made has emptied the mailbox. -/
def State.mailboxDone (s : State) (reason : Reason) : State :=
  if s.mbox.busy then { s with mbox := { s.mbox with reason := reason, busy := false, done := true } } else s

/-- The access that INDEX, SUB, WRITE and LEN name (R422, R375). -/
def State.mailboxRun (s : State) (w : Around) : State :=
  let m := s.mbox
  if m.epoch ≠ s.epochOf 8 then (s.staleEpoch 8).mailboxDone 0xB205
  else if m.write then
    let r := s.access .mailbox m.index m.sub (memRead 0 m.data 0 m.len) w
    r.2.mailboxDone r.1
  else
    let r := s.readEntry .mailbox m.index m.sub
    let s := r.2
    let s := if r.1.1 = 0 then
        { s with mbox := { s.mbox with data := memWrite 0 s.mbox.data 0 r.1.2, len := r.1.2.length } }
      else s
    s.mailboxDone r.1.1

/-- A write of the mailbox's first register: a GO starts the access, which ends within the command (log entry
27); one that meets a running access is not applied, and logged. -/
def State.mailboxGo (s : State) (v : Nat) (w : Around) : State :=
  if bit v 31 ∧ s.mbox.busy then s.logAccess 8 0 0xC204
  else
    let m := { s.mbox with index := fld v 0 16, sub := fld v 16 8, write := bit v 24 }
    if bit v 31 = false then { s with mbox := m }
    else { s with mbox := { m with busy := true, done := false } }.mailboxRun w

/-- The PF answers the host (R440, R485). -/
def State.pfLive (s : State) : Bool := s.power.mode == .running && !s.power.perst

/-- MAILBOX_GO (R422): a write with GO set. -/
def execMailboxGo (v : BitVec 32) (w : Around) (s : State) : Host.Outcome State Fault Refusal :=
  .next (if s.pfLive then s.mailboxGo (setBit v.toNat 31) w else s)

/-! ### USDO (R412, R425, R428) -/

/-- The abort code of a reason (R412). -/
def abortCode (r : Reason) : Nat :=
  match r with
  | 0xC001 => 0x06020000
  | 0xC002 => 0x06090011
  | 0xC004 => 0x06070010
  | 0xC301 => 0x06010002
  | 0xC302 => 0x06010001
  | 0xC303 => 0x06010000
  | 0xC202 => 0x08000022
  | 0xC203 => 0x08000022
  | 0xC201 => 0x08000020
  | _ =>
    match fld r 8 4 with
    | 0 => 0x06090030
    | 2 => 0x08000022
    | 3 => 0x06010000
    | 5 => 0x06010000
    | 6 => 0x05040000
    | _ => 0x08000000

/-- A USDO answer to a client: its node id, whether the access was served, and the value or the abort code
(log entry 28). -/
def State.usdoAnswer (s : State) (node : Nat) (r : Reason) (data : List Byte) : State :=
  if r = 0 then s.sendFrame 0x580 (leBytes 1 node ++ [0] ++ data)
  else s.sendFrame 0x580 (leBytes 1 node ++ [1] ++ leBytes 4 (abortCode r))

def State.setSessions (s : State) (t : Tab Session) : State := { s with mgmt := { s.mgmt with sessions := t } }

/-- A USDO request or segment (R425): a session holds what a segmented write has brought, and the value is
applied with its last segment. -/
def State.usdo (s : State) (node : Fin 128) (u : Usdo) (w : Around) : State :=
  let n := node.val
  match u with
  | .read i j =>
    let r := s.readEntry (.node node) i.toNat j.toNat
    (r.2.setSessions (tabErase r.2.mgmt.sessions n)).usdoAnswer n r.1.1 r.1.2
  | .write i j d =>
    let r := s.access (.node node) i.toNat j.toNat d w
    (r.2.setSessions (tabErase r.2.mgmt.sessions n)).usdoAnswer n r.1 []
  | .writeFirst i j d =>
    let s := s.noteFrame (.node node)
    (s.setSessions (tabSet s.mgmt.sessions n ⟨i.toNat, j.toNat, d, s.now, s.reg kToUsdoMs * 1000000⟩)).usdoAnswer n 0 []
  | .writeNext d last =>
    let s := s.noteFrame (.node node)
    match s.mgmt.sessions.find? (fun e => e.1 == n) with
    | none => s.sendFrame 0x580 (leBytes 1 n ++ [1] ++ leBytes 4 0x08000000)
    | some e =>
      if last then
        let r := (s.setSessions (tabErase s.mgmt.sessions n)).access (.node node) e.2.index e.2.sub (e.2.data ++ d) w
        r.2.usdoAnswer n r.1 []
      else
        (s.setSessions (tabSet s.mgmt.sessions n { e.2 with data := e.2.data ++ d, last := s.now })).usdoAnswer n 0 []

/-- USDO_REQUEST (R425). -/
def execUsdoRequest (node : Fin 128) (u : Usdo) (w : Around) (s : State) : Host.Outcome State Fault Refusal :=
  .next (if s.reaches (.node node) then s.usdo node u w else s)

/-- USDO_SEGMENT_TIMEOUT (R428): the session is aborted; nothing of it is applied. -/
def execUsdoSegmentTimeout (node : Fin 128) (t : Nat) (s : State) : Host.Outcome State Fault Refusal :=
  let s := s.tick t
  match s.mgmt.sessions.find? (fun e => e.1 == node.val) with
  | none => .next s
  | some e =>
    if s.now < e.2.last + e.2.limit then .next s
    else .next (((s.setSessions (tabErase s.mgmt.sessions node.val)).setReg (kLastReason node.val) 0xC602).usdoAnswer
      node.val 0xC602 [])

/-! ### NMT (R426) -/

/-- An NMT command that reaches the module: a frame on the bus. -/
def State.nmt (s : State) (f : State → State) : State := if s.onBus then f s.cancelLull else s

/-- NMT_START (R426). -/
def execNmtStart (s : State) : Host.Outcome State Fault Refusal := .next (s.nmt (fun s => s.setReg kNmtState 0x05))

/-- NMT_STOP (R426): USDO and EMCY cease. -/
def execNmtStop (s : State) : Host.Outcome State Fault Refusal := .next (s.nmt (fun s => s.setReg kNmtState 0x04))

/-- NMT_ENTER_PRE_OPERATIONAL (R426). -/
def execNmtEnterPreOperational (s : State) : Host.Outcome State Fault Refusal :=
  .next (s.nmt (fun s => s.setReg kNmtState 0x7F))

/-- Whether a lock is a CAN node's. -/
def canLock (l : Lock) : Bool := decide (l.owner < 128)

/-- A reset of the bus interface (R411, R419, R426): CAN nodes' locks break, every unlock lapses, sessions
end, the EMCY queue is emptied, and the boot-up message goes out. -/
def State.busReset (s : State) : State :=
  let s := { s.breakLocks canLock with expert := [] }
  let s := { s with mgmt := { s.mgmt with sessions := [], emcy := [] } }
  (s.setReg kNmtState 0x7F).sendFrame 0x700 [0, 0]

/-- NMT_RESET_NODE (R426). -/
def execNmtResetNode (s : State) : Host.Outcome State Fault Refusal := .next (s.nmt State.busReset)

/-- NMT_RESET_COMMUNICATION (R426). -/
def execNmtResetCommunication (s : State) : Host.Outcome State Fault Refusal := .next (s.nmt State.busReset)

/-! ### Heartbeats and the lull agreement (R427, R430, R431) -/

/-- The vote of the module (R430, R446): 1 for sleep. -/
def State.lullVote (s : State) : Nat := b2n (s.reg kLullAllow == 1 && s.mayDoze)

/-- The agreement window opens once every member of the present set has voted sleep. -/
def State.openLull (s : State) : State :=
  if s.mgmt.window.isSome ∨ s.mgmt.vote ≠ 1 ∨ s.onBus = false ∨
      s.mgmt.heard.any (fun e => e.2.present && e.2.vote != 1) then s
  else { s with mgmt := { s.mgmt with window := some s.now } }.setReg kBusState 1

/-- A heartbeat of the module with a vote. -/
def State.beat (s : State) (vote : Nat) : State :=
  let s := s.sendFrame 0x700 (leBytes 1 (s.reg kNmtState) ++ leBytes 1 vote)
  let s := { s with mgmt := { s.mgmt with lastBeat := s.now, vote := vote } }
  if vote = 1 then s.openLull else s.cancelLull

/-- HEARTBEAT_SEND (R427): due each HEARTBEAT_MS. -/
def execHeartbeatSend (t : Nat) (s : State) : Host.Outcome State Fault Refusal :=
  let s := s.tick t
  .next (if s.onBus = false ∨ s.now < s.mgmt.lastBeat + s.reg kHeartbeatMs * 1000000 then s else s.beat s.lullVote)

/-- HEARTBEAT (R430): any vote but sleep is a wake-up request. -/
def execHeartbeat (node : Fin 128) (_state vote : Byte) (t : Nat) (s : State) : Host.Outcome State Fault Refusal :=
  let s := s.tick t
  if s.onBus = false ∨ node.val = 0 ∨ node.val = s.reg kNodeId then .next s
  else
    let h : Heard := ⟨s.now, vote.toNat, s.reg kToManagerHbMs * 1000000, true⟩
    let s := { s with mgmt := { s.mgmt with heard := tabSet s.mgmt.heard node.val h } }
    .next (if vote = 1 then s.openLull else s.cancelLull)

/-- PRESENT_SET_LAPSE (R430): a node not heard for 1 s leaves the present set. -/
def execPresentSetLapse (node : Fin 128) (t : Nat) (s : State) : Host.Outcome State Fault Refusal :=
  let s := s.tick t
  match s.mgmt.heard.find? (fun e => e.1 == node.val) with
  | none => .next s
  | some e =>
    if e.2.present = false ∨ s.now < e.2.last + nsPerS then .next s
    else .next { s with mgmt := { s.mgmt with heard := tabSet s.mgmt.heard node.val { e.2 with present := false } } }.openLull

/-- When a lock owner counts as lost: its limit after its last heartbeat, or after it took its first lock
(R427). -/
def State.lostAt (s : State) (node since : Nat) : Nat :=
  match s.mgmt.heard.find? (fun e => e.1 == node) with
  | some e => if since ≤ e.2.last then e.2.last + e.2.limit else since + s.reg kToManagerHbMs * 1000000
  | none => since + s.reg kToManagerHbMs * 1000000

/-- The grants of lost managers end (R376, R419): the epoch of every scope in which one holds a lock rises,
and its locks break. -/
def State.loseManagers (s : State) (f : Lock → Bool) : State :=
  let s := (((s.locks.filter f).map (·.scope)).eraseDups).foldl State.bumpEpoch s
  s.breakLocks f

/-- MANAGER_HEARTBEAT_LOSS (R376, R427). -/
def execManagerHeartbeatLoss (node : Fin 128) (t : Nat) (s : State) : Host.Outcome State Fault Refusal :=
  let s := s.tick t
  let mine := fun (l : Lock) => l.owner == node.val
  match (s.locks.filter mine).map (·.since) with
  | [] => .next s
  | a :: l => .next (if s.now < s.lostAt node.val (l.foldl min a) then s else s.loseManagers mine)

/-- BUS_OFF (R376, R419): every CAN node's locks break. -/
def execBusOff (s : State) : Host.Outcome State Fault Refusal :=
  if s.serves = false ∨ s.mgmt.busOff then .next s
  else .next (({ s with mgmt := { s.mgmt with busOff := true } }.event 0x0C030006 0 0).loseManagers canLock)

/-- BUS_OFF_RECOVERY (R436): the module rejoins with an awake vote. -/
def execBusOffRecovery (s : State) : Host.Outcome State Fault Refusal :=
  if s.mgmt.busOff then .next ({ s with mgmt := { s.mgmt with busOff := false } }.beat 0) else .next s

/-- LULL_WINDOW_END (R430): uncancelled, the bus sleeps, and the module may doze. -/
def execLullWindowEnd (t : Nat) (s : State) : Host.Outcome State Fault Refusal :=
  let s := s.tick t
  match s.mgmt.window with
  | none => .next s
  | some o =>
    if s.now < o + s.reg kToLullWindowMs * 1000000 then .next s
    else
      let s := ({ s with mgmt := { s.mgmt with window := none } }.setReg kBusState 2).event 0x0C010004 0 0
      .next (if s.power.mode = .running ∧ s.reg kLullAllow = 1 ∧ s.mayDoze then s.doze else s)

/-- WAKE_UP_PATTERN (R431, R446): the bus wakes, the module answers with an awake vote, and leaves
doldrums. -/
def execWakeUpPattern (t : Nat) (b : BootInput) (s : State) : Host.Outcome State Fault Refusal :=
  let s := s.tick t
  if s.reg kBusState ≠ 2 then .next (s.wake b)
  else .next ((((s.setReg kBusState 0).event 0x0C010005 0 0).beat 0).wake b)

/-! ### EMCY and the event log (R429, R432, R433) -/

/-- EMCY_SEND (R429): the oldest waiting EMCY, at most one in 10 ms. -/
def execEmcySend (t : Nat) (s : State) : Host.Outcome State Fault Refusal :=
  let s := s.tick t
  let soon := match s.mgmt.lastEmcy with
    | some l => decide (s.now < l + 10000000)
    | none => false
  match s.mgmt.emcy with
  | [] => .next s
  | e :: rest =>
    if soon || !s.onBus || s.reg kNmtState == 4 then .next s
    else
      let s := s.sendFrame 0x080 e.data
      .next { s with mgmt := { s.mgmt with emcy := rest, lastEmcy := some s.now } }.cancelLull

/-- Records that the flash's event log holds, and those of one sector (R432). -/
def logRoom : Nat := 1048576
def logSector : Nat := 2048

/-- EVENT_LOG_WRITE (R432): the next record goes to the flash, once no erase runs (R436); a full log loses its
oldest sector, whose erase is counted (R465). -/
def execEventLogWrite (s : State) : Host.Outcome State Fault Refusal :=
  let erasing := match s.fw.ops with
    | .erase _ :: _ => true
    | _ => false
  match s.mgmt.toFlash with
  | [] => .next s
  | e :: rest =>
    if erasing || s.power.mode == .off then .next s
    else
      let full := decide (logRoom ≤ s.mgmt.flashLog.length)
      let first := (s.mgmt.flashLog.headD e).seq
      let log := if full then s.mgmt.flashLog.drop logSector else s.mgmt.flashLog
      let s := { s with mgmt := { s.mgmt with toFlash := rest, flashLog := log ++ [e] } }
      .next (if full then s.countErase (3328 + (first - 1) / logSector % 512) 0 else s)

end Sys2Proof.Machine
end

