-- ==== Sys2Proof/Machine/Bar.lean ====
section
/-! DEFINITION. The host's accesses to the base address registers (R380 to R385, R422): which register lies
where, what a read returns, and which writes are applied, dropped or logged. -/

namespace Sys2Proof.Machine

/-! ### The object table window (R385) -/

/-- A row of the window: record base, size, and the bytes of it that hold a field (R9), entries, TYPE, and the base of
the reference counts. -/
structure Window where
  base  : Nat
  bytes : Nat
  used  : Nat
  rows  : Nat
  type_ : Nat
  refs  : Nat
  deriving DecidableEq, Repr

def windows : List Window :=
  [⟨0x00000, 16, 16, 4096, 4, 0xA0000⟩, ⟨0x10000, 64, 32, 4096, 3, 0xA2000⟩, ⟨0x50000, 64, 20, 16, 1, 0xA4000⟩,
   ⟨0x51000, 64, 32, 64, 2, 0xA4100⟩, ⟨0x60000, 64, 40, 3072, 5, 0xA5000⟩, ⟨0x90000, 64, 48, 512, 7, 0xA7000⟩,
   ⟨0x98000, 16, 8, 32, 6, 0xA7400⟩]

/-- The record of a fence (R18, R19). -/
def Fence.word (f : Fence) : Nat :=
  f.value + (f.reason + b2n f.poison * 2 ^ 29 + b2n f.remote * 2 ^ 30 + b2n f.err * 2 ^ 31) * 2 ^ 64 + f.handle * 2 ^ 96

/-- The record of a memory object (R397). -/
def MemObj.word (m : MemObj) : Nat :=
  m.handle + b2n m.big * 2 ^ 32 + b2n m.shard * 2 ^ 33 + (if m.dying then 2 else 1) * 2 ^ 34 + m.base * 2 ^ 64 +
    m.size * 2 ^ 128 + m.pages.length * 2 ^ 192 + m.creator * 2 ^ 224

/-- The record of a context (R386). -/
def Ctx.word (c : Ctx) : Nat :=
  c.handle + (if c.dying then 3 else if c.submitted then 2 else 1) * 2 ^ 32 + c.jobId * 2 ^ 64 + c.capGen * 2 ^ 96 +
    c.jobFence * 2 ^ 128

/-- The record of a channel (R386). -/
def Channel.word (c : Channel) : Nat := c.handle + (if c.dying then 3 else 1) * 2 ^ 32

/-- The record of a queue (R388). -/
def Queue.word (q : Queue) : Nat :=
  q.handle + b2n q.shard * 2 ^ 32 + (if q.dying then 3 else if q.error then 2 else 1) * 2 ^ 33 + q.sizeLog2 * 2 ^ 48 +
    q.fence * 2 ^ 64 + q.creator * 2 ^ 96 + q.ringVa * 2 ^ 128 + q.head * 2 ^ 192 + q.tail * 2 ^ 208 +
    q.errReason * 2 ^ 224

/-- The record of a stream (R209). -/
def Stream.word (x : Stream) : Nat :=
  x.handle + x.cluster * 2 ^ 32 + x.context * 2 ^ 41 + b2n x.ring * 2 ^ 44 + x.state * 2 ^ 45 + x.ringLen * 2 ^ 48 +
    x.fence * 2 ^ 64 + x.memobj * 2 ^ 96 + x.base * 2 ^ 128 + x.ringAddr * 2 ^ 192 + x.armGust * 2 ^ 256

/-- The record of a group (R266); its reserved bits read 0. -/
def Group.word (g : Group) : Nat :=
  let r := [(0, 51), (64, 14), (80, 15), (96, 42), (144, 47), (192, 192)].foldl
    (fun a f => a + fld g.record f.1 f.2 * 2 ^ f.1) 0
  setFld (setFld r 0 32 g.handle) 51 2 g.state

/-- The handle and record in slot `i` of a type's table, where partition `p` holds it. -/
def State.slotRecord (s : State) (p t i : Nat) : Option (Handle × Nat) :=
  let o := s.objs
  let here := fun (h : Handle) => hPart h == p && hIndex h == i
  match t with
  | 1 => (o.contexts.find? (fun x => here x.handle)).map (fun x => (x.handle, x.word))
  | 2 => (o.queues.find? (fun x => here x.handle)).map (fun x => (x.handle, x.word))
  | 3 => (o.memobjs.find? (fun x => here x.handle)).map (fun x => (x.handle, x.word))
  | 4 => (o.fences.find? (fun x => here x.handle)).map (fun x => (x.handle, x.word))
  | 5 => (o.streams.find? (fun x => here x.handle)).map (fun x => (x.handle, x.word))
  | 6 => (o.channels.find? (fun x => here x.handle)).map (fun x => (x.handle, x.word))
  | _ => (o.groups.find? (fun x => here x.handle)).map (fun x => (x.handle, x.word))

/-- The byte `b` of a number. -/
def byteOf (x b : Nat) : Byte := BitVec.ofNat 8 (x >>> (8 * b))

/-- A byte of the object table window. -/
def State.windowByte (s : State) (p a : Nat) : Byte :=
  match windows.find? (fun w => decide (w.base ≤ a) && decide (a < w.base + w.bytes * w.rows)) with
  | some w => ((s.slotRecord p w.type_ ((a - w.base) / w.bytes)).map (fun r => byteOf r.2 ((a - w.base) % w.bytes))).getD 0
  | none =>
    match windows.find? (fun w => decide (w.refs ≤ a) && decide (a < w.refs + 2 * w.rows)) with
    | some w => ((s.slotRecord p w.type_ ((a - w.refs) / 2)).map (fun r => byteOf (s.refs r.1) ((a - w.refs) % 2))).getD 0
    | none => 0

/-! ### The register map (R380, R381, R422) -/

/-- The number of a function: its view, and 8 for the PF. -/
def fnIndex : PciFn → Nat
  | .pf => 8
  | .vf p => p.val

/-- The size of a function's BAR; 0 where it has none (R380). -/
def barSize (f : PciFn) (bar : Nat) : Nat :=
  match f, bar with
  | .pf, 0 => 0x100000
  | .pf, 2 => 0x10000
  | .vf _, 0 => 0x40000
  | .vf _, 4 => 0x100000
  | _, _ => 0

/-- Where a function's MSI-X table begins in its BAR0. -/
def msixBase (f : PciFn) : Nat :=
  match f with
  | .pf => 0xF0000
  | .vf _ => 0x30000

/-- Whether an offset of BAR0 lies in the MSI-X table of 16 vectors. -/
def inMsix (f : PciFn) (a : Nat) : Bool := decide (msixBase f ≤ a) && decide (a < msixBase f + 256)

/-- A word of a function's MSI-X table; a vector is masked until the host unmasks it (log entry 30). -/
def State.vectorWord (s : State) (i k : Nat) : Nat := tabGet s.vectors (i * 64 + k) (if k % 4 = 3 then 1 else 0)

/-- The mailbox's first four registers (R422). -/
def State.mailboxWord (s : State) : Nat :=
  let m := s.mbox
  m.index + m.sub * 2 ^ 16 + b2n m.write * 2 ^ 24 + m.len * 2 ^ 32 + m.reason * 2 ^ 64 + b2n m.busy * 2 ^ 80 +
    b2n m.done * 2 ^ 81 + m.epoch * 2 ^ 96

/-- A byte as the host reads it. -/
def State.barByte (s : State) (f : PciFn) (bar a : Nat) : Byte :=
  match f, bar with
  | .vf p, 4 => s.windowByte p.val a
  | .pf, 2 =>
    if a < 16 then byteOf s.mailboxWord a
    else if 0x1000 ≤ a ∧ a < 0x2000 then memGet 0 s.mbox.data (a - 0x1000)
    else 0
  | _, _ =>
    if a < 128 then byteOf s.capability a
    else if 0x1000 ≤ a ∧ a < 0x1020 then
      (if f = .pf ∧ a < 0x100C then 0 else byteOf (s.viewWord (fnIndex f)) (a - 0x1000))
    else if inMsix f a then byteOf (s.vectorWord (fnIndex f) ((a - msixBase f) / 4)) (a % 4)
    else 0

/-- What lies at an offset: nothing but reserved bits, a read-only register, or one that a write reaches. -/
inductive RegClass where
  | reserved
  | readOnly
  | writable
  deriving DecidableEq, Repr

def regClass (f : PciFn) (bar a : Nat) : RegClass :=
  match f, bar with
  | .vf _, 4 =>
    if windows.any (fun w => (decide (w.base ≤ a) && decide (a < w.base + w.bytes * w.rows) &&
          decide ((a - w.base) % w.bytes < w.used)) ||
        (decide (w.refs ≤ a) && decide (a < w.refs + 2 * w.rows))) then .readOnly else .reserved
  | .pf, 2 => if a = 8 then .readOnly else if a < 16 ∨ (0x1000 ≤ a ∧ a < 0x2000) then .writable else .reserved
  | _, _ =>
    if a < 52 then .readOnly
    else if a = 0x100C then .writable
    else if (if f = .pf then 0x1010 else 0x1000) ≤ a ∧ a < 0x1014 then .readOnly
    else if f ≠ .pf ∧ 0x10000 ≤ a ∧ a < 0x10100 then .writable
    else if inMsix f a then .writable
    else .reserved

/-- The width of the register at an offset: 8 bytes where its field map gives 64 bits (R382). -/
def regWidth (bar a : Nat) : Nat := if bar = 0 ∧ 32 ≤ a ∧ a < 48 then 8 else 4

/-- A 1 written to ACCESS_ERR clears it (R381). -/
def State.clearAccessErr (s : State) (i v : Nat) : State :=
  if bit v 0 then s.setView i { s.view i with err := false } else s

/-- A whole register written. -/
def State.barWriteReg (s : State) (f : PciFn) (bar a v : Nat) (w : Around) : State :=
  match regClass f bar a with
  | .reserved => s
  | .readOnly => s.logAccess (fnIndex f) a 0xA302
  | .writable =>
    match f, bar with
    | .pf, 2 =>
      if a = 0 then s.mailboxGo v w
      else if a = 4 then { s with mbox := { s.mbox with len := v % 2 ^ 13 } }
      else if a = 12 then { s with mbox := { s.mbox with epoch := v % 2 ^ 16 } }
      else { s with mbox := { s.mbox with data := memWrite 0 s.mbox.data (a - 0x1000) (leBytes 4 v) } }
    | _, _ =>
      if a = 0x100C then s.clearAccessErr (fnIndex f) v
      else if inMsix f a then
        { s with vectors := tabSet s.vectors (fnIndex f * 64 + (a - msixBase f) / 4) (v % 2 ^ 32) }
      else s.doorbell (fnIndex f) ((a - 0x10000) / 4) v

/-! ### Accesses (R382) -/

/-- A write: dropped when it is not aligned, not applied when it is narrower than its register, else split into
registers. -/
def State.barWrite (s : State) (f : PciFn) (bar a n v : Nat) (w : Around) : State :=
  if a % n ≠ 0 then s.logAccess (fnIndex f) a 0xA011
  else if n < regWidth bar a then (if regClass f bar (a / 4 * 4) = .reserved then s else s.logAccess (fnIndex f) a 0xA010)
  else
    ((List.range (n / 4)).map (fun i => a + 4 * i)).foldl (fun s o =>
      if o % regWidth bar o ≠ 0 then s
      else s.barWriteReg f bar o ((v >>> (8 * (o - a))) % 2 ^ (8 * regWidth bar o)) w) s

/-- A read: every byte 0xFF when it is not aligned. -/
def State.barRead (s : State) (f : PciFn) (bar a n : Nat) : State :=
  if a % n ≠ 0 then { s.logAccess (fnIndex f) a 0xA011 with completed := .data (List.replicate n 0xFF) }
  else { s with completed := .data ((List.range n).map (fun i => s.barByte f bar (a + i))) }

/-- A function that answers: the PF, or a VF whose partition is not FREE. -/
def State.fnLive (s : State) (f : PciFn) : Bool :=
  s.pfLive && (match f with
    | .pf => true
    | .vf p => (s.part p.val).state != stFree)

/-- A VF takes accesses on its IDE stream alone while its TDI is CONFIG_LOCKED or RUN (R329, R382). -/
def State.needsIde (s : State) (f : PciFn) : Bool :=
  match f with
  | .pf => false
  | .vf p => (s.part p.val).tdi == .configLocked || (s.part p.val).tdi == .run

/-- An access of the host to a BAR. -/
def State.barAccess (s : State) (x : BarAccess) (w : Around) : State :=
  let a := x.offset.toNat
  let bar := x.bar.val
  if s.fnLive x.fn = false ∨ x.width = 0 ∨ barSize x.fn bar < a + x.width then { s with completed := .unsupported }
  else if s.needsIde x.fn ∧ x.onIde = false then { s.logAccess (fnIndex x.fn) a 0xA503 with completed := .unsupported }
  else if x.write then s.barWrite x.fn bar a x.width x.value w
  else s.barRead x.fn bar a x.width

/-- BAR_REGISTER_ACCESS (R382). -/
def execBarRegisterAccess (a : BarAccess) (w : Around) (s : State) : Host.Outcome State Fault Refusal :=
  .next (s.barAccess a w)

/-- ACCESS_ERR (R381): a write of the view's register that holds the sticky bit. -/
def execAccessErr (f : PciFn) (v : BitVec 32) (s : State) : Host.Outcome State Fault Refusal :=
  .next (if s.fnLive f then s.clearAccessErr (fnIndex f) v.toNat else s)

/-- PF_FLR (R440): PF state and mailbox are reset, and the mailbox's locks break (R419). -/
def execPfFlr (s : State) : Host.Outcome State Fault Refusal :=
  if s.power.mode = .off then .next s
  else
    let s := s.breakLocks (fun l => l.owner == reqCode .mailbox)
    .next ({ s with mbox := State.reset.mbox, vectors := s.vectors.filter (fun e => e.1 / 64 != 8)
                    sec := { s.sec with doeReply := [] } }.setView 8 View.fresh)

end Sys2Proof.Machine
end

