-- ==== Sys2Proof/Machine/Sfu.lean ====
section
/-! DEFINITION. The special-function unit (R131 to R139): its descriptor, loadable tables and their
evaluation, and the commands SFU_EVALUATE and SFU_LOAD_TABLE. -/

namespace Sys2Proof.Machine

/-- The fields of an SFU descriptor (R132). -/
structure SfuDesc where
  kind    : Nat
  op      : Nat
  slot    : Nat
  fa      : Nat
  fy      : Nat
  roundY  : Bool
  satY    : Bool
  rows    : Nat
  n       : Nat
  aLine   : Nat
  yLine   : Nat
  aStride : Nat
  yStride : Nat
  stream  : Nat
  pre     : Nat
  deriving DecidableEq, Repr

/-- The record of R132 read. -/
def sfuDesc (d : Nat) : SfuDesc :=
  ⟨fld d 0 4, fld d 4 2, fld d 6 4, fld d 10 3, fld d 13 3, bit d 16, bit d 17, fld d 32 10, fld d 44 20,
    fld d 64 15, fld d 80 15, fld d 96 16, fld d 112 16, fld d 128 16, fld d 160 32⟩

/-- The header of a loadable table (R134). -/
structure TableHead where
  format   : Nat
  range    : Nat
  sign     : Nat
  mant     : Nat
  segs     : Nat
  expMin   : Int
  lo       : Nat
  hi       : Nat
  below    : Nat
  above    : Nat
  negInf   : Nat
  posInf   : Nat
  zero     : Nat
  check    : Nat
  deriving DecidableEq, Repr

/-- The header of a table's bytes. -/
def tableHead (t : List Byte) : TableHead :=
  let x := ofLe (t.take 64)
  ⟨fld x 0 16, fld x 16 2, fld x 18 2, fld x 20 3, fld x 24 10, sgn 8 (fld x 40 8), fld x 64 32, fld x 96 32,
    fld x 128 32, fld x 160 32, fld x 192 32, fld x 224 32, fld x 256 32, fld x 480 32⟩

/-- Coefficient `j` of segment `s`. -/
def tableCoef (t : List Byte) (s j : Nat) : Nat := ofLe ((t.drop (64 + 16 * s + 4 * j)).take 4)

/-- Why a table's header is refused (R136), 0 when it is not. -/
def tableRefusal (t : List Byte) : Reason :=
  let h := tableHead t
  let badCheck := crc32 (t.take 60 ++ (t.drop 64).take (16384 - 64)) != h.check
  let uniform := h.range == 0 || h.range == 2
  firstOf [
    (badCheck, 0x110B),
    (h.format != 1 || h.range == 3 || h.segs == 0 || decide (1020 < h.segs), 0x110C),
    (h.sign == 0 && h.range == 1, 0x110C),
    (uniform && (!f32isFinite h.lo || !f32isFinite h.hi || !f32lt h.lo h.hi), 0x110C),
    (h.range == 1 && (decide (h.expMin < -127) ||
      decide (h.expMin + (((h.segs - 1) / 2 ^ h.mant : Nat) : Int) > 127)), 0x110C)]

/-- The floor of an exact value, and what is left. -/
def Val.floorFrac (v : Val) : Int × Val :=
  match v with
  | .fin s m e =>
    let i := if 0 ≤ e then sgnAt s m e 0
      else
        let n : Int := if s then -(m : Int) else m
        n / 2 ^ (-e).toNat
    (i, v.add (ofInt (-i)))
  | _ => (0, vZero false)

/-- The cubic of step 4 (R135). -/
def tableCubic (tab : List Byte) (s t : Nat) : Nat :=
  let c := tableCoef tab s
  f32fma t (f32fma t (f32fma t (c 3) (c 2)) (c 1)) (c 0)

/-- The value before the sign rule, for a finite non-zero input (R135, steps 3 to 5). -/
def tableEval (tab : List Byte) (x : Nat) : Nat :=
  let h := tableHead tab
  let v := ofF32 x
  let place := fun (u : Val) =>
    let f := u.floorFrac
    (f.1.toNat, toF32 f.2)
  match h.range with
  | 1 =>
    let e : Int := (fld x 23 8 : Nat) - 127
    let frac := fld x 0 23
    let top := frac / 2 ^ (23 - h.mant)
    let seg := (e - h.expMin) * 2 ^ h.mant + top
    if e < h.expMin then h.below
    else if seg ≥ h.segs then h.above
    else tableCubic tab seg.toNat
      (toF32 (.fin false (frac % 2 ^ (23 - h.mant)) (-((23 - h.mant : Nat) : Int))))
  | r =>
    if f32lt x h.lo then h.below
    else if f32le h.hi x then h.above
    else if r = 0 then
      let lo := ofF32 h.lo
      let width := (ofF32 h.hi).add lo.neg
      let num := (v.add lo.neg).mul (.fin false h.segs 0)
      match num, width with
      | .fin _ m e, .fin _ n f =>
        -- u = (m / n) · 2^(e − f), formed exactly as a quotient and a remainder
        let k := max (e - f) 0
        let d := max (f - e) 0
        let a := m <<< k.toNat
        let b := n <<< d.toNat
        tableCubic tab (a / b) (toF32 (quotient false (a % b) b 0))
      | _, _ => f32Nan
    else
      let nf := v.floorFrac
      let st := place (nf.2.mul (.fin false h.segs 0))
      toF32 ((ofF32 (tableCubic tab st.1 st.2)).scale nf.1)

/-- Evaluation of a loadable table (R135) on an FP32 pattern; results are canonical in NaN. -/
def tableApply (tab : List Byte) (x : Nat) : Nat :=
  let h := tableHead tab
  let neg := bit x 31
  match ofF32 x with
  | .nan => f32Nan
  | .inf s => toF32 (ofF32 (if s then h.negInf else h.posInf))
  | .fin _ m _ =>
    if m = 0 then toF32 (if h.sign = 1 ∧ neg then (ofF32 h.zero).neg else ofF32 h.zero)
    else
      let mag := x % 2 ^ 31
      match h.sign with
      | 0 => toF32 (ofF32 (tableEval tab x))
      | 1 =>
        let y := ofF32 (tableEval tab mag)
        toF32 (if neg then y.neg else y)
      | 2 => toF32 (ofF32 (tableEval tab mag))
      | _ => if neg then f32Nan else toF32 (ofF32 (tableEval tab x))

/-- The slot of a cluster: the built-in slots are loaded at every power-up of its group (R131). -/
def State.sfuSlot (s : State) (c i : Nat) : SfuSlot :=
  if i < 11 then (if bit s.power.cgDown (c / 16) then .empty else .builtIn) else tabGet s.slots (c * 16 + i) .empty

def SfuDesc.aSpan (x : SfuDesc) (r : Nat) : Span :=
  spanLines ((x.aLine + r * x.aStride) * 64) (x.n * vBytes x.fa)

/-- Every span that the entry reads: the 256 lines of a load, or the rows of A. -/
def SfuDesc.spans (x : SfuDesc) : List Span :=
  if x.op = 1 then [(x.aLine, 256)] else (List.range x.rows).map x.aSpan

/-- The checks of R136 and R137 at issue. -/
def State.sfuCheck (s : State) (p c a : Nat) (x : SfuDesc) : Reason :=
  let slotEmpty := s.sfuSlot c x.slot == .empty
  let table := (List.range 256).flatMap (fun i => (List.range 64).map (fun j =>
    s.cellByte c ((x.aLine + i) * 64 + j)))
  if x.op = 1 ∧ x.kind = 3 then
    firstOf [(!s.inNear p a, 0x100C), (decide (x.slot ≤ 10), 0x1302),
      (tableRefusal table != 0, tableRefusal table)]
  else
    firstOf [
      (!s.inNear p a, 0x100C),
      (x.kind != 3 || decide (2 ≤ x.op), 0x1010),
      (x.fa == 7 || x.fy == 7 || vInt x.fa || vInt x.fy, 0x1011),
      (decide (512 < x.rows), 0x1012),
      (slotEmpty, 0x1205)]

/-- The function of a slot on an FP32 pattern. -/
def State.sfuApply (s : State) (slot : SfuSlot) (i x : Nat) : Nat :=
  match slot with
  | .builtIn => builtin (s.reg kBuiltinTableRev) i x
  | .loaded t _ => tableApply t x
  | .empty => f32Nan

/-- Whether a slot holds a table loaded from poisoned lines. -/
def SfuSlot.poisoned : SfuSlot → Bool
  | .loaded _ b => b
  | _ => false

/-- The effect of an evaluation. -/
def State.sfuEval (s : State) (p c : Nat) (x : SfuDesc) : State :=
  let slot := s.sfuSlot c x.slot
  let wy := vBytes x.fy
  let per := 64 / wy
  let elem := fun (r i : Nat) =>
    let a := s.cellLe c ((x.aLine + r * x.aStride) * 64 + i * vBytes x.fa) (vBytes x.fa)
    let y := s.sfuApply slot x.slot (f32mul (toF32 (vVal x.fa a)) x.pre)
    convertOut x.fy (s.rounding p c x.roundY x.stream (r * 2 ^ 20 + i + 2 ^ 29)) x.satY (ofF32 y)
  let linePoison := fun (r i : Nat) =>
    slot.poisoned || s.spanPoison c (spanLines ((x.aLine + r * x.aStride) * 64 + i / per * per * vBytes x.fa)
      (min per (x.n - i / per * per) * vBytes x.fa))
  let puts := (List.range x.rows).flatMap (fun r =>
    rowPuts c (x.yLine + r * x.yStride) wy
      ((List.range x.n).map (fun i => (elem r i, linePoison r i))))
  let s := s.overrun c ((x.spans.map overLines).foldl (· + ·) 0 + putsOver puts)
  s.runEntry ⟨p, c, 2, s.now, 16 + x.rows * ceilDiv x.n 64, puts, none, none, 0, 0, none, none⟩

/-- The effect of a table load: when it ends, the slot holds the table, poisoned if any of its lines was. -/
def State.sfuLoad (s : State) (p c : Nat) (x : SfuDesc) : State :=
  let table := (List.range 256).flatMap (fun i => (List.range 64).map (fun j =>
    s.cellByte c ((x.aLine + i) * 64 + j)))
  let poison := s.spanPoison c (x.aLine, 256)
  let s := s.overrun c (overLines (x.aLine, 256))
  s.runEntry ⟨p, c, 2, s.now, 32, [], none, none, 0, 0, some (c * 16 + x.slot, .loaded table poison), none⟩

/-- A table load ends (R136, R139, R140). -/
def State.tableLoaded (s : State) (k : Nat) (slot : SfuSlot) : State :=
  let s := { s with slots := tabSet s.slots k slot }.bumpReg kTableLoads 1
  if slot.poisoned then s.event 0x01020032 0 (k / 16) else s

/-- An SFU entry with operation `op`; of the loads that are refused, those with 0x110B or 0x110C have read their 256
lines (R91). A descriptor outside near memory is recorded in SFU_REFUSAL with its event too (log entry 118). -/
def State.sfuEntry (op c a d p : Nat) (s : State) : State :=
  let x := sfuDesc d
  let x := if x.op < 2 then { x with op := op } else x
  let r := s.sfuCheck p c a x
  if r ≠ 0 then
    let s := if r = 0x110B ∨ r = 0x110C then s.overrun c (overLines (x.aLine, 256)) else s
    s.refuseEntry p kSfuRefusal 0x01030031 r
  else if x.op = 1 then s.sfuLoad p c x else s.sfuEval p c x

/-- SFU_EVALUATE (R135). -/
def execSfuEvaluate (c : Fin 512) (a : BitVec 64) (d : Desc) (s : State) : Host.Outcome State Fault Refusal :=
  .next (s.issueCluster c.val 2 a.toNat { sfuDesc d.toNat with op := 0 }.spans (.sfuEvaluate c a d)
    (State.sfuEntry 0 c.val a.toNat d.toNat))

/-- SFU_LOAD_TABLE (R136). -/
def execSfuLoadTable (c : Fin 512) (a : BitVec 64) (d : Desc) (s : State) : Host.Outcome State Fault Refusal :=
  .next (s.issueCluster c.val 2 a.toNat { sfuDesc d.toNat with op := 1 }.spans (.sfuLoadTable c a d)
    (State.sfuEntry 1 c.val a.toNat d.toNat))

end Sys2Proof.Machine
end

