-- ==== Sys2Proof/Machine/Vector.lean ====
section
/-! DEFINITION. The vector unit (R119 to R130, R137 to R139): its descriptor, element-wise operations,
row operations with their records, and the commands of the vector family. -/

namespace Sys2Proof.Machine

/-- The fields of a vector descriptor (R127). -/
structure VecDesc where
  kind    : Nat
  vop     : Nat
  fa      : Nat
  fb      : Nat
  fy      : Nat
  bMode   : Nat
  roundY  : Bool
  satY    : Bool
  cmp     : Nat
  acc     : Bool
  rows    : Nat
  n       : Nat
  aLine   : Nat
  bLine   : Nat
  cLine   : Nat
  yLine   : Nat
  sLine   : Nat
  stream  : Nat
  aStride : Nat
  bStride : Nat
  cStride : Nat
  yStride : Nat
  imm     : Nat
  eps     : Nat
  deriving DecidableEq, Repr

/-- The record of R127 read. -/
def vecDesc (d : Nat) : VecDesc :=
  ⟨fld d 0 4, fld d 4 6, fld d 10 3, fld d 13 3, fld d 16 3, fld d 19 2, bit d 21, bit d 22, fld d 23 3,
    bit d 26, fld d 32 10, fld d 44 20, fld d 64 15, fld d 80 15, fld d 96 15, fld d 112 15, fld d 128 15,
    fld d 144 16, fld d 160 16, fld d 176 16, fld d 192 16, fld d 208 16, fld d 224 32, fld d 256 32⟩

/-- The operations that R128 defines. -/
def vopKnown (v : Nat) : Bool :=
  decide (v ≤ 0x0D) || (decide (0x20 ≤ v) && decide (v ≤ 0x23)) || (decide (0x28 ≤ v) && decide (v ≤ 0x2B))

/-- Which operands an operation reads, and whether it is a row operation or reads records (R128). -/
def vopReadsB (v : Nat) : Bool := v == 1 || v == 2 || v == 3 || v == 4 || v == 5 || v == 6 || v == 0xB
def vopReadsC (v : Nat) : Bool := v == 4
def vopRow (v : Nat) : Bool := decide (0x20 ≤ v) && decide (v ≤ 0x23)
def vopReadsRec (v : Nat) : Bool := decide (0x28 ≤ v) && decide (v ≤ 0x2B)

/-- Operations for which R128 asks floating formats. -/
def vopFloat (v : Nat) : Bool := v == 4 || (decide (9 ≤ v) && decide (v ≤ 0xD)) || vopReadsRec v

/-- Whether the record span is read: ACC of a row operation, or SUB_ROW to NORM_ROW. -/
def VecDesc.readsRec (x : VecDesc) : Bool := vopReadsRec x.vop || (vopRow x.vop && x.acc)

def VecDesc.aSpan (x : VecDesc) (r : Nat) : Span :=
  spanLines ((x.aLine + r * x.aStride) * 64) (x.n * vBytes x.fa)
/-- The part of B that row `r` reads under B_MODE. -/
def VecDesc.bSpan (x : VecDesc) (r : Nat) : Span :=
  if vopReadsB x.vop = false then (0, 0)
  else match x.bMode with
    | 0 => spanLines ((x.bLine + r * x.bStride) * 64) (x.n * vBytes x.fb)
    | 1 => spanLines (x.bLine * 64) (x.n * vBytes x.fb)
    | 2 => spanLines (x.bLine * 64) (if x.n = 0 then 0 else vBytes x.fb)
    | _ => spanLines (x.bLine * 64 + r * vBytes x.fb) (if x.n = 0 then 0 else vBytes x.fb)
def VecDesc.cSpan (x : VecDesc) (r : Nat) : Span :=
  if vopReadsC x.vop then spanLines ((x.cLine + r * x.cStride) * 64) (x.n * vBytes x.fy) else (0, 0)
def VecDesc.recSpan (x : VecDesc) (r : Nat) : Span :=
  if x.readsRec then (recLine x.sLine r, 1) else (0, 0)

/-- Every span that the entry reads. -/
def VecDesc.spans (x : VecDesc) : List Span :=
  (List.range x.rows).flatMap (fun r => [x.aSpan r, x.bSpan r, x.cSpan r, x.recSpan r])

/-- The formats that R128 allows for the operation. -/
def VecDesc.formatsOk (x : VecDesc) : Bool :=
  if vopRow x.vop then x.vop == 0x23 || vFloat x.fa
  else if vopFloat x.vop then
    vFloat x.fa && vFloat x.fy && (!vopReadsB x.vop || vFloat x.fb) && (x.vop != 0xC || x.fy != 3)
  else true

/-- IMM of DROPOUT lies in (0, 1] (R137). -/
def immProbability (imm : Nat) : Bool := f32lt 0 imm && f32le imm f32One

/-- The checks of R137 at issue, and of R126 on the records. -/
def State.vecCheck (s : State) (p c a : Nat) (x : VecDesc) : Reason :=
  let flagNeeded := match x.vop with
    | 0x20 => RowRec.maxValid
    | 0x21 => RowRec.sumValid
    | 0x22 => RowRec.sumsqValid
    | 0x28 => RowRec.maxValid
    | 0x29 => RowRec.sumValid
    | 0x2A => RowRec.sumValid
    | 0x2B => RowRec.sumsqValid
    | _ => fun _ => true
  let stale := x.readsRec && (List.range x.rows).any (fun r => !flagNeeded (s.readRec c x.sLine r))
  firstOf [
    (!s.inNear p a, 0x100C),
    (x.kind != 2 || !vopKnown x.vop || ((x.vop == 0xB || x.vop == 0x23) && decide (6 ≤ x.cmp)), 0x1010),
    (x.fa == 7 || (vopReadsB x.vop && x.fb == 7) || (!vopRow x.vop && x.fy == 7), 0x1011),
    (decide (512 < x.rows), 0x1012),
    (x.vop == 0xD && !immProbability x.imm, 0x1013),
    (!x.formatsOk, 0x110A),
    (stale, 0x110D)]

/-- Element `i` of row `r` of A, B and C as stored patterns. -/
def State.vecA (s : State) (c : Nat) (x : VecDesc) (r i : Nat) : Nat :=
  s.cellLe c ((x.aLine + r * x.aStride) * 64 + i * vBytes x.fa) (vBytes x.fa)
def State.vecB (s : State) (c : Nat) (x : VecDesc) (r i : Nat) : Nat :=
  let w := vBytes x.fb
  match x.bMode with
  | 0 => s.cellLe c ((x.bLine + r * x.bStride) * 64 + i * w) w
  | 1 => s.cellLe c (x.bLine * 64 + i * w) w
  | 2 => s.cellLe c (x.bLine * 64) w
  | _ => s.cellLe c (x.bLine * 64 + r * w) w
def State.vecC (s : State) (c : Nat) (x : VecDesc) (r i : Nat) : Nat :=
  s.cellLe c ((x.cLine + r * x.cStride) * 64 + i * vBytes x.fy) (vBytes x.fy)

/-- An integer operation of R121 on INT32 values, exact before saturation. -/
def vecIntOp (vop : Nat) (a b : Int) : Int :=
  match vop with
  | 1 => a + b
  | 2 => a - b
  | 3 => a * b
  | 5 => min a b
  | 6 => max a b
  | 7 => (a.natAbs : Int)
  | 8 => -a
  | _ => a

/-- A floating operation of R120 and R128 on values, as an FP32 pattern. `word` is the generator
word that DROPOUT takes. -/
def vecFloatOp (vop cmp imm row i word : Nat) (a b cc : Val) : Nat :=
  let v := ofF32 imm
  match vop with
  | 1 => toF32 (a.add b)
  | 2 => toF32 (a.add b.neg)
  | 3 => toF32 (a.mul b)
  | 4 => toF32 ((a.mul b).add cc)
  | 5 => toF32 (a.min2 b)
  | 6 => toF32 (a.max2 b)
  | 7 => toF32 a.abs
  | 8 => toF32 a.neg
  | 9 => toF32 (a.mul v)
  | 0xA => toF32 (a.add v)
  | 0xB => if cmpHolds cmp (a.cmp b) then toF32 a else toF32 v
  | 0xC => if (i : Int) ≤ (row : Int) + sgn 32 imm then toF32 a else f32NegInf
  | 0xD =>
    if (Val.fin false word (-32)).lt v then f32mul (toF32 a) (f32div f32One imm) else 0
  | _ => toF32 a

/-- SUB_ROW, DIV_ROW, CENTER_ROW and NORM_ROW on one element (R128, R130). -/
def vecRecOp (vop imm eps : Nat) (rec : RowRec) (a : Nat) : Nat :=
  match vop with
  | 0x28 =>
    if rec.isNan then f32Nan
    else if rec.empty then f32NegInf
    else if rec.pinf then (if a = f32PosInf then 0 else f32NegInf)
    else f32sub a rec.max_
  | 0x29 =>
    if rec.isNan then f32Nan
    else if rec.empty then 0
    else f32mul a (f32div f32One rec.sum)
  | 0x2A => f32sub a (f32mul rec.sum imm)
  | _ =>
    let sum := (ofF32 (f32mul rec.sumsq imm)).add (ofF32 eps)
    let q := match sum with
      | .fin _ 0 _ => f32PosInf
      | v => toF32 v.rsqrt
    f32mul a q

/-- One output element of an element-wise operation, with whether it saturated (R121, R122). -/
def State.vecElem (s : State) (p c : Nat) (x : VecDesc) (r i : Nat) : Nat × Bool :=
  let a := s.vecA c x r i
  let b := if vopReadsB x.vop then s.vecB c x r i else 0
  let rnd := s.rounding p c x.roundY x.stream (r * 2 ^ 20 + i + 2 ^ 29)
  if vopReadsRec x.vop then
    vConvert x.fy rnd x.satY
      (ofF32 (vecRecOp x.vop x.imm x.eps (s.readRec c x.sLine r) (toF32 (vVal x.fa a))))
  else if vInt x.fa ∧ (vopReadsB x.vop = false ∨ vInt x.fb) ∧ vopFloat x.vop = false then
    let e := satInt 32 (vecIntOp x.vop (vIntVal x.fa a) (vIntVal x.fb b))
    let y := vConvertInt x.fy rnd x.satY e.1
    (y.1, e.2 || y.2)
  else
    let word := if x.vop = 0xD then s.word p c x.stream (r * 2 ^ 20 + i) else 0
    let cv := if vopReadsC x.vop then vVal x.fy (s.vecC c x r i) else vZero false
    vConvert x.fy rnd x.satY
      (ofF32 (vecFloatOp x.vop x.cmp x.imm r i word (vVal x.fa a) (vVal x.fb b) cv))

/-- The running time of R138. -/
def VecDesc.cycles (x : VecDesc) : Nat :=
  let wide := decide (2 < vBytes x.fa) || (vopReadsB x.vop && decide (2 < vBytes x.fb)) ||
    (!vopRow x.vop && decide (2 < vBytes x.fy))
  (if vopRow x.vop then 20 else 12) + x.rows * ceilDiv x.n (if wide then 64 else 128)

/-- The poison of the lines that row `r` of an element-wise operation reads for one line of Y: the
line's own elements of A, C and an element-wise B; a shared B and the record mark the whole row. -/
def State.vecLinePoison (s : State) (c : Nat) (x : VecDesc) (r lo n : Nat) : Bool :=
  let part := fun (line w : Nat) => s.spanPoison c (spanLines (line * 64 + lo * w) (n * w))
  part (x.aLine + r * x.aStride) (vBytes x.fa) ||
    (vopReadsC x.vop && part (x.cLine + r * x.cStride) (vBytes x.fy)) ||
    (vopReadsB x.vop && x.bMode == 0 && part (x.bLine + r * x.bStride) (vBytes x.fb)) ||
    (vopReadsRec x.vop && s.spanPoison c (x.recSpan r))

/-- A shared B marks every line of Y of the entry (R139). -/
def State.vecSharedPoison (s : State) (c : Nat) (x : VecDesc) : Bool :=
  vopReadsB x.vop && x.bMode != 0 && (List.range x.rows).any (fun r => s.spanPoison c (x.bSpan r))

/-- The writes of an element-wise operation, with whether any element saturated. -/
def State.vecPuts (s : State) (p c : Nat) (x : VecDesc) : List CellPut × Bool :=
  let shared := s.vecSharedPoison c x
  let w := vBytes x.fy
  let per := 64 / w
  let rows := (List.range x.rows).map (fun r =>
    let ys := (List.range x.n).map (fun i => s.vecElem p c x r i)
    (rowPuts c (x.yLine + r * x.yStride) w
      ((ys.zipIdx).map (fun y =>
        (y.1.1, shared || s.vecLinePoison c x r (y.2 / per * per) (min per (x.n - y.2 / per * per))))),
      ys.any (·.2)))
  (rows.flatMap (·.1), rows.any (·.2))

/-- A row operation on row `r` (R124, R125): the record fields written and the record as it stands
after. -/
def State.vecRowOp (s : State) (c : Nat) (x : VecDesc) (r : Nat) : List (Nat × List Byte) × RowRec :=
  let old := s.readRec c x.sLine r
  let as_ := (List.range x.n).map (fun i => s.vecA c x r i)
  let vals := as_.map (vVal x.fa)
  match x.vop with
  | 0x20 =>
    let k := (vals.filter (fun v => v == .inf false)).length
    let nan := vals.any (fun v => v == .nan)
    let empty := vals.all (fun v => v == .inf true)
    let pinf := decide (0 < k)
    let m := vals.foldl Val.max2 (.inf true)
    let new : RowRec :=
      if x.acc then
        let k1 := if old.pinf then old.count else 0
        let isNan := old.isNan || nan
        { old with
          max_ := if isNan then f32Nan else toF32 ((ofF32 old.max_).max2 m)
          count := min (k1 + k) 0xFFFFFF
          flags := mkFlags (old.empty && empty) (old.pinf || pinf) isNan true old.sumValid old.sumsqValid }
      else
        { old with
          max_ := toF32 m
          count := min k 0xFFFFFF
          flags := mkFlags empty pinf nan true false false }
    ([(0, leBytes 4 new.max_), (12, leBytes 3 new.count ++ leBytes 1 new.flags)], new)
  | 0x21 =>
    let new := { old with
      sum := blockSum (if x.acc then old.sum else 0) vals
      flags := mkFlags old.empty old.pinf old.isNan old.maxValid true old.sumsqValid }
    ([(4, leBytes 4 new.sum), (15, leBytes 1 new.flags)], new)
  | 0x22 =>
    let new := { old with
      sumsq := blockSum (if x.acc then old.sumsq else 0) (vals.map (fun v => v.mul v))
      flags := mkFlags old.empty old.pinf old.isNan old.maxValid old.sumValid true }
    ([(8, leBytes 4 new.sumsq), (15, leBytes 1 new.flags)], new)
  | _ =>
    let holds := fun (a : Nat) =>
      if vInt x.fa then cmpHolds x.cmp (some (compare (vIntVal x.fa a) (sgn 32 x.imm)))
      else cmpHolds x.cmp ((vVal x.fa a).cmp (ofF32 x.imm))
    let n := (as_.filter holds).length
    let new := { old with count := min ((if x.acc then old.count else 0) + n) 0xFFFFFF }
    ([(12, leBytes 3 new.count)], new)

/-- The effect of a row-operation entry. ROW_EMPTY_COUNT and ROW_NAN_COUNT count each row whose record carries the
flag after the operation, a record that ACC = 1 merged with one that carried it already among them (R130 says "sets";
DEDUCED, log entry 117). -/
def State.vecRunRows (s : State) (p c : Nat) (x : VecDesc) : State :=
  let outs := (List.range x.rows).map (fun r =>
    (s.vecRowOp c x r, s.spanPoison c (x.aSpan r) || (x.acc && s.spanPoison c (x.recSpan r)), r))
  let puts := outs.flatMap (fun o => recPuts c x.sLine o.2.2 o.2.1 o.1.1)
  let s := s.overrun c ((x.spans.map overLines).foldl (· + ·) 0 + putsOver puts)
  let s := if x.n = 0 ∧ 0 < x.rows then s.bumpReg kVecEmptyReductions 1 else s
  let s := if x.vop = 0x20 then
      (s.bumpReg kRowEmptyCount (outs.filter (fun o => o.1.2.empty)).length).bumpReg kRowNanCount
        (outs.filter (fun o => o.1.2.isNan)).length
    else s
  s.runEntry ⟨p, c, 1, s.now, x.cycles, puts, none, none, 0, 0, none, none⟩

/-- The effect of an element-wise entry. -/
def State.vecRunElems (s : State) (p c : Nat) (x : VecDesc) : State :=
  let out := s.vecPuts p c x
  let s := s.overrun c ((x.spans.map overLines).foldl (· + ·) 0 + putsOver out.1)
  let s := if out.2 then s.bumpReg kVecIntSaturations 1 else s
  s.runEntry ⟨p, c, 1, s.now, x.cycles, out.1, none, none, 0, 0, none, none⟩

/-- Record lines beyond the store that the checks of R126 read (R91). -/
def VecDesc.recOver (x : VecDesc) : Nat :=
  ((List.range x.rows).map (fun r => overLines (x.recSpan r))).foldl (· + ·) 0

/-- A vector entry with operation `vop`: refused under R126 or R137, or run. A descriptor outside near memory is
recorded in VECTOR_REFUSAL with its event too (R87 names the fault alone; DEDUCED, log entry 118). -/
def State.vecEntry (vop c a d p : Nat) (s : State) : State :=
  let x := vecDesc d
  let x := if vopKnown x.vop then { x with vop := vop } else x
  let r := s.vecCheck p c a x
  if r ≠ 0 then (if r = 0x110D then s.overrun c x.recOver else s).refuseEntry p kVectorRefusal 0x01030030 r
  else if vopRow x.vop then s.vecRunRows p c x else s.vecRunElems p c x

/-- Issue of a vector entry in its cluster's plan. -/
def State.vecIssue (s : State) (vop : Nat) (c : Fin 512) (a : BitVec 64) (d : Desc) (entry : Instr) : State :=
  s.issueCluster c.val 1 a.toNat { vecDesc d.toNat with vop := vop }.spans entry
    (State.vecEntry vop c.val a.toNat d.toNat)

/-- VEC_COPY: VOP 0x00 of R128. -/
def execVecCopy (c : Fin 512) (a : BitVec 64) (d : Desc) (s : State) : Host.Outcome State Fault Refusal :=
  .next (s.vecIssue 0x00 c a d (.vecCopy c a d))

/-- ADD: VOP 0x01 of R128. -/
def execAddV (c : Fin 512) (a : BitVec 64) (d : Desc) (s : State) : Host.Outcome State Fault Refusal :=
  .next (s.vecIssue 0x01 c a d (.addV c a d))

/-- SUB: VOP 0x02 of R128. -/
def execSubV (c : Fin 512) (a : BitVec 64) (d : Desc) (s : State) : Host.Outcome State Fault Refusal :=
  .next (s.vecIssue 0x02 c a d (.subV c a d))

/-- MUL: VOP 0x03 of R128. -/
def execMulV (c : Fin 512) (a : BitVec 64) (d : Desc) (s : State) : Host.Outcome State Fault Refusal :=
  .next (s.vecIssue 0x03 c a d (.mulV c a d))

/-- FMA: VOP 0x04 of R128. -/
def execFmaV (c : Fin 512) (a : BitVec 64) (d : Desc) (s : State) : Host.Outcome State Fault Refusal :=
  .next (s.vecIssue 0x04 c a d (.fmaV c a d))

/-- MIN: VOP 0x05 of R128. -/
def execMinV (c : Fin 512) (a : BitVec 64) (d : Desc) (s : State) : Host.Outcome State Fault Refusal :=
  .next (s.vecIssue 0x05 c a d (.minV c a d))

/-- MAX: VOP 0x06 of R128. -/
def execMaxV (c : Fin 512) (a : BitVec 64) (d : Desc) (s : State) : Host.Outcome State Fault Refusal :=
  .next (s.vecIssue 0x06 c a d (.maxV c a d))

/-- ABS: VOP 0x07 of R128. -/
def execAbsV (c : Fin 512) (a : BitVec 64) (d : Desc) (s : State) : Host.Outcome State Fault Refusal :=
  .next (s.vecIssue 0x07 c a d (.absV c a d))

/-- NEG: VOP 0x08 of R128. -/
def execNegV (c : Fin 512) (a : BitVec 64) (d : Desc) (s : State) : Host.Outcome State Fault Refusal :=
  .next (s.vecIssue 0x08 c a d (.negV c a d))

/-- MUL_IMM: VOP 0x09 of R128. -/
def execMulImm (c : Fin 512) (a : BitVec 64) (d : Desc) (s : State) : Host.Outcome State Fault Refusal :=
  .next (s.vecIssue 0x09 c a d (.mulImm c a d))

/-- ADD_IMM: VOP 0x0A of R128. -/
def execAddImm (c : Fin 512) (a : BitVec 64) (d : Desc) (s : State) : Host.Outcome State Fault Refusal :=
  .next (s.vecIssue 0x0A c a d (.addImm c a d))

/-- SELECT: VOP 0x0B of R128. -/
def execSelectV (c : Fin 512) (a : BitVec 64) (d : Desc) (s : State) : Host.Outcome State Fault Refusal :=
  .next (s.vecIssue 0x0B c a d (.selectV c a d))

/-- MASK_CAUSAL: VOP 0x0C of R128. -/
def execMaskCausal (c : Fin 512) (a : BitVec 64) (d : Desc) (s : State) : Host.Outcome State Fault Refusal :=
  .next (s.vecIssue 0x0C c a d (.maskCausal c a d))

/-- DROPOUT: VOP 0x0D of R128. -/
def execDropout (c : Fin 512) (a : BitVec 64) (d : Desc) (s : State) : Host.Outcome State Fault Refusal :=
  .next (s.vecIssue 0x0D c a d (.dropout c a d))

/-- ROW_MAX: VOP 0x20 of R128. -/
def execRowMax (c : Fin 512) (a : BitVec 64) (d : Desc) (s : State) : Host.Outcome State Fault Refusal :=
  .next (s.vecIssue 0x20 c a d (.rowMax c a d))

/-- ROW_SUM: VOP 0x21 of R128. -/
def execRowSum (c : Fin 512) (a : BitVec 64) (d : Desc) (s : State) : Host.Outcome State Fault Refusal :=
  .next (s.vecIssue 0x21 c a d (.rowSum c a d))

/-- ROW_SUMSQ: VOP 0x22 of R128. -/
def execRowSumsq (c : Fin 512) (a : BitVec 64) (d : Desc) (s : State) : Host.Outcome State Fault Refusal :=
  .next (s.vecIssue 0x22 c a d (.rowSumsq c a d))

/-- ROW_COUNT: VOP 0x23 of R128. -/
def execRowCount (c : Fin 512) (a : BitVec 64) (d : Desc) (s : State) : Host.Outcome State Fault Refusal :=
  .next (s.vecIssue 0x23 c a d (.rowCount c a d))

/-- SUB_ROW: VOP 0x28 of R128. -/
def execSubRow (c : Fin 512) (a : BitVec 64) (d : Desc) (s : State) : Host.Outcome State Fault Refusal :=
  .next (s.vecIssue 0x28 c a d (.subRow c a d))

/-- DIV_ROW: VOP 0x29 of R128. -/
def execDivRow (c : Fin 512) (a : BitVec 64) (d : Desc) (s : State) : Host.Outcome State Fault Refusal :=
  .next (s.vecIssue 0x29 c a d (.divRow c a d))

/-- CENTER_ROW: VOP 0x2A of R128. -/
def execCenterRow (c : Fin 512) (a : BitVec 64) (d : Desc) (s : State) : Host.Outcome State Fault Refusal :=
  .next (s.vecIssue 0x2A c a d (.centerRow c a d))

/-- NORM_ROW: VOP 0x2B of R128. -/
def execNormRow (c : Fin 512) (a : BitVec 64) (d : Desc) (s : State) : Host.Outcome State Fault Refusal :=
  .next (s.vecIssue 0x2B c a d (.normRow c a d))

end Sys2Proof.Machine
end

