-- ==== Sys2Proof/Machine/Sequencer.lean ====
section
/-! DEFINITION. What ends on a unit: entries that complete, lines that arrive, transfers that end, answers
from other modules; and the retry of the entries that stalled for it (R55, R56, R218, R219). -/

namespace Sys2Proof.Machine

/-- The next state of an outcome; `d` where it has none. -/
def nextOr (d : State) (o : Host.Outcome State Fault Refusal) : State :=
  match o with
  | .next t => t
  | _ => d

/-- A plan entry issued again. Only plan entries stall. -/
def State.reissue (s : State) (entry : Instr) : State :=
  match entry with
  | .multiplyAdd c a d => nextOr s (execMultiplyAdd c a d s)
  | .sumOfAbsoluteDifferences c a d => nextOr s (execSumOfAbsoluteDifferences c a d s)
  | .sumOfSquaredDifferences c a d => nextOr s (execSumOfSquaredDifferences c a d s)
  | .maxPlus c a d => nextOr s (execMaxPlus c a d s)
  | .minPlus c a d => nextOr s (execMinPlus c a d s)
  | .compareAndCount c a d => nextOr s (execCompareAndCount c a d s)
  | .vecCopy c a d => nextOr s (execVecCopy c a d s)
  | .addV c a d => nextOr s (execAddV c a d s)
  | .subV c a d => nextOr s (execSubV c a d s)
  | .mulV c a d => nextOr s (execMulV c a d s)
  | .fmaV c a d => nextOr s (execFmaV c a d s)
  | .minV c a d => nextOr s (execMinV c a d s)
  | .maxV c a d => nextOr s (execMaxV c a d s)
  | .absV c a d => nextOr s (execAbsV c a d s)
  | .negV c a d => nextOr s (execNegV c a d s)
  | .mulImm c a d => nextOr s (execMulImm c a d s)
  | .addImm c a d => nextOr s (execAddImm c a d s)
  | .selectV c a d => nextOr s (execSelectV c a d s)
  | .maskCausal c a d => nextOr s (execMaskCausal c a d s)
  | .dropout c a d => nextOr s (execDropout c a d s)
  | .rowMax c a d => nextOr s (execRowMax c a d s)
  | .rowSum c a d => nextOr s (execRowSum c a d s)
  | .rowSumsq c a d => nextOr s (execRowSumsq c a d s)
  | .rowCount c a d => nextOr s (execRowCount c a d s)
  | .subRow c a d => nextOr s (execSubRow c a d s)
  | .divRow c a d => nextOr s (execDivRow c a d s)
  | .centerRow c a d => nextOr s (execCenterRow c a d s)
  | .normRow c a d => nextOr s (execNormRow c a d s)
  | .sfuEvaluate c a d => nextOr s (execSfuEvaluate c a d s)
  | .sfuLoadTable c a d => nextOr s (execSfuLoadTable c a d s)
  | .sample p u a d => nextOr s (execSample p u a d s)
  | .updraft c x a d => nextOr s (execUpdraft c x a d s)
  | .downdraft c x a d => nextOr s (execDowndraft c x a d s)
  | .tileSink p a d => nextOr s (execTileSink p a d s)
  | .localSum p a d => nextOr s (execLocalSum p a d s)
  | .reduceScatter p a d => nextOr s (execReduceScatter p a d s)
  | .allGather p a d => nextOr s (execAllGather p a d s)
  | .broadcast p a d => nextOr s (execBroadcast p a d s)
  | .adamw p a d => nextOr s (execAdamw p a d s)
  | .initW p a d => nextOr s (execInitW p a d s)
  | .fold p a d => nextOr s (execFold p a d s)
  | .closeStep p a d => nextOr s (execCloseStep p a d s)
  | .stepEnd p a d => nextOr s (execStepEnd p a d s)
  | .ckptCopy p a d => nextOr s (execCkptCopy p a d s)
  | .restore p a d => nextOr s (execRestore p a d s)
  | .peerCopy p a d => nextOr s (execPeerCopy p a d s)
  | _ => s

/-- The stalled entry of a unit tried again: if it issues now, the stall has ended (R55). While the plan clock
stands in a calm window it waits on. -/
def State.retry (s : State) (p unitId : Nat) : State :=
  match s.stalledOf p unitId with
  | [] => s
  | x :: _ =>
    let s0 := { s with stalled := s.stalled.filter (fun y => !(y.part == p && y.unitId == unitId)) }
    if s.issues p unitId = false ∨ ((s0.reissue x.entry).stalledOf p unitId).isEmpty = false then s
    else (s0.lateSince p unitId x.since).reissue x.entry

/-- The retry of a cluster's unit. -/
def State.retryCluster (s : State) (c : Nat) : State :=
  match s.clusterPart c with
  | none => s
  | some p => s.retry p c

/-- The retry of every unit that stalls. -/
def State.retryAll (s : State) : State :=
  ((s.stalled.map (fun x => (x.part, x.unitId))).eraseDups).foldl (fun t e => t.retry e.1 e.2) s

/-! ### Entries (R55, R77) -/

/-- Writes without those to the lines of a list. -/
def putsOff (puts : List CellPut) (lines : List (Nat × Nat)) : List CellPut :=
  puts.filter (fun w => !lines.contains (w.cluster, w.addr / 64))

/-- The compute entries of one cluster that end in the cycle in which `r` ends. -/
def State.rivals (s : State) (r x : Running) : Bool :=
  decide (r.unit ≤ 2) && decide (x.unit ≤ 2) && x.unitId == r.unitId && x.unit != r.unit && s.endCycle x == s.endCycle r

/-- Of the writes that two units make to one line in one cycle, those of the unit that R88 puts first stand: `r` gives
up its lines to such units, and the others give up theirs to `r`. -/
def State.sameCycle (s : State) (r : Running) : List CellPut × State :=
  let higher := s.running.filter (fun x => s.rivals r x && decide (x.unit < r.unit))
  (putsOff r.puts (higher.flatMap (fun x => touched x.puts)),
    { s with running := s.running.map (fun x =>
        if s.rivals r x ∧ r.unit < x.unit then { x with puts := putsOff x.puts (touched r.puts) } else x) })

/-- An entry leaves what it computed: its writes, its accumulators and tiles, its signal. -/
def State.finishEntry (s : State) (r : Running) : State :=
  let s := { s with running := s.running.filter (fun x => !(x.unitId == r.unitId && x.unit == r.unit && x.part == r.part)) }
  let w := s.sameCycle r
  let s := w.2.applyPuts w.1
  let s := if r.unit = 0 then
      { s with held := match r.held with
          | some h => tabSet s.held r.unitId h
          | none => tabErase s.held r.unitId }
    else s
  let s := match r.tiles with
    | some rows => s.forwardTiles r.part r.unitId r.fmtY rows
    | none => s
  let s := match r.load with
    | some (k, slot) => s.tableLoaded k slot
    | none => s
  let s := if r.unitId = collUnit then s.collFinish r.part else s
  s.signalOr r.signal 1

/-- Whether an entry still waits for data that its end needs: a sum for its counts (R274), a peer copy for
its lines. -/
def State.unfinished (s : State) (r : Running) : Bool :=
  (r.unitId == collUnit && s.coll.waits.any (fun w => w.1 == r.part)) || (r.unitId == ckptUnit && s.peerPending r.part)

/-- A unit reaches END (R77): END is the next entry of its plan and due, and nothing of it stalls. -/
def State.reachEnd (s : State) (p unitId : Nat) : State :=
  let g := s.grid p
  if s.issues p unitId && (s.stalledOf p unitId).isEmpty && s.due p unitId 15 0 then
    s.setGrid p { g with ended := g.ended ++ [unitId] }
  else s

/-- The entry that runs on a unit. -/
def State.runningOn (s : State) (p unitId unit : Nat) : Option Running :=
  s.running.find? (fun r => r.part == p && r.unitId == unitId && r.unit == unit)

/-- ENTRY_COMPLETE (R55): the entry that runs on a unit ends, or the unit reaches END for UNIT 0xF. An engine's entry
does what it has still to do; a fault in that has ended it (R302). -/
def execEntryComplete (p : Fin 8) (unitId : Fin 519) (unit : BitVec 4) (s : State) :
    Host.Outcome State Fault Refusal :=
  if unit = 15 then .next (s.reachEnd p.val unitId.val)
  else
    let s := match (s.runningOn p.val unitId.val unit.toNat).bind (·.work) with
      | some w => s.workTo p.val unitId.val w.total
      | none => s
    match s.runningOn p.val unitId.val unit.toNat with
    | none => .next s
    | some r =>
      if s.unfinished r then .next s
      else
        let t := (s.finishEntry r).retry p.val unitId.val
        .next (if r.tiles.isNone then t else t.retryAll)

/-! ### Transfers -/

/-- LINE_ARRIVAL (R164, R218). -/
def execLineArrival (c : Fin 512) (x : Fin 6) (i : Nat) (errs : List (Fin 72 × Byte)) (s : State) :
    Host.Outcome State Fault Refusal :=
  .next ((s.lineArrives c.val x.val i errs).retryCluster c.val)

/-- TRANSFER_COMPLETE (R218): a transfer whose lines have all moved ends. -/
def execTransferComplete (c : Fin 512) (x : Fin 6) (s : State) : Host.Outcome State Fault Refusal :=
  match s.transfer? c.val x.val with
  | none => .next s
  | some t => .next (if t.over then (s.endTransfer t).retryCluster c.val else s)

/-! ### Answers (R245, R247) -/

/-- METER_WINDOW (R66): the time of a new window is reached, every meter moves on to it, packets and requests that
waited for their slice go on (R244, R250), a load that runs is done (R319), and units whose stall has lost its cause
during a calm window run on (R55). -/
def execMeterWindow (t : Nat) (s : State) : Host.Outcome State Fault Refusal :=
  let s := (List.range 16).foldl State.pump (s.tickWork t).rollMeters
  .next (parts8.foldl State.runLoad s.retryArrivals).retryAll

/-- READ_RESPONSE (R245). -/
def execReadResponse (n : Fin 16) (k : Packet) (s : State) : Host.Outcome State Fault Refusal :=
  .next (s.arrive n.val 2 k (fun h s => (s.takeResponse n.val k.data h).retryAll))

/-- FAILURE_NOTICE (R247). -/
def execFailureNotice (n : Fin 16) (k : Packet) (s : State) : Host.Outcome State Fault Refusal :=
  .next (s.arrive n.val 8 k (fun h s => (s.takeFailure n.val h).retryAll))

end Sys2Proof.Machine
end

