-- ==== Sys2Proof/Machine/Submit.lean ====
section
/-! DEFINITION. The end of a channel's copy (R386, R392, R403): the result of COPY, and the submission of a
job with its settings and bindings. -/

namespace Sys2Proof.Machine

/-- The settings of a job image, applied in order as writes of the job services: the first refusal ends them
and latches the job's fence (R403). -/
def State.applySettings (s : State) (w : Around) (l : List Setting) : Reason × State :=
  l.foldl (fun (acc : Reason × State) x =>
    if acc.1 ≠ 0 then acc else acc.2.access .jobServices x.index.toNat x.sub.toNat x.value w) (0, s)

/-- The bindings of a job image, in order (R57, R58). -/
def State.applyPlans (s : State) (p : Nat) (l : List PlanIn) : Reason × State :=
  l.foldl (fun (acc : Reason × State) b => if acc.1 ≠ 0 then acc else acc.2.bindPlan p b) (0, s)

/-- A submitted job (R403): the context enters state 2, and the image's settings and bindings are applied;
the first step is due (log entry 29). -/
def State.jobSubmitted (s : State) (p x : Nat) (b : JobImage) (w : Around) : State :=
  let ctx := fld x 0 32
  let fence := fld x 160 32
  let s := { s with objs := { s.objs with contexts := s.objs.contexts.map (fun (c : Ctx) =>
    if c.handle = ctx then
      { c with submitted := true, jobId := s.jobIdOf p, capGen := fld x 128 32, jobFence := fence } else c) } }
  let j : Job := { Job.fresh with submitted := true, context := ctx, ingestFence := b.ingest.toNat
                                  ingestStep := b.perStep, snapTime := s.now }
  let s := (s.setJob p j).event 0x0A000004 0 p
  let r : Reason × State := s.applySettings w b.settings
  let r : Reason × State := if r.1 = 0 then r.2.applyPlans p b.plans else r
  let s := r.2.latch fence r.1 false
  s.setGrid p { s.grid p with stepDue := true }

/-- Whether a remote read or write of the channel's copy is still outstanding (R245). -/
def State.copyPending (s : State) (ch : Handle) : Bool :=
  s.fabric.remotes.any (fun r => match r.sink with
    | .bytes c _ _ _ => c == ch
    | .ack c => c == ch
    | _ => false)

/-- Queues that hold a command back are taken up again once a channel is free. -/
def State.retryQueues (s : State) (p : Nat) : State :=
  (s.objs.queues.filter (fun q => hPart q.handle == p && q.waiting.isSome)).foldl
    (fun t q => t.retryQueue p (hIndex q.handle)) s

/-- The copy of channel `c` ends, with the command that waited for it. -/
def State.copyDone (s : State) (c : Channel) (q : Handle) (i : Instr) (w : Around) : State :=
  let p := hPart c.handle
  let s := s.setChannel { c with busy := none, reason := 0 }
  let s := match i with
    | .submitJob _ _ _ e b => if c.reason = 0 then s.jobSubmitted p (params e.toNat) b w else s
    | _ => s
  let s := s.finishCmd (if q = 0 then .jobServices else .driver) p (hIndex q) c.reason 0
  s.sweep.retryQueues p

/-- CHANNEL_COPY_DONE (R392): the copy of the channel in slot `n` of the table has moved its last byte. -/
def execChannelCopyDone (n : Fin 32) (w : Around) (s : State) : Host.Outcome State Fault Refusal :=
  match s.objs.channels.find? (fun c => hIndex c.handle == n.val) with
  | none => .next s
  | some c =>
    match c.busy with
    | none => .next s
    | some b => .next (if s.copyPending c.handle then s else s.copyDone c b.1 b.2 w)

end Sys2Proof.Machine
end

