-- ==== Sys2Proof/Machine/Dispatch.lean ====
section
/-! DEFINITION. The meaning of every command, arm by arm. -/

namespace Sys2Proof.Machine

def exec (i : Instr) (s : State) : Host.Outcome State Fault Refusal :=
  match i with
  | .coldStart b => Sys2Proof.Machine.execColdStart b s
  | .clusterGroupPowerUp g r => Sys2Proof.Machine.execClusterGroupPowerUp g r s
  | .slotIdRead pins => Sys2Proof.Machine.execSlotIdRead pins s
  | .slotIdChange pins => Sys2Proof.Machine.execSlotIdChange pins s
  | .pwrGoodFall => Sys2Proof.Machine.execPwrGoodFall s
  | .inputSwitchOpen high => Sys2Proof.Machine.execInputSwitchOpen high s
  | .perstAssert b => Sys2Proof.Machine.execPerstAssert b s
  | .perstRelease refclk b => Sys2Proof.Machine.execPerstRelease refclk b s
  | .moduleReset r b => Sys2Proof.Machine.execModuleReset r b s
  | .vfFlr p => Sys2Proof.Machine.execVfFlr p s
  | .pfFlr => Sys2Proof.Machine.execPfFlr s
  | .memoryUnitReady u failed => Sys2Proof.Machine.execMemoryUnitReady u failed s
  | .memoryReadyTimeout u => Sys2Proof.Machine.execMemoryReadyTimeout u s
  | .gridPoint p t => Sys2Proof.Machine.execGridPoint p t s
  | .calmWindow p t cal => Sys2Proof.Machine.execCalmWindow p t cal s
  | .slipCheckPoint p t => Sys2Proof.Machine.execSlipCheckPoint p t s
  | .meterWindow t => Sys2Proof.Machine.execMeterWindow t s
  | .entryComplete p unitId unit => Sys2Proof.Machine.execEntryComplete p unitId unit s
  | .planBinding p b => Sys2Proof.Machine.execPlanBinding p b s
  | .preemptRequest p resumeAt => Sys2Proof.Machine.execPreemptRequest p resumeAt s
  | .gustEnable r p => Sys2Proof.Machine.execGustEnable r p s
  | .gustDisable r p => Sys2Proof.Machine.execGustDisable r p s
  | .beaconRootWrite r v => Sys2Proof.Machine.execBeaconRootWrite r v s
  | .beaconSend t => Sys2Proof.Machine.execBeaconSend t s
  | .beacon n m t => Sys2Proof.Machine.execBeacon n m t s
  | .beaconLoss t => Sys2Proof.Machine.execBeaconLoss t s
  | .echoTimer t => Sys2Proof.Machine.execEchoTimer t s
  | .echoRequest n m t => Sys2Proof.Machine.execEchoRequest n m t s
  | .echoResponse n m t => Sys2Proof.Machine.execEchoResponse n m t s
  | .slipNotice n m t => Sys2Proof.Machine.execSlipNotice n m t s
  | .abortNotice n m t => Sys2Proof.Machine.execAbortNotice n m t s
  | .pauseNotice n m t => Sys2Proof.Machine.execPauseNotice n m t s
  | .multiplyAdd c a d => Sys2Proof.Machine.execMultiplyAdd c a d s
  | .sumOfAbsoluteDifferences c a d => Sys2Proof.Machine.execSumOfAbsoluteDifferences c a d s
  | .sumOfSquaredDifferences c a d => Sys2Proof.Machine.execSumOfSquaredDifferences c a d s
  | .maxPlus c a d => Sys2Proof.Machine.execMaxPlus c a d s
  | .minPlus c a d => Sys2Proof.Machine.execMinPlus c a d s
  | .compareAndCount c a d => Sys2Proof.Machine.execCompareAndCount c a d s
  | .columnSelfCheckFail c col => Sys2Proof.Machine.execColumnSelfCheckFail c col s
  | .vecCopy c a d => Sys2Proof.Machine.execVecCopy c a d s
  | .addV c a d => Sys2Proof.Machine.execAddV c a d s
  | .subV c a d => Sys2Proof.Machine.execSubV c a d s
  | .mulV c a d => Sys2Proof.Machine.execMulV c a d s
  | .fmaV c a d => Sys2Proof.Machine.execFmaV c a d s
  | .minV c a d => Sys2Proof.Machine.execMinV c a d s
  | .maxV c a d => Sys2Proof.Machine.execMaxV c a d s
  | .absV c a d => Sys2Proof.Machine.execAbsV c a d s
  | .negV c a d => Sys2Proof.Machine.execNegV c a d s
  | .mulImm c a d => Sys2Proof.Machine.execMulImm c a d s
  | .addImm c a d => Sys2Proof.Machine.execAddImm c a d s
  | .selectV c a d => Sys2Proof.Machine.execSelectV c a d s
  | .maskCausal c a d => Sys2Proof.Machine.execMaskCausal c a d s
  | .dropout c a d => Sys2Proof.Machine.execDropout c a d s
  | .rowMax c a d => Sys2Proof.Machine.execRowMax c a d s
  | .rowSum c a d => Sys2Proof.Machine.execRowSum c a d s
  | .rowSumsq c a d => Sys2Proof.Machine.execRowSumsq c a d s
  | .rowCount c a d => Sys2Proof.Machine.execRowCount c a d s
  | .subRow c a d => Sys2Proof.Machine.execSubRow c a d s
  | .divRow c a d => Sys2Proof.Machine.execDivRow c a d s
  | .centerRow c a d => Sys2Proof.Machine.execCenterRow c a d s
  | .normRow c a d => Sys2Proof.Machine.execNormRow c a d s
  | .sfuEvaluate c a d => Sys2Proof.Machine.execSfuEvaluate c a d s
  | .sfuLoadTable c a d => Sys2Proof.Machine.execSfuLoadTable c a d s
  | .sample p u a d => Sys2Proof.Machine.execSample p u a d s
  | .samplerEnable r v => Sys2Proof.Machine.execSamplerEnable r v s
  | .jobSecret p src => Sys2Proof.Machine.execJobSecret p src s
  | .updraft c x a d => Sys2Proof.Machine.execUpdraft c x a d s
  | .downdraft c x a d => Sys2Proof.Machine.execDowndraft c x a d s
  | .streamRequest c x => Sys2Proof.Machine.execStreamRequest c x s
  | .lineArrival c x k0 errs => Sys2Proof.Machine.execLineArrival c x k0 errs s
  | .transferComplete c x => Sys2Proof.Machine.execTransferComplete c x s
  | .shareEnable r p => Sys2Proof.Machine.execShareEnable r p s
  | .sensorSample t v => Sys2Proof.Machine.execSensorSample t v s
  | .mapOutEnable r => Sys2Proof.Machine.execMapOutEnable r s
  | .farMapOutEnable r => Sys2Proof.Machine.execFarMapOutEnable r s
  | .rangeEnable r e => Sys2Proof.Machine.execRangeEnable r e s
  | .rangeDisable r e => Sys2Proof.Machine.execRangeDisable r e s
  | .compatPartitions r v => Sys2Proof.Machine.execCompatPartitions r v s
  | .compatKey r p k0 h => Sys2Proof.Machine.execCompatKey r p k0 h s
  | .scrubComplete u => Sys2Proof.Machine.execScrubComplete u s
  | .tamperBreach => Sys2Proof.Machine.execTamperBreach s
  | .portEnable r n prsntHigh => Sys2Proof.Machine.execPortEnable r n prsntHigh s
  | .portDisable r n => Sys2Proof.Machine.execPortDisable r n s
  | .portBringupStep n peer => Sys2Proof.Machine.execPortBringupStep n peer s
  | .portStepTimeout n => Sys2Proof.Machine.execPortStepTimeout n s
  | .laneFail n => Sys2Proof.Machine.execLaneFail n s
  | .frameLockLost n => Sys2Proof.Machine.execFrameLockLost n s
  | .frameIn n f => Sys2Proof.Machine.execFrameIn n f s
  | .rekey n => Sys2Proof.Machine.execRekey n s
  | .moduleId r v => Sys2Proof.Machine.execModuleId r v s
  | .fwdEnable r p => Sys2Proof.Machine.execFwdEnable r p s
  | .readRequest n k => Sys2Proof.Machine.execReadRequest n k s
  | .readResponse n k => Sys2Proof.Machine.execReadResponse n k s
  | .writeAcknowledged n k => Sys2Proof.Machine.execWriteAcknowledged n k s
  | .postedWrite n k => Sys2Proof.Machine.execPostedWrite n k s
  | .writeAcknowledgement n k => Sys2Proof.Machine.execWriteAcknowledgement n k s
  | .fetchAdd n k => Sys2Proof.Machine.execFetchAdd n k s
  | .fetchMin n k => Sys2Proof.Machine.execFetchMin n k s
  | .fetchMax n k => Sys2Proof.Machine.execFetchMax n k s
  | .fetchOr n k => Sys2Proof.Machine.execFetchOr n k s
  | .fetchAnd n k => Sys2Proof.Machine.execFetchAnd n k s
  | .swap n k => Sys2Proof.Machine.execSwap n k s
  | .cmpSwap n k => Sys2Proof.Machine.execCmpSwap n k s
  | .atomicResponse n k => Sys2Proof.Machine.execAtomicResponse n k s
  | .failureNotice n k => Sys2Proof.Machine.execFailureNotice n k s
  | .remoteTimeout tag t => Sys2Proof.Machine.execRemoteTimeout tag t s
  | .lendRequest n q => Sys2Proof.Machine.execLendRequest n q s
  | .lendEnd e => Sys2Proof.Machine.execLendEnd e s
  | .collectiveData n k => Sys2Proof.Machine.execCollectiveData n k s
  | .tileSink p a d => Sys2Proof.Machine.execTileSink p a d s
  | .localSum p a d => Sys2Proof.Machine.execLocalSum p a d s
  | .reduceScatter p a d => Sys2Proof.Machine.execReduceScatter p a d s
  | .allGather p a d => Sys2Proof.Machine.execAllGather p a d s
  | .broadcast p a d => Sys2Proof.Machine.execBroadcast p a d s
  | .adamw p a d => Sys2Proof.Machine.execAdamw p a d s
  | .initW p a d => Sys2Proof.Machine.execInitW p a d s
  | .fold p a d => Sys2Proof.Machine.execFold p a d s
  | .closeStep p a d => Sys2Proof.Machine.execCloseStep p a d s
  | .stepEnd p a d => Sys2Proof.Machine.execStepEnd p a d s
  | .updEnable r p => Sys2Proof.Machine.execUpdEnable r p s
  | .ckptCopy p a d => Sys2Proof.Machine.execCkptCopy p a d s
  | .restore p a d => Sys2Proof.Machine.execRestore p a d s
  | .peerCopy p a d => Sys2Proof.Machine.execPeerCopy p a d s
  | .ckptStepTrigger p => Sys2Proof.Machine.execCkptStepTrigger p s
  | .ckptPeriodTrigger p t => Sys2Proof.Machine.execCkptPeriodTrigger p t s
  | .ckptNow r p => Sys2Proof.Machine.execCkptNow r p s
  | .drainShard p shard => Sys2Proof.Machine.execDrainShard p shard s
  | .manifestWrite p => Sys2Proof.Machine.execManifestWrite p s
  | .ckptEnable r p => Sys2Proof.Machine.execCkptEnable r p s
  | .ckptLoad r p => Sys2Proof.Machine.execCkptLoad r p s
  | .livenessReport p l => Sys2Proof.Machine.execLivenessReport p l s
  | .shrinkWaitExpiry p t => Sys2Proof.Machine.execShrinkWaitExpiry p t s
  | .rejoin p rank module step told => Sys2Proof.Machine.execRejoin p rank module step told s
  | .buildEnable r p => Sys2Proof.Machine.execBuildEnable r p s
  | .cgCollapseDone g => Sys2Proof.Machine.execCgCollapseDone g s
  | .charter p doc => Sys2Proof.Machine.execCharter p doc s
  | .lockInterfaceRequest p => Sys2Proof.Machine.execLockInterfaceRequest p s
  | .getDeviceInterfaceReport p => Sys2Proof.Machine.execGetDeviceInterfaceReport p s
  | .startInterfaceRequest p => Sys2Proof.Machine.execStartInterfaceRequest p s
  | .stopInterfaceRequest p => Sys2Proof.Machine.execStopInterfaceRequest p s
  | .ideIntegrityFailure p => Sys2Proof.Machine.execIdeIntegrityFailure p s
  | .getVersion r msg => Sys2Proof.Machine.execGetVersion r msg s
  | .getCapabilities r msg => Sys2Proof.Machine.execGetCapabilities r msg s
  | .negotiateAlgorithms r msg => Sys2Proof.Machine.execNegotiateAlgorithms r msg s
  | .getDigests r msg => Sys2Proof.Machine.execGetDigests r msg s
  | .getCertificate r msg => Sys2Proof.Machine.execGetCertificate r msg s
  | .challenge r msg => Sys2Proof.Machine.execChallenge r msg s
  | .getMeasurements r msg => Sys2Proof.Machine.execGetMeasurements r msg s
  | .keyExchange r msg => Sys2Proof.Machine.execKeyExchange r msg s
  | .vendorDefinedRequest p msg => Sys2Proof.Machine.execVendorDefinedRequest p msg s
  | .teardown by_ p => Sys2Proof.Machine.execTeardown by_ p s
  | .forceOff r p => Sys2Proof.Machine.execForceOff r p s
  | .deferredRequestRelease b => Sys2Proof.Machine.execDeferredRequestRelease b s
  | .deferLimitExpiry t => Sys2Proof.Machine.execDeferLimitExpiry t s
  | .mirrorCheck t seen => Sys2Proof.Machine.execMirrorCheck t seen s
  | .generateKey r p attr => Sys2Proof.Machine.execGenerateKey r p attr s
  | .deriveKey r p parent attr label ctx => Sys2Proof.Machine.execDeriveKey r p parent attr label ctx s
  | .evictKey r p slot => Sys2Proof.Machine.execEvictKey r p slot s
  | .loadBlob r p blob => Sys2Proof.Machine.execLoadBlob r p blob s
  | .keyDestroy r p slot => Sys2Proof.Machine.execKeyDestroy r p slot s
  | .keyEnable r p => Sys2Proof.Machine.execKeyEnable r p s
  | .entropyHealthFail => Sys2Proof.Machine.execEntropyHealthFail s
  | .drbgReseed t => Sys2Proof.Machine.execDrbgReseed t s
  | .lcEnable r => Sys2Proof.Machine.execLcEnable r s
  | .recoveryBump r p => Sys2Proof.Machine.execRecoveryBump r p s
  | .doorbell p q v => Sys2Proof.Machine.execDoorbell p q v s
  | .createObj k0 p q e => Sys2Proof.Machine.execCreateObj k0 p q e s
  | .destroyObj k0 p q e => Sys2Proof.Machine.execDestroyObj k0 p q e s
  | .mapPages k0 p q e => Sys2Proof.Machine.execMapPages k0 p q e s
  | .unmapPages k0 p q e => Sys2Proof.Machine.execUnmapPages k0 p q e s
  | .signalFence k0 p q e => Sys2Proof.Machine.execSignalFence k0 p q e s
  | .submitJob k0 p q e b => Sys2Proof.Machine.execSubmitJob k0 p q e b s
  | .copyBytes k0 p q e => Sys2Proof.Machine.execCopyBytes k0 p q e s
  | .setJobFence k0 p q e => Sys2Proof.Machine.execSetJobFence k0 p q e s
  | .waitRelease p q => Sys2Proof.Machine.execWaitRelease p q s
  | .hostDmaTimeout p q => Sys2Proof.Machine.execHostDmaTimeout p q s
  | .accessErr f v => Sys2Proof.Machine.execAccessErr f v s
  | .mailboxGo v w => Sys2Proof.Machine.execMailboxGo v w s
  | .dictWrite r index sub data w => Sys2Proof.Machine.execDictWrite r index sub data w s
  | .lockRelease r index => Sys2Proof.Machine.execLockRelease r index s
  | .lockLeaseExpiry index t => Sys2Proof.Machine.execLockLeaseExpiry index t s
  | .expertUnlock r v => Sys2Proof.Machine.execExpertUnlock r v s
  | .expertLapse r t => Sys2Proof.Machine.execExpertLapse r t s
  | .funcEnable r v => Sys2Proof.Machine.execFuncEnable r v s
  | .usdoRequest node u w => Sys2Proof.Machine.execUsdoRequest node u w s
  | .usdoSegmentTimeout node t => Sys2Proof.Machine.execUsdoSegmentTimeout node t s
  | .nmtStart => Sys2Proof.Machine.execNmtStart s
  | .nmtStop => Sys2Proof.Machine.execNmtStop s
  | .nmtEnterPreOperational => Sys2Proof.Machine.execNmtEnterPreOperational s
  | .nmtResetNode => Sys2Proof.Machine.execNmtResetNode s
  | .nmtResetCommunication => Sys2Proof.Machine.execNmtResetCommunication s
  | .heartbeatSend t => Sys2Proof.Machine.execHeartbeatSend t s
  | .heartbeat node state vote t => Sys2Proof.Machine.execHeartbeat node state vote t s
  | .managerHeartbeatLoss node t => Sys2Proof.Machine.execManagerHeartbeatLoss node t s
  | .busOff => Sys2Proof.Machine.execBusOff s
  | .emcySend t => Sys2Proof.Machine.execEmcySend t s
  | .lullWindowEnd t => Sys2Proof.Machine.execLullWindowEnd t s
  | .wakeUpPattern t b => Sys2Proof.Machine.execWakeUpPattern t b s
  | .eventLogWrite => Sys2Proof.Machine.execEventLogWrite s
  | .logReadSeq r v => Sys2Proof.Machine.execLogReadSeq r v s
  | .powerSample t v => Sys2Proof.Machine.execPowerSample t v s
  | .squallEnd t => Sys2Proof.Machine.execSquallEnd t s
  | .doldrumsNow r => Sys2Proof.Machine.execDoldrumsNow r s
  | .wakeUp r b => Sys2Proof.Machine.execWakeUp r b s
  | .testEnable r => Sys2Proof.Machine.execTestEnable r s
  | .testStart t => Sys2Proof.Machine.execTestStart t s
  | .testComplete o => Sys2Proof.Machine.execTestComplete o s
  | .testQueueExpiry t => Sys2Proof.Machine.execTestQueueExpiry t s
  | .fwStageEnable r => Sys2Proof.Machine.execFwStageEnable r s
  | .fwChunk r data => Sys2Proof.Machine.execFwChunk r data s
  | .fwStageCommit r => Sys2Proof.Machine.execFwStageCommit r s
  | .fwActivate r => Sys2Proof.Machine.execFwActivate r s
  | .fwConfirm r => Sys2Proof.Machine.execFwConfirm r s
  | .flashEraseDone ok ms => Sys2Proof.Machine.execFlashEraseDone ok ms s
  | .pageProgramDone ok => Sys2Proof.Machine.execPageProgramDone ok s
  | .calibrationTaskDue c => Sys2Proof.Machine.execCalibrationTaskDue c s
  | .remask100MsMark t => Sys2Proof.Machine.execRemask100MsMark t s
  | .presentSetLapse node t => Sys2Proof.Machine.execPresentSetLapse node t s
  | .busOffRecovery => Sys2Proof.Machine.execBusOffRecovery s
  | .ideStreamKeyed p => Sys2Proof.Machine.execIdeStreamKeyed p s
  | .barRegisterAccess a w => Sys2Proof.Machine.execBarRegisterAccess a w s
  | .channelCopyDone n w => Sys2Proof.Machine.execChannelCopyDone n w s
  | .fuseBlowDone b => Sys2Proof.Machine.execFuseBlowDone b s

end Sys2Proof.Machine
end

