-- ==== Sys2Proof/Safety.lean ====
section
/-! DEFINITION. What counts as a good state, and when a dictionary access is let through, in the terms
the statements use. -/

namespace Sys2Proof.Machine

/-- Every memory is in its canonical form. -/
def State.MemOk (s : State) : Prop := s.mem.wf = true

/-- The state in which an access is checked: a node's frame is noted (R430), an unlock is renewed (R411). -/
def State.asked (s : State) (r : Requester) : State := (s.noteFrame r).touchExpert r

/-- The state in which the operation of a write acts that has been let through: the lock of the entry's
group is taken, or its lease refreshed (R418). -/
def State.granted (s : State) (r : Requester) (index sub : Nat) : State :=
  match lockGroup index sub with
  | none => s.asked r
  | some g => (s.asked r).takeLock r g

/-- The access is let through (R330, R334, R412, R418): it reaches the controller, passes the checks, and no
refusal is owed for a broken lock. -/
def State.grants (s : State) (r : Requester) (index sub len : Nat) : Bool :=
  s.reaches r && ((s.asked r).accessCheck r index sub (some len) == 0) &&
    (lockGroup index sub).all (fun g => !(s.asked r).owed.contains (g, reqCode r)) &&
    ((s.granted r index sub).stateGate r index sub == 0)

/-- What follows the operation of an accepted write: an enable releases the lock and holds its 1 (R410,
R415). -/
def State.settled (s : State) (index sub : Nat) (commits : Bool) : State :=
  match lockGroup index sub with
  | none => s
  | some g => if commits then (s.releaseLock g).holdEnable index sub else s

/-- A unit's plan comes to an entry of UNIT `unit` at descriptor address `a` (R54, R55): the plan runs, nothing of it
stalls, the entry is its next one, and its cycle is reached. -/
def State.comesTo (s : State) (p unitId unit a : Nat) : Bool :=
  s.issues p unitId && (s.stalledOf p unitId).isEmpty && s.due p unitId unit a

/-- A due entry of a unit issues now (R55): besides, the unit is free, and no line that the entry reads is pending. -/
def State.mayIssue (s : State) (p unitId unit a : Nat) (awaiting : Bool) : Bool :=
  s.comesTo p unitId unit a && !s.busy unitId unit && !awaiting

/-- The state in which an entry that is due has come to its unit: what it came late has counted (R55, R87). -/
def State.arrived (s : State) (p unitId : Nat) : State := s.lateFor p unitId (s.waited p unitId)

/-- The state in which an entry acts that issues: its plan has moved on to the next entry. -/
def State.issued (s : State) (p unitId : Nat) : State := (s.arrived p unitId).advance p unitId

/-- The header with which a packet that came in as one of `kind` acts (R242). -/
def packetHdr (kind : Nat) (k : Packet) : Hdr := asKind kind (unpackHdr k.header.toNat)

/-- A packet of `kind` that came in on port `n` is for this module, and is taken (R240, R242, R243): the port
is UP, its kind is no reserved one, and its data is what its length says. -/
def State.takesPacket (s : State) (n kind : Nat) (k : Packet) : Bool :=
  let h := packetHdr kind k
  s.reg (kPortState n) == 3 && !badPacket kind h k.data.length && h.addr / 2 ^ 50 == s.reg kModuleId

/-- The slice that meters a request for this module has room for it now, and nothing of its meter waits (R66, R250). -/
def State.admitsArrival (s : State) (w : Who) (h : Hdr) : Bool :=
  (s.arrivalKey w (localAddr h)).all (fun key => !s.arrivalWaits key &&
    (s.arrivalMeter key).admits (s.arrivalRate key) (arrivalCharge h.kind (localAddr h) (h.len + 1)))

/-- The state in which such a request is served: its bytes have counted in its slice. -/
def State.metered (s : State) (w : Who) (h : Hdr) : State :=
  match s.arrivalKey w (localAddr h) with
  | none => s
  | some key => s.chargeArrival key (arrivalCharge h.kind (localAddr h) (h.len + 1))

/-- Nothing of partition `p` is left (R345): no unit, key, object, range, port, plan, entry, transfer or request
of it, and its grid does not run. -/
def State.PartGone (s : State) (p : Nat) : Prop :=
  ((s.part p).state = stFree ∧ (s.part p).charter = none ∧ (s.part p).cgMap = 0 ∧ (s.part p).stackMap = 0 ∧
    (s.part p).fgMap = 0 ∧ (s.part p).portMap = 0) ∧
  ((s.part p).secret = none ∧ (s.part p).dataKeys = [] ∧ (s.part p).shares = [] ∧ (s.part p).ckptKeys = none ∧
    (s.part p).ideKeyed = false) ∧
  (s.grid p = Grid.idle ∧ s.reg (kGustEnable p) = 0) ∧ (∀ h ∈ s.handles, hPart h ≠ p) ∧
  (∀ i, (s.keySlot i).live = true → (s.keySlot i).owner ≠ p) ∧
  (∀ e < 64, s.reg (kRangeState e) ≠ 0 → s.reg (kOwner e) ≠ p) ∧ (∀ i < 256, s.reg (kCompatKey p i) = 0) ∧
  (∀ n < 16, s.reg (kPortOwner n) ≠ p) ∧
  (∀ r ∈ s.running, r.part ≠ p) ∧ (∀ r ∈ s.stalled, r.part ≠ p) ∧ (∀ t ∈ s.transfers, t.part ≠ p) ∧
  (∀ b ∈ s.bindings, b.part ≠ p) ∧ ∀ r ∈ s.fabric.remotes, r.part ≠ p

/-- The queue in slot `q` of partition `p` whose entry at HEAD can be taken up (R389, R391, R392): a live command
queue that is in no error, holds an entry that it can read, and does not wait for an earlier one. -/
def State.readyQueue (s : State) (p q : Nat) (x : Queue) : Prop :=
  (s.part p).state ≠ stTeardown ∧ s.queueAt p q = some x ∧ x.dying = false ∧ x.error = false ∧ x.shard = false ∧
    x.head ≠ x.tail ∧ x.waiting = none ∧ s.queueBusy x = false ∧ (s.entryAt p x).isSome = true

/-- What a start, a reset and a loss of power leave alike (R440, R443): no partition, object, lock, staged value,
key, accumulator or byte of RAM is left; the flash and the host's memory stand. -/
def State.emptied (s u : State) : Prop :=
  (∀ p, (u.part p).state = stFree) ∧ u.handles = [] ∧ u.locks = [] ∧ u.staged = [] ∧ u.held = [] ∧ u.mem.ram = [] ∧
    u.mem.host = s.mem.host ∧ u.mem.flash = s.mem.flash ∧ ∀ i, (u.keySlot i).live = false

/-- A start has ended (R441, R477): the module runs, or no slot has booted. -/
def State.started (u : State) : Prop := u.power.mode = .running ∨ u.power.mode = .bootFailed

/-- The registers that an event writes (R429, R432, R433). -/
def logKeys : List Nat := [kLogNewestSeq, kLogSuppressed, kEmcyDropped, kErrorRegister]

/-- The registers that a partition's change of state writes (R330, R347, R437). -/
def stateKeys (p : Nat) : List Nat := [kPartState p, kPartGen p] ++ logKeys

/-- Every register but those listed reads as before. -/
def SameRegs (s t : State) (ks : List Nat) : Prop := ∀ k, k ∉ ks → t.reg k = s.reg k

end Sys2Proof.Machine
end

