-- ==== Sys2Proof/Certificates/Slice0/Obligations.lean ====
section
/-! DEFINITION. The statements for the provers. -/

open Sys2Proof Sys2Proof.Machine

/-- One step takes the command at the front of the queue and runs it on the state with the queue's rest, whatever
command and state; on an empty queue the block idles (log entry 3, the model's choice). -/
def Obligations.StepRunsFrontCommand : Prop :=
  (∀ (c : Instr) (rest : List Instr) (s : State),
      s.pending = c :: rest → step s = exec c { s with pending := rest }) ∧
    ∀ s : State, s.pending = [] → step s = .next s

/-- Every command keeps every memory of the module in its canonical form (addresses strictly rising, no cell equal to
what an unlisted address reads as), from every state. -/
def Obligations.StepKeepsMemoriesCanonical : Prop :=
  ∀ s t : State, s.MemOk → step s = .next t → t.MemOk

/-- The memories of the state after reset are in their canonical form. After reset every entry of the object
dictionary reads its reset value, among them those that the spec gives for the gust settings (R48: 250, 2, 5, 6, 4),
the beacon root and its holdover limit (R75); nothing is staged, locked or unlocked. (Where the spec gives an entry no
default, its value is log entry 2's.) -/
def Obligations.ResetState : Prop :=
  (State.reset.MemOk) ∧
  ((∀ k, State.reset.reg k = keyReset k) ∧
    (∀ p : Fin 8, State.reset.reg (kGustPeriodUs p) = 250 ∧ State.reset.reg (kCalmLenUs p) = 2 ∧
      State.reset.reg (kSlipLeadUs p) = 5 ∧ State.reset.reg (kJobHops p) = 6 ∧ State.reset.reg (kSlipLimit p) = 4 ∧
      State.reset.reg (kGustEnable p) = 0) ∧
    State.reset.reg kBeaconRoot = 0xFFFF ∧ State.reset.reg kHoldoverLimitUs = 10000 ∧
    State.reset.staged = [] ∧ State.reset.locks = [] ∧ State.reset.expert = [])

/-- No command touches the queue: what waits behind it waits still, in order, after it acted. -/
def Obligations.CommandsLeaveTheQueue : Prop :=
  ∀ (c : Instr) (s t : State), exec c s = .next t → t.pending = s.pending

/-- Timing messages that go out (R259). BEACON_SEND: the root sends its domain time on every UP port, 100 µs after
its last beacon. ECHO_TIMER: 100 µs after the last ones, every UP port sends an echo request and its send time is
kept. ECHO_REQUEST: an UP port answers with its receive and send times. ECHO_RESPONSE: the one-way delay is half of
the round trip less the peer's share. Nothing but the clock and the fabric's state changes. Following the beacon
(R74, R75). A beacon of the root on the parent's port with an error of at most 40 ns writes the error, restarts the
loss clock, ends a holdover, and steers the clock by at most 2 ns. A module that was aligned enters holdover after
300 µs without one (and before HOLDOVER_LIMIT_US), which only the state register shows. BEACON_ROOT_WRITE names the
root: the module that is it is aligned, any other is free. -/
def Obligations.BeaconsEchoesAndFollowing : Prop :=
  ((∀ (t : Nat) (s : State), s.isRoot = true → s.fabric.align.lastBeacon + 100000 ≤ max s.now t →
    ∃ f, exec (.beaconSend t) s = .next { s with now := max s.now t, fabric := f } ∧
      f.align = { s.fabric.align with lastBeacon := max s.now t } ∧
      f.timing = s.fabric.timing ++ s.portsUp.map (fun n =>
        ⟨n, mkTiming 1 1 (s.reg kModuleId % 2 ^ 14) 0 (max s.now t) 0 0, []⟩)) ∧
  (∀ (t : Nat) (s : State), s.fabric.align.lastEcho + 100000 ≤ max s.now t →
    ∃ f, exec (.echoTimer t) s = .next { s with now := max s.now t, fabric := f } ∧
      f.align = { s.fabric.align with lastEcho := max s.now t } ∧
      (∀ n ∈ s.portsUp, (tabGet f.ports n Port.down).echoSent = some (max s.now t)) ∧
      f.timing = s.fabric.timing ++ s.portsUp.map (fun n =>
        ⟨n, mkTiming 2 0 (s.reg kModuleId % 2 ^ 14) 0 (max s.now t) 0 0, []⟩)) ∧
  (∀ (n : Fin 16) (m : BitVec 256) (t : Nat) (s : State),
    s.reg (kPortState n) = 3 → fld m.toNat 0 4 = 2 →
    ∃ f, exec (.echoRequest n m t) s = .next { s with now := max s.now t, fabric := f } ∧
      f = { s.fabric with timing := s.fabric.timing ++
        [⟨n, mkTiming 3 0 (s.reg kModuleId % 2 ^ 14) 0 (max s.now t) (max s.now t) 0, []⟩] }) ∧
  (∀ (n : Fin 16) (m : BitVec 256) (t sent : Nat) (s : State),
    s.reg (kPortState n) = 3 → fld m.toNat 0 4 = 3 → (s.port n).echoSent = some sent →
    ∃ f, exec (.echoResponse n m t) s = .next { s with now := max s.now t, fabric := f } ∧
      tabGet f.ports n Port.down = { s.port n with
        echoSent := none
        delay := (max s.now t - sent - (fld m.toNat 128 64 - fld m.toNat 64 64)) / 2 })) ∧
  ((∀ (n : Fin 16) (m : BitVec 256) (t : Nat) (s : State),
    let e : Int := (max s.now t : Nat) - ((fld m.toNat 64 64 + (s.port n).delay : Nat) : Int)
    s.reg (kPortState n) = 3 → fld m.toNat 0 4 = 1 → s.reg kBeaconRoot ≠ 0xFFFF →
    fld m.toNat 8 14 = s.reg kBeaconRoot → s.isRoot = false →
    ((s.tick t).chooseParent n (fld m.toNat 4 4)).1 = n.val → e.natAbs ≤ 40 → s.reg kAlignState = 2 →
    ∃ u, exec (.beacon n m t) s = .next u ∧ u.reg kAlignErrNs = unsgn 32 e ∧ u.reg kAlignState = 1 ∧
      u.reg kBeaconHops = fld m.toNat 4 4 ∧ u.fabric.align.lastSeen = max s.now t ∧
      u.now = (if 0 < e then max s.now t - min 2 e.natAbs else max s.now t + min 2 e.natAbs) ∧
      u.mem = s.mem ∧ SameRegs s u [kAlignErrNs, kAlignState, kBeaconHops, kBeaconParentPort]) ∧
  (∀ (t : Nat) (s : State), s.isRoot = false → s.reg kAlignState = 1 →
    s.fabric.align.lastSeen + 300000 ≤ max s.now t →
    max s.now t < s.fabric.align.lastSeen + s.reg kHoldoverLimitUs * 1000 →
    ∃ u, exec (.beaconLoss t) s = .next u ∧ u.reg kAlignState = 2 ∧ SameRegs s u [kAlignState] ∧
      u = { s with now := max s.now t, dict := u.dict }) ∧
  (∀ (r : Requester) (v : BitVec 16) (s : State), s.grants r 0x2001 0x01 2 = true →
    ∃ u, exec (.beaconRootWrite r v) s = .next u ∧ u.reg kBeaconRoot = v.toNat ∧
      u.reg kAlignState = (if v.toNat ≠ 0xFFFF ∧ v.toNat = (s.asked r).reg kModuleId then 1 else 0) ∧
      u.mem = s.mem))

/-- GUST_ENABLE and GUST_DISABLE (R49, R51). An enable that passes the checks commits the staged settings, starts a
grid whose point 0 is START_TIME_NS, and releases the lock; a refused one records its code and commits nothing. A
disable in a running gust reads back 0 at once, and the gust is to end at a pause point. -/
def Obligations.GustEnableAndDisable : Prop :=
  (∀ (r : Requester) (p : Fin 8) (s : State), s.grants r (0x2010 + p) 0x07 1 = true →
    (s.granted r (0x2010 + p) 0x07).gustCheck p = 0 →
    ∃ u, exec (.gustEnable r p) s = .next u ∧ u.reg (kGustEnable p) = 1 ∧ (u.grid p).on = true ∧
      (u.grid p).inGust = false ∧
      (u.grid p).nextPoint = (s.granted r (0x2010 + p) 0x07).stagedReg (kStartTimeNs p) % 2 ^ 64 ∧
      (∀ l ∈ u.locks, l.group ≠ 0x2010 + p.val) ∧ u.mem = s.mem) ∧
  (∀ (r : Requester) (p : Fin 8) (s : State), s.grants r (0x2010 + p) 0x07 1 = true →
    (s.granted r (0x2010 + p) 0x07).gustCheck p ≠ 0 →
    ∃ u, exec (.gustEnable r p) s = .next u ∧
      u.reg (kGustRefusal p) = (s.granted r (0x2010 + p) 0x07).gustCheck p ∧
      u.staged = s.staged ∧ u.grids = s.grids ∧ u.mem = s.mem) ∧
  (∀ (r : Requester) (p : Fin 8) (s : State), s.grants r (0x2010 + p) 0x07 1 = true →
    (s.granted r (0x2010 + p) 0x07).reg (kGustEnable p) = 1 → (s.grid p).inGust = true →
    (s.grid p).pauseAt = none →
    ∃ u, exec (.gustDisable r p) s = .next u ∧ u.reg (kGustEnable p) = 0 ∧ (u.grid p).stopping = true ∧
      (u.grid p).inGust = true ∧ (∃ a, (u.grid p).pauseAt = some a ∧ s.now + s.reg (kSlipLeadUs p) * 1000 ≤ a) ∧
      u.staged = s.staged ∧ u.mem = s.mem)

/-- Grid points (R44, R59, R69, R73, R78). Each clause is about the state `w` in which the work that time brings has
been done. A due point of a grid that runs, with nothing that holds, pauses or slips it, is a start boundary: the
gust number rises, the point is the gust's boundary and the next one is named a period on, every binding of the
partition is in force, and the gust runs unless its own start held it; with no stream that re-arms, and no job whose
step could be due, it runs. A held partition's point passes: the next one is named a period on, and no register
changes. A point that a slip notice named, with no gust running, is a slipped boundary: SLIP_COUNT rises and no gust
starts. -/
def Obligations.GridPoints : Prop :=
  (∀ (p : Fin 8) (t : Nat) (s : State), let w := s.tickWork t
    (w.part p).stopping = false → (w.grid p).on = true → (w.grid p).nextPoint ≤ t → (w.grid p).held = false →
    (w.grid p).paused = false → (w.grid p).slip = false → (w.grid p).pauseAt = none → (w.grid p).inGust = false →
    ∃ u, exec (.gridPoint p t) s = .next u ∧
      u.reg (kGustNumber p) = (w.reg (kGustNumber p) + 1) % 2 ^ keyBits (kGustNumber p) ∧
      (u.grid p).boundary = (w.grid p).nextPoint ∧
      (u.grid p).nextPoint = (w.grid p).nextPoint + w.reg (kGustPeriodUs p) * 1000 ∧
      (∀ b ∈ u.bindings, b.part = p.val → b.fresh = false) ∧
      ((u.grid p).inGust = true ∨ (u.grid p).held = true) ∧
      ((∀ x ∈ w.objs.streams, hPart x.handle = p.val → x.ring = false) → (w.job p).submitted = false →
        (u.grid p).inGust = true ∧ (u.grid p).held = false)) ∧
  (∀ (p : Fin 8) (t : Nat) (s : State), let w := s.tickWork t
    (w.part p).stopping = false → (w.grid p).on = true → (w.grid p).nextPoint ≤ t → (w.grid p).held = true →
    ∃ u, exec (.gridPoint p t) s = .next u ∧ SameRegs w u [] ∧
      u.grid p = { w.grid p with boundary := (w.grid p).nextPoint, slip := false
                                 unstarted := (w.grid p).unstarted ++ [(w.grid p).nextPoint]
                                 nextPoint := (w.grid p).nextPoint + w.reg (kGustPeriodUs p) * 1000 } ∧
      u = { w with grids := u.grids }) ∧
  (∀ (p : Fin 8) (t : Nat) (s : State), let w := s.tickWork t
    (w.part p).stopping = false → (w.grid p).on = true → (w.grid p).nextPoint ≤ t → (w.grid p).held = false →
    (w.grid p).paused = false → (w.grid p).slip = true → (w.grid p).inGust = false →
    ∃ u, exec (.gridPoint p t) s = .next u ∧ u.reg (kSlipCount p) = (w.reg (kSlipCount p) + 1) % 2 ^ 32 ∧
      (u.grid p).inGust = false ∧ (u.grid p).slip = false ∧
      (u.grid p).nextPoint = (w.grid p).nextPoint + w.reg (kGustPeriodUs p) * 1000 ∧
      SameRegs w u [kSlipCount p] ∧ u = { w with dict := u.dict, grids := u.grids }) ∧
  ∀ (t : Nat) (s : State), (∀ r ∈ s.running, r.work = none) → s.enc.limitHit = [] →
    s.tickWork t = { s with now := max s.now t }

/-- The clock's other points (R73, R77, R83, R365). Each clause is about the state `w` in which the work that time
brings has been done. SLIP_CHECK_POINT: a module short of END marks its next grid point and sends one slip notice on
every UP port of the partition. REMASK_100_MS_MARK: with no grid running the mark itself re-masks. CALM_WINDOW: the
window suspends every transfer of the partition. PREEMPT_REQUEST: a running gust is to end at the first grid point at
least SLIP_LEAD_US later, and a paused partition is told where it resumes. The notices of a job (R78, R79, R81, R83,
R260), each on an UP port of the job's partition and not seen before: a slip notice in time slips the point it names,
one after a start at the point that it names is a fault with 0x1604; an abort notice holds a RUNNING partition; a pause
notice names the pause point. -/
def Obligations.CheckPointsAndNotices : Prop :=
  ((∀ (p : Fin 8) (t : Nat) (s : State), let w := s.tickWork t
    (w.grid p).inGust = true → (w.grid p).nextPoint ≤ w.now + w.reg (kSlipLeadUs p) * 1000 →
    w.now ≤ (w.grid p).nextPoint → w.short p = true →
    let m := mkTiming 4 1 (w.reg kModuleId % 2 ^ 14) (w.jobIdOf p) (w.grid p).nextPoint 0 0
    w.fabric.seen.contains (ownNotice p m) = false →
    ∃ u, exec (.slipCheckPoint p t) s = .next u ∧ u.grid p = { w.grid p with slip := true } ∧
      u.fabric.timing = w.fabric.timing ++ (w.upPorts p).map (fun n => ⟨n, m, []⟩) ∧
      SameRegs w u logKeys ∧ u = { w with dict := u.dict, mgmt := u.mgmt, grids := u.grids, fabric := u.fabric }) ∧
  (∀ (t : Nat) (s : State), let w := s.tickWork t
    (∀ p ∈ parts8, (w.grid p).on = false) →
    ∃ u, exec (.remask100MsMark t) s = .next u ∧ u.sec.lastMask = max w.sec.lastMask (w.now / 100000000) ∧
      u = { w with sec := { w.sec with lastMask := u.sec.lastMask } }) ∧
  (∀ (p : Fin 8) (t : Nat) (cal : List CalRun) (s : State), (s.tickWork t).calm p = true →
    ∃ u, exec (.calmWindow p t cal) s = .next u ∧
      ∀ x ∈ u.transfers, x.part = p.val → x.suspended = true) ∧
  (∀ (p : Fin 8) (q : Option Nat) (s : State), (s.grid p).paused = false → (s.grid p).inGust = true →
    (s.grid p).pauseAt = none →
    ∃ u, exec (.preemptRequest p q) s = .next u ∧ (u.grid p).pauseAt = some (s.pausePoint p) ∧
      s.now + s.reg (kSlipLeadUs p) * 1000 ≤ s.pausePoint p ∧ (u.grid p).inGust = true ∧ SameRegs s u []) ∧
  (∀ (p : Fin 8) (t : Nat) (s : State), (s.grid p).paused = true → s.futurePoint p t = true →
    ∃ u, exec (.preemptRequest p (some t)) s = .next u ∧ u.grid p = { s.grid p with resumeAt := some t } ∧
      u = { s with grids := u.grids })) ∧
  (∀ (n : Fin 16) (m : BitVec 256) (t : Nat) (p : Nat) (s : State), let w := s.tickWork t
    w.jobPart m.toNat = some p → w.reg (kPortState n) = 3 → w.reg (kPortOwner n) = p →
    w.fabric.seen.contains (noticeId m.toNat) = false →
    (fld m.toNat 0 4 = 4 → (w.grid p).on = true → fld m.toNat 64 64 = (w.grid p).nextPoint →
      w.now ≤ (w.grid p).nextPoint →
      ∃ u, exec (.slipNotice n m t) s = .next u ∧ u.grid p = { w.grid p with slip := true } ∧ SameRegs w u []) ∧
    (fld m.toNat 0 4 = 4 → w.startedAt p (fld m.toNat 64 64) = true → fld m.toNat 64 64 ≠ (w.grid p).nextPoint →
      (w.part p).state = stRunning →
      ∃ u, exec (.slipNotice n m t) s = .next u ∧ (u.part p).state = stHeld ∧ (u.grid p).inGust = false ∧
        (u.grid p).held = true) ∧
    (fld m.toNat 0 4 = 5 → (w.part p).state = stRunning →
      ∃ u, exec (.abortNotice n m t) s = .next u ∧ (u.part p).state = stHeld ∧ (u.grid p).inGust = false ∧
        (u.grid p).held = true ∧ u.mem = w.mem) ∧
    (fld m.toNat 0 4 = 6 → (w.grid p).inGust = true →
      ∃ u, exec (.pauseNotice n m t) s = .next u ∧ SameRegs w u [] ∧
        u.grid p = { w.grid p with pauseAt := some (match (w.grid p).pauseAt with
          | some a => min (fld m.toNat 64 64) a
          | none => fld m.toNat 64 64) }))

/-- PLAN_BINDING (R58, R59). A binding that passes every check is added, to take effect at the next start boundary
while the grid runs; one that fails is not, and its code stands in GUST_REFUSAL. Memory and every other part of the
machine stay. -/
def Obligations.PlanBindings : Prop :=
  ∀ (p : Fin 8) (b : PlanIn) (s : State),
    let r := s.bindCheck p b.binding.toNat b.header.toNat (b.entries.map BitVec.toNat)
    ∃ u, exec (.planBinding p b) s = .next u ∧ u = { s with dict := u.dict, bindings := u.bindings } ∧
      SameRegs s u [kGustRefusal p, kFFloorMhz p] ∧
      (r ≠ 0 → u.bindings = s.bindings ∧ u.reg (kGustRefusal p) = r) ∧
      (r = 0 → ∃ x : Binding, u.bindings = s.bindings ++ [x] ∧ x.part = p.val ∧
        x.unitId = fld b.binding.toNat 0 10 ∧ x.kind = fld b.binding.toNat 10 4 ∧
        x.fPlan = fld b.header.toNat 32 16 ∧ x.endCycle = fld b.header.toNat 160 32 ∧
        x.entries = b.entries.map BitVec.toNat ∧ x.fresh = (s.grid p).on)

/-- The calm windows of a gust (R46). N_CALM is the period in milliseconds rounded up, and a time lies in a calm
window of a running grid exactly when it lies in window k, which begins k milliseconds after the boundary and lasts
CALM_LEN_US, for some k below N_CALM. (CALM_LEN_US is 2, 4 or 8 by R49.) -/
def Obligations.CalmWindowTimes : Prop :=
  (∀ period : Nat, period ≤ nCalm period * 1000 ∧ (0 < period → (nCalm period - 1) * 1000 < period)) ∧
  ∀ (s : State) (p : Nat), (s.grid p).on = true → s.reg (kCalmLenUs p) ≤ 1000 →
    (s.calm p = true ↔ ∃ k < nCalm (s.reg (kGustPeriodUs p)), (s.grid p).boundary + k * 1000000 ≤ s.now ∧
      s.now < (s.grid p).boundary + k * 1000000 + s.reg (kCalmLenUs p) * 1000)

/-- A slip notice that arrives after its grid point, at a module that has already started the gust, is a fault at that
module under R81 with reason code 0x1604 (R79): the partition is held and no longer in a gust, no entry of it runs,
every job fence that had no error latches the code and keeps its value, and an abort notice with the code leaves on
every port of the partition that is up. -/
def Obligations.LateSlipNoticeFaults : Prop :=
  ∀ (n : Fin 16) (m : BitVec 256) (t p : Nat) (s : State), let w := s.tickWork t
    w.jobPart m.toNat = some p → w.reg (kPortState n) = 3 → w.reg (kPortOwner n) = p →
    w.fabric.seen.contains (noticeId m.toNat) = false → fld m.toNat 0 4 = 4 →
    w.startedAt p (fld m.toNat 64 64) = true → fld m.toNat 64 64 ≠ (w.grid p).nextPoint →
    (w.part p).state = stRunning →
    ∃ u, exec (.slipNotice n m t) s = .next u ∧ (u.part p).state = stHeld ∧ (u.grid p).inGust = false ∧
      (u.grid p).held = true ∧ (∀ r ∈ u.running, r.part ≠ p) ∧
      (∀ h ∈ w.jobFences p, ∀ f, w.fence? h = some f → f.err = false →
        ∃ g, u.fence? h = some g ∧ g.err = true ∧ g.reason = 0x1604 ∧ g.value = f.value) ∧
      ∀ k ∈ w.upPorts p, ∃ x ∈ u.fabric.timing, x.port = k ∧ fld x.header 0 4 = 5 ∧ fld x.header 192 16 = 0x1604

/-- UPDRAFT and DOWNDRAFT entries (R55, R87, R215, R216). Where the unit's plan comes to the entry, its context is free
and nothing that it reads is pending, a descriptor that passes every check becomes the context's transfer, with nothing
requested or landed. While the context is busy the entry stalls behind it. The state in which an entry acts differs from
the one that it came to in the unit's place in its plan, which is the next entry, and in what the descriptor came late:
those cycles have counted. -/
def Obligations.TransferEntries : Prop :=
  (∀ (c : Fin 512) (x : Fin 4) (a : BitVec 64) (d : Desc) (p : Nat) (st : Stream) (s : State),
    s.clusterPart c = some p → s.mayIssue p c (3 + x) a.toNat (s.xferAwaits p (xferDesc d.toNat)) = true →
    let g := s.issued p c
    g.xferCheck p c x a.toNat (xferDesc d.toNat) = 0 → g.stream? (xferDesc d.toNat).stream = some st →
    (xferDesc d.toNat).total ≠ 0 →
    exec (.updraft c x a d) s = .next { g with transfers := g.transfers ++
      [⟨p, c, x, st.handle, st.fence, d.toNat, st.base, st.memobj, 0, 0, [], [], false, false, false, s.now⟩] }) ∧
  (∀ (c : Fin 512) (x : Fin 2) (a : BitVec 64) (d : Desc) (p : Nat) (st : Stream) (s : State),
    s.clusterPart c = some p → s.mayIssue p c (7 + x) a.toNat false = true →
    let g := s.issued p c
    g.xferCheck p c (4 + x) a.toNat (xferDesc d.toNat) = 0 → g.stream? (xferDesc d.toNat).stream = some st →
    (xferDesc d.toNat).total ≠ 0 →
    exec (.downdraft c x a d) s = .next { g with transfers := g.transfers ++
      [⟨p, c, 4 + x, st.handle, st.fence, d.toNat, st.base, st.memobj, 0, 0, [], [], false, false, false, s.now⟩] }) ∧
  (∀ (c : Fin 512) (x : Fin 4) (a : BitVec 64) (d : Desc) (p : Nat) (s : State),
    s.clusterPart c = some p → s.comesTo p c (3 + x) a.toNat = true → s.busy c (3 + x) = true →
    exec (.updraft c x a d) s = .next ((s.arrived p c).stall p c (3 + x) (.updraft c x a d))) ∧
  (∀ (c : Fin 512) (x : Fin 2) (a : BitVec 64) (d : Desc) (p : Nat) (s : State),
    s.clusterPart c = some p → s.comesTo p c (7 + x) a.toNat = true → s.busy c (7 + x) = true →
    exec (.downdraft c x a d) s = .next ((s.arrived p c).stall p c (7 + x) (.downdraft c x a d))) ∧
  ∀ (p : Fin 8) (unitId : Nat) (s : State),
    let n := s.waited p unitId * s.fCore p / 1000
    let g := s.issued p unitId
    g = { s with dict := g.dict, mgmt := g.mgmt, grids := g.grids } ∧
      (g.planAt p unitId).1 = (s.planAt p unitId).1 + 1 ∧ (n = 0 → SameRegs s g []) ∧
      (n ≠ 0 → g.reg (kLateCycles p) = (s.reg (kLateCycles p) + n) % 2 ^ 64 ∧
        SameRegs s g (kLateCycles p :: logKeys))

/-- SHARE_ENABLE (R65, R230) and METER_WINDOW (R66). Shares that sum to 32, within their ranges, on a partition whose
grid does not run, are in force together and the lock is released; a bad set changes no share. Where nothing waits for
a window, a new one moves time and the meters on: a class counts from 0 in it, and what it had used beyond its slice is
carried on; one already counted in that window stands. -/
def Obligations.SharesAndMeterWindows : Prop :=
  (∀ (r : Requester) (p : Fin 8) (s : State), s.grants r (0x5010 + p) 0x04 1 = true →
    let g := s.granted r (0x5010 + p) 0x04
    let a := g.stagedReg (kReadShare p)
    let b := g.stagedReg (kWriteShare p)
    let c := g.stagedReg (kRemoteShare p)
    1 ≤ a → a ≤ 30 → 1 ≤ b → b ≤ 30 → c ≤ 30 → a + b + c = 32 → g.reg (kGustEnable p) ≠ 1 →
    ∃ u, exec (.shareEnable r p) s = .next u ∧ u.reg (kReadShare p) = a ∧ u.reg (kWriteShare p) = b ∧
      u.reg (kRemoteShare p) = c ∧ (∀ l ∈ u.locks, l.group ≠ 0x5010 + p.val) ∧ u.mem = s.mem) ∧
  (∀ (r : Requester) (p : Fin 8) (s : State), s.grants r (0x5010 + p) 0x04 1 = true →
    let g := s.granted r (0x5010 + p) 0x04
    g.stagedReg (kReadShare p) + g.stagedReg (kWriteShare p) + g.stagedReg (kRemoteShare p) ≠ 32 →
    ∃ u, exec (.shareEnable r p) s = .next u ∧ u.reg (kShareRefusal p) ≠ 0 ∧
      u.reg (kReadShare p) = s.reg (kReadShare p) ∧ u.reg (kWriteShare p) = s.reg (kWriteShare p) ∧
      u.reg (kRemoteShare p) = s.reg (kRemoteShare p)) ∧
  ∀ (t : Nat) (s : State), (∀ r ∈ s.running, r.work = none) → s.enc.limitHit = [] → s.stalled = [] →
    (∀ n < 16, (s.port n).waiting = []) → s.fabric.arrivals = [] → (∀ p ∈ parts8, (s.job p).loading = false) →
    ∃ u, exec (.meterWindow t) s = .next u ∧ u = { s with now := max s.now t, fabric := u.fabric } ∧
      ∀ k, (s.fabric.meters.classes.map (·.1)).contains k = true →
        let m := tabGet s.fabric.meters.classes k ⟨0, 0, 0⟩
        let w := ({ s with now := max s.now t } : State).window (k % 8)
        tabGet u.fabric.meters.classes k ⟨0, 0, 0⟩ =
          if m.window = w then m
          else ⟨w, 0, m.carry + m.charge - (w - m.window) * s.slice (k % 8) (k / 8)⟩

/-- Requests, arrivals and the end of a transfer (R164, R218, R220, R221, R224). A downdraft's line beyond its
object latches 0x3002, counts one buffer overrun, and the transfer goes on; an admitted request of local lines moves
the transfer on by its lines and puts them under way. A line that arrives, with the wrong symbols that it is found
to bear, is in its cell line as the read gives it, with its poison, and counts as landed (where no compute entry
writes that cell line in the same cycle, R88). A transfer whose lines have all moved is over: it is gone, and its
fence has advanced by 1 where its descriptor asks for it. -/
def Obligations.TransferProgress : Prop :=
  (∀ (c : Fin 512) (x : Fin 6) (t : Transfer) (s : State), s.transfer? c x = some t →
    t.next < (xferDesc t.desc).total → (s.grid t.part).held = false → s.calm t.part = false →
    s.inExtent t t.next = false → 4 ≤ x.val →
    ∃ u, exec (.streamRequest c x) s = .next u ∧
      u.reg kBufferOverruns = (s.reg kBufferOverruns + 1) % 2 ^ keyBits kBufferOverruns ∧
      (∃ t', u.transfer? c x = some t' ∧ t'.next = t.next + 1 ∧ t'.memOver = true) ∧
      SameRegs s u (kBufferOverruns :: logKeys) ∧ u.mem = s.mem) ∧
  (∀ (c : Fin 512) (x : Fin 6) (t : Transfer) (a : Nat) (s : State), s.transfer? c x = some t →
    t.next < (xferDesc t.desc).total → (s.grid t.part).held = false → s.calm t.part = false →
    s.inExtent t t.next = true → x.val < 4 → s.admitted t (s.nextReq t) = true →
    (s.nextReq t).target = .here a →
    ∃ u, exec (.streamRequest c x) s = .next u ∧ SameRegs s u [] ∧ u.mem = s.mem ∧
      u.transfer? c x = some { t with
        next := t.next + (s.nextReq t).count, suspended := false
        flights := t.flights ++ [⟨t.next, (s.nextReq t).count, false⟩] }) ∧
  (∀ (c : Fin 512) (x : Fin 6) (i : Nat) (errs : List (Fin 72 × Byte)) (t t' : Transfer) (s : State),
    s.MemOk → s.stalled = [] → s.transfer? c x = some t → s.shardSide t = false →
    t.flights.any (fun f => !f.remote && decide (f.first ≤ i) && decide (i < f.first + f.count)) = true →
    (xferDesc t.desc).cellAddr i < cellLines →
    let d := xferDesc t.desc
    let va := (d.memAddr t.base i).toNat
    let s' := (s.bearErrors t.part va errs).setTransfer { t with flights := dropLine t.flights i }
    let r := s'.readVa t.part 3 va d.version d.keyIndex
    r.2.transfer? c x = some t' → r.2.enc.limitHit = [] → r.2.cellTaken c (d.cellAddr i) = false →
    ∃ u, exec (.lineArrival c x i errs) s = .next u ∧ u.cellLine c (d.cellAddr i) = padTo 64 0 r.1.data ∧
      u.cellPoisoned c (d.cellAddr i) = r.1.poison ∧
      (∃ t'', u.transfer? c x = some t'' ∧ t''.landed = t'.landed + 1)) ∧
  (∀ (c : Fin 512) (x : Fin 6) (t : Transfer) (s : State), s.transfer? c x = some t → t.over = true →
    s.stalled = [] →
    ∃ u, exec (.transferComplete c x) s = .next u ∧ u.transfer? c x = none ∧ SameRegs s u [] ∧ u.mem = s.mem ∧
      ∀ f, s.fence? t.fence = some f → (xferDesc t.desc).signal = true → f.err = false → f.hostSignal = false →
        ∃ g, u.fence? t.fence = some g ∧ g.value = (f.value + 1) % 2 ^ 64)

/-- A line written to near or far memory reads back (R162, R188 to R190, R199). Where a write is accepted, a read of
the same line by the same requester with the same key index, expecting the version written, without symbol errors,
delivers the 64 bytes that were written, unpoisoned and with no reason; a line written as poisoned delivers poisoned
zeros; and the bytes of every other line of the tiers stay as they were. -/
def Obligations.LineRoundTrip : Prop :=
  ∀ (w : Who) (sub sub' a version keyIndex : Nat) (data : List Byte) (s t : State), s.MemOk →
    s.writeLine w sub a version keyIndex data false = (0, t) →
    (t.readLine w sub' a (version % 256) keyIndex).1 = ⟨padTo 64 0 data, false, false, 0⟩ ∧
    (∀ t', s.writeLine w sub a version keyIndex data true = (0, t') →
      (t'.readLine w sub' a (version % 256) keyIndex).1 = ⟨zeros64, true, true, 0⟩) ∧
    ∀ b, b < a / 64 * 64 ∨ a / 64 * 64 + 64 ≤ b → memGet 0 t.mem.ram b = memGet 0 s.mem.ram b

/-- Units of memory come into service or leave it (R180 to R182). A unit that reports ready, and keeps enough
channels, sets its ready bit; a unit that never reports, which no partition holds or borrows from, fails in every
channel, leaves service with an empty map, and its event is logged. Sensors, calibration and map-outs (R172, R175,
R179, R186). A sample writes every stack's temperature, and touches no memory where no row waits for repair. An
oscillator check beyond the correctable range, on a unit that no running grid holds, fences its channel; a timed task
that runs more than 2 ms after it fell due is counted, once, and its interval counts from there. An
accepted map-out clears the channel's bit in the pending map, and one whose bit is clear already is refused. -/
def Obligations.MemoryUnitsSensorsAndMapOuts : Prop :=
  ((∀ (m : MemUnit) (failed : List (Nat × Nat)) (s : State),
    let n := unitIndex m
    bit (s.reg (readyKey n)) (unitBit n) = false → s.tier.outOfService.contains n = false →
    s.power.mode = .running → s.reg kLcState ≠ 5 →
    ((s.testConnections n failed).withCap (·.applyMap n)).tier.outOfService.contains n = false →
    ∃ u, exec (.memoryUnitReady m failed) s = .next u ∧ bit (u.reg (readyKey n)) (unitBit n) = true ∧
      bit (u.reg (scrubbedKey n)) (unitBit n) = false) ∧
  (∀ (m : MemUnit) (s : State),
    let n := unitIndex m
    bit (s.reg (readyKey n)) (unitBit n) = false → s.tier.outOfService.contains n = false →
    s.power.mode = .running → s.unitFree n = true →
    ∃ u, exec (.memoryReadyTimeout m) s = .next u ∧ u.reg (mapKey n) = 0 ∧ u.reg (pendingKey n) = 0 ∧
      u.tier = { s.tier with outOfService := s.tier.outOfService ++ [n] })) ∧
  ((∀ (t : Nat) (v : SensorReading) (s : State), ∃ u, exec (.sensorSample t v) s = .next u ∧
    (∀ i (h : i < v.nearTemps.length), i < 16 → u.reg (kStackTemp i) = unsgn 32 v.nearTemps[i]) ∧
    (s.tier.repairs = [] → u.mem = s.mem)) ∧
  (∀ (c : CalRun) (s : State), s.unitIdle (16 + c.channel.val / 8) = true → c.task = .oscillator →
    c.correctable = false → s.tier.fenced.contains (1024 + c.channel.val) = false →
    ∃ u, exec (.calibrationTaskDue c) s = .next u ∧ u.tier.fenced = s.tier.fenced ++ [1024 + c.channel.val] ∧
      bit (u.reg (pendingKey (16 + c.channel.val / 8))) (c.channel.val % 8) = false ∧
      (s.unitFree (16 + c.channel.val / 8) = false → u.mem = s.mem)) ∧
  (∀ (c : CalRun) (s : State), s.unitIdle (16 + c.channel.val / 8) = true → c.correctable = true → c.task ≠ .mr4 →
    s.calDue c.channel.val c.task + 2000000 < s.now → s.tier.calLate.contains (calKey c.channel.val c.task) = false →
    ∃ u, exec (.calibrationTaskDue c) s = .next u ∧
      u.reg (kCalOverdue (c.channel.val / 8)) =
        (s.reg (kCalOverdue (c.channel.val / 8)) + 1) % 2 ^ keyBits (kCalOverdue (c.channel.val / 8)) ∧
      u.tier.calDone = tabSet s.tier.calDone (calKey c.channel.val c.task) s.now ∧
      SameRegs s u (kCalOverdue (c.channel.val / 8) :: logKeys) ∧
      u = { s with dict := u.dict, mgmt := u.mgmt, tier := u.tier }) ∧
  (∀ (r : Requester) (s : State), s.grants r 0x5801 0x08 1 = true →
    let g := s.granted r 0x5801 0x08
    let ch := g.stagedReg kMapOutChannel
    ch < 1024 → bit (g.reg (pendingKey (ch / 64))) (ch % 64) = true →
    ∃ u, exec (.mapOutEnable r) s = .next u ∧ bit (u.reg (pendingKey (ch / 64))) (ch % 64) = false ∧
      ∀ l ∈ u.locks, l.group ≠ 0x5801) ∧
  (∀ (r : Requester) (s : State), s.grants r 0x6001 0x08 1 = true →
    let g := s.granted r 0x6001 0x08
    let ch := g.stagedReg kFarMapOutChannel
    ch < 128 → bit (g.reg (pendingKey (16 + ch / 8))) (ch % 8) = true →
    ∃ u, exec (.farMapOutEnable r) s = .next u ∧ bit (u.reg (pendingKey (16 + ch / 8))) (ch % 8) = false ∧
      ∀ l ∈ u.locks, l.group ≠ 0x6001) ∧
  (∀ (r : Requester) (s : State), s.grants r 0x5801 0x08 1 = true →
    let g := s.granted r 0x5801 0x08
    let ch := g.stagedReg kMapOutChannel
    ch < 1024 → bit (g.reg (pendingKey (ch / 64))) (ch % 64) = false →
    ∃ u, exec (.mapOutEnable r) s = .next u ∧ u.reg kNearRefusal = 0x4101 ∧ u.tier = s.tier ∧ u.mem = s.mem))

/-- RANGE_ENABLE and RANGE_DISABLE (R191, R195). An enable that passes every check puts the staged owner, extent and
key in force under a new RANGE_EPOCH, the next one in line; a refused one commits nothing and leaves its code in
ENC_REFUSAL. An accepted disable returns the entry to free. No byte of memory changes. Compatibility mode (R198):
COMPAT_PARTITIONS and COMPAT_KEY act at once where no grid that they concern is enabled; COMPAT_KEY 0 clears an
entry. SCRUB_COMPLETE (R202, R206) and TAMPER_BREACH (R205). A unit's scrub that ends makes a scrub line under the
scrub key and the next epoch of every line of the unit but those of fenced channels, so that nothing is listed of
it, leaves every other address of the memory as it was, and sets the unit's bit, where no map waits for it; where
one does that keeps enough channels, on a unit that nobody holds or borrows from, the map takes effect and the unit
is queued for scrub again. A breach sets TAMPER_STATE and TAMPER's latch, and leaves no scrub key nor generator key,
where its blow is still to come. -/
def Obligations.RangesScrubsAndCompatibility : Prop :=
  ((∀ (r : Requester) (e : Fin 64) (s : State), s.grants r (0x6810 + e) 0x05 1 = true →
    let g := s.granted r (0x6810 + e) 0x05
    g.rangeCheck e = 0 →
    ∃ u, exec (.rangeEnable r e) s = .next u ∧ u.reg (kRangeState e) = 1 ∧
      u.reg (kOwner e) = g.stagedReg (kOwner e) ∧ u.reg (kBase e) = g.stagedReg (kBase e) % 2 ^ 64 ∧
      u.reg (kRangeEpoch e) = s.enc.epochNext % 2 ^ 32 ∧ u.enc.epochNext = (s.enc.epochNext + 1) % 2 ^ 32 ∧
      (∀ l ∈ u.locks, l.group ≠ 0x6810 + e.val) ∧ u.mem = s.mem) ∧
  (∀ (r : Requester) (e : Fin 64) (s : State), s.grants r (0x6810 + e) 0x05 1 = true →
    let g := s.granted r (0x6810 + e) 0x05
    g.rangeCheck e ≠ 0 →
    ∃ u, exec (.rangeEnable r e) s = .next u ∧ u.reg kEncRefusal = g.rangeCheck e % 2 ^ 16 ∧
      u.reg (kRangeState e) = s.reg (kRangeState e) ∧ u.enc = s.enc ∧ u.staged = s.staged ∧ u.mem = s.mem) ∧
  (∀ (r : Requester) (e : Fin 64) (s : State), s.grants r (0x6810 + e) 0x05 1 = true →
    let g := s.granted r (0x6810 + e) 0x05
    g.reg (kRangeState e) = 1 → g.reg (kOwner e) < 8 → g.reg (kGustEnable (g.reg (kOwner e))) ≠ 1 →
    ∃ u, exec (.rangeDisable r e) s = .next u ∧ u.reg (kOwner e) = 0xFF ∧ u.reg (kBase e) = 0 ∧
      u.reg (kSize e) = 0 ∧ u.reg (kKeySlot e) = 0 ∧ u.reg (kRangeState e) = 0 ∧ u.mem = s.mem)) ∧
  ((∀ (r : Requester) (v : BitVec 8) (s : State), s.grants r 0x6801 0x06 1 = true →
    (∀ p ∈ parts8, (s.granted r 0x6801 0x06).reg (kGustEnable p) ≠ 1) →
    ∃ u, exec (.compatPartitions r v) s = .next u ∧ u.reg kCompatPartitions = v.toNat ∧ u.mem = s.mem) ∧
  (∀ (r : Requester) (p : Fin 8) (i : BitVec 8) (h : BitVec 32) (s : State),
    s.grants r (0x6860 + p) i.toNat 4 = true →
    let g := s.granted r (0x6860 + p) i.toNat
    g.reg (kGustEnable p) ≠ 1 →
    (h = 0 ∨ g.checkHandle 6 8 p h.toNat = 0 ∧ (g.keySlot (hIndex h.toNat)).attr = 0) →
    ∃ u, exec (.compatKey r p i h) s = .next u ∧ u.reg (kCompatKey p i.toNat) = h.toNat ∧ u.mem = s.mem) ∧
  (∀ (r : Requester) (v : BitVec 8) (s : State), s.grants r 0x6801 0x06 1 = true →
    (∃ p ∈ parts8, bit v.toNat p ≠ bit ((s.granted r 0x6801 0x06).reg kCompatPartitions) p ∧
      (s.granted r 0x6801 0x06).reg (kGustEnable p) = 1) →
    ∃ u, exec (.compatPartitions r v) s = .next u ∧ u.reg kEncRefusal = 0x6201 ∧
      u.reg kCompatPartitions = s.reg kCompatPartitions)) ∧
  ((∀ (m : MemUnit) (k : List Byte) (s : State), s.MemOk → s.enc.scrubbing.contains (.unit m) = true →
    s.enc.scrubKey = some k →
    let n := unitIndex m
    let w := unitWindow n
    s.reg (pendingKey n) = s.reg (mapKey n) →
    ∃ u, exec (.scrubComplete (.unit m)) s = .next u ∧ bit (u.reg (scrubbedKey n)) (unitBit n) = true ∧
      tabGet u.enc.scrubEpoch n 0 = s.enc.epochNext ∧ u.enc.epochNext = (s.enc.epochNext + 1) % 2 ^ 32 ∧
      (.unit m ∉ u.enc.scrubbing) ∧ tabGet u.mem.scrubbed n ([], 0) = (k, s.enc.epochNext) ∧
      (∀ a, memGet 0 u.mem.ram a = if s.scrubbedAway w.1 w.2 a then 0 else memGet 0 s.mem.ram a) ∧
      u.mem.host = s.mem.host ∧ u.mem.flash = s.mem.flash ∧ u.mem.cellPoison = s.mem.cellPoison) ∧
  (∀ (m : MemUnit) (s : State), s.enc.scrubbing.contains (.unit m) = true → s.enc.scrubKey.isSome = true →
    let n := unitIndex m
    s.reg (pendingKey n) ≠ s.reg (mapKey n) → s.unitFree n = true → s.tier.outOfService.contains n = false →
    leastChannels n ≤ popCount (s.reg (pendingKey n)) (unitWidth n) → bit (s.reg (readyKey n)) (unitBit n) = true →
    ∃ u, exec (.scrubComplete (.unit m)) s = .next u ∧
      u.reg (mapKey n) = s.reg (pendingKey n) % 2 ^ keyBits (mapKey n) ∧
      bit (u.reg (scrubbedKey n)) (unitBit n) = false ∧ .unit m ∈ u.enc.scrubbing) ∧
  (∀ s : State, s.power.mode ≠ .off → popCount (tabGet s.sec.fuses 18 0) 32 < 32 →
    ∃ u, exec .tamperBreach s = .next u ∧ u.sec.breached = true ∧ u.enc.scrubKey = none ∧ u.sec.tamperBlow = true ∧
      u.sec.transition = none))

/-- The key commands that fill a slot (R361, R423). GENERATE takes 32 bytes of the generator with prediction
resistance, DERIVE the first 32 bytes that D makes of the parent, label and context; either goes live and resident
into the lowest free slot, owned by the partition, provisional exactly when the normal world asked. A key that EVICT
put out comes back from its blob (R361 to R363): with the wrap key as it was and the slot untouched, LOAD_BLOB of the
blob that EVICT answered opens it and restores the very slot. -/
def Obligations.KeysFilledAndRecalled : Prop :=
  (∀ (r : Requester) (p : Fin 8) (attr : BitVec 8) (i : Nat) (s : State),
    let g := match r with
      | .jobServices => s
      | _ => s.granted r (0x9020 + p) 0x01
    (r ≠ .jobServices → s.grants r (0x9020 + p) 0x01 112 = true ∧ lockedState (s.part p).state = false) →
    s.sec.breached = false → attrOk attr.toNat = true → g.freeSlot = some i → g.cacheUsed < 1024 →
    (∀ k t, g.drbg 32 true = some (k, t) →
      ∃ u, exec (.generateKey r p attr) s = .next u ∧
        u.keySlot i = { s.keySlot i with live := true, key := k, attr := attr.toNat, owner := p, resident := true
                                         provisional := decide (r ≠ .jobServices) } ∧
        (∀ j, j ≠ i → u.keySlot j = s.keySlot j) ∧ u.mem = s.mem) ∧
    (∀ (parent : BitVec 32) (label ctx : List Byte), g.keyCheck p parent.toNat = 0 →
      (g.keySlot (hIndex parent.toNat)).attr = 3 → (g.keySlot (hIndex parent.toNat)).resident = true →
      1 ≤ label.length → label.length ≤ 32 → ctx.length ≤ 64 →
      ∃ u, exec (.deriveKey r p parent attr label ctx) s = .next u ∧
        u.keySlot i = { s.keySlot i with
          live := true, key := (derive (s.keySlot (hIndex parent.toNat)).key label ctx).take 32, attr := attr.toNat
          owner := p, resident := true, provisional := decide (r ≠ .jobServices) } ∧
        (∀ j, j ≠ i → u.keySlot j = s.keySlot j) ∧ u.mem = s.mem)) ∧
  (∀ (p : Fin 8) (h : Nat) (blob : List Byte) (h' : Handle) (s t : State),
    s.keyEvict p h = ((0, h', blob), t) → (s.keySlot (hIndex h)).key.length = 32 →
    (s.keySlot (hIndex h)).owner = p.val → (s.keySlot (hIndex h)).attr < 4 → (s.keySlot (hIndex h)).gen < 512 →
    hIndex h < 8192 → t.cacheUsed < 1024 → (s.drbg 12 false).all (fun x => x.1.length == 12) = true →
    blob.length = 96 ∧
      ((t.keyLoad p (ofLe blob)).1.1 = 0 ∧ (t.keyLoad p (ofLe blob)).2.keySlot (hIndex h) = s.keySlot (hIndex h)))

/-- EVICT, LOAD_BLOB, DESTROY and KEY_ENABLE (R361 to R364, R423). A key that nothing pins leaves the cache and stands
outside; a blob that opens, for the generation its slot still has, brings the key back; a destroyed slot is empty and
its generation has moved on, so that its old handle is refused; KEY_ENABLE makes the partition's provisional slots
stand. -/
def Obligations.KeysMovedAndDestroyed : Prop :=
  (∀ (r : Requester) (p : Fin 8) (slot : BitVec 32) (nonce : List Byte) (t s : State),
    let g := match r with
      | .jobServices => s
      | _ => s.granted r (0x9020 + p) 0x01
    (r ≠ .jobServices → s.grants r (0x9020 + p) 0x01 112 = true ∧ lockedState (s.part p).state = false) →
    s.sec.breached = false → g.keyCheck p slot.toNat = 0 → g.keyUses slot.toNat = [] →
    (s.keySlot (hIndex slot.toNat)).resident = true → g.drbg 12 false = some (nonce, t) →
    ∃ u, exec (.evictKey r p slot) s = .next u ∧
      u.keySlot (hIndex slot.toNat) = { s.keySlot (hIndex slot.toNat) with resident := false, key := [] } ∧
      (∀ j, j ≠ hIndex slot.toNat → u.keySlot j = s.keySlot j)) ∧
  (∀ (r : Requester) (p : Fin 8) (blob : BitVec 768) (key : List Byte) (s : State),
    let g := match r with
      | .jobServices => s
      | _ => s.granted r (0x9020 + p) 0x01
    let b := leBytes 96 blob.toNat
    let i := fld blob.toNat 22 13
    (r ≠ .jobServices → s.grants r (0x9020 + p) 0x01 112 = true ∧ lockedState (s.part p).state = false) →
    s.sec.breached = false →
    gcmOpen s.sec.wrapKey ((b.drop 8).take 12) (b.take 8) ((b.drop 20).take 32) ((b.drop 52).take 16) = some key →
    fld blob.toNat 0 16 = 1 → fld blob.toNat 18 3 = p.val → (s.keySlot i).live = true →
    (s.keySlot i).resident = false → (s.keySlot i).owner = p.val → (s.keySlot i).gen = fld blob.toNat 35 9 →
    g.cacheUsed < 1024 →
    ∃ u, exec (.loadBlob r p blob) s = .next u ∧
      u.keySlot i = { s.keySlot i with resident := true, key := key } ∧
      (∀ j, j ≠ i → u.keySlot j = s.keySlot j)) ∧
  (∀ (r : Requester) (p : Fin 8) (slot : BitVec 32) (s : State),
    let g := match r with
      | .jobServices => s
      | _ => s.granted r (0x9020 + p) 0x01
    let i := hIndex slot.toNat
    (r ≠ .jobServices → s.grants r (0x9020 + p) 0x01 112 = true ∧ lockedState (s.part p).state = false) →
    g.keyCheck p slot.toNat = 0 →
    ∃ u, exec (.keyDestroy r p slot) s = .next u ∧
      u.keySlot i = { KeySlot.empty with gen := nextGen (s.keySlot i).gen } ∧
      u.keyCheck p slot.toNat ≠ 0 ∧ (∀ j, j ≠ i → u.keySlot j = s.keySlot j)) ∧
  (∀ (r : Requester) (p : Fin 8) (s : State), s.grants r (0x9020 + p) 0x03 1 = true →
    ∃ u, exec (.keyEnable r p) s = .next u ∧ (∀ e ∈ u.sec.keys, e.2.owner = p.val → e.2.provisional = false) ∧
      (∀ l ∈ u.locks, l.group ≠ 0x9020 + p.val) ∧ u.mem = s.mem)

/-- The six modes of the matrix array (R98 to R112). An entry that issues and passes every check runs on unit 0 for
the cycles of R110; accumulators that were held are gone from the array; results held under OUT_DEST 1 are the block
sums of their rows and columns, written nowhere, and results written out under OUT_DEST 0 touch no cell before the
entry ends. Nothing but the log, the array's counters and the running entries changes. A refused array descriptor and
a failed column (R108, R115, R330). Either records its code in ARRAY_REFUSAL and the cluster in ARRAY_FAULT_CLUSTER,
and faults the partition that runs: it is HELD, its gust is over, and nothing of it runs on. -/
def Obligations.ArrayEntriesAndFaults : Prop :=
  (∀ (op : Nat) (i : Instr) (c : Fin 512) (a : BitVec 64) (d : Desc) (p : Nat) (s : State),
    (op, i) ∈ [(0, .multiplyAdd c a d), (1, .sumOfAbsoluteDifferences c a d), (2, .sumOfSquaredDifferences c a d),
      (3, .maxPlus c a d), (4, .minPlus c a d), (5, Instr.compareAndCount c a d)] →
    let x := { arrayDesc d.toNat with op := op }
    s.clusterPart c = some p → s.mayIssue p c 0 a.toNat (s.awaits c (arrayDesc d.toNat).spans) = true →
    let g := s.issued p c
    (arrayDesc d.toNat).op < 6 → g.arrayCheck p c a.toNat x = 0 →
    ∃ (u : State) (r : Running), exec i s = .next u ∧ u.running = s.running ++ [r] ∧
      (r.part = p ∧ r.unitId = c.val ∧ r.unit = 0 ∧ r.since = s.now ∧ r.cycles = x.cycles) ∧
      (x.dest = 1 → x.init = 0 → r.puts = [] ∧ ∃ h, r.held = some h ∧ h.rows = x.rows ∧ h.cols = x.cols ∧
        h.vals = ((List.range x.rows).flatMap (fun r => (List.range x.cols).map (fun j =>
          (g.arrayCell c x r j (arrayIdentity op x.intPath)).1)))) ∧
      (∀ e ∈ u.held, e.1 ≠ c.val) ∧
      SameRegs g u ([kEmptyReductions, kIntSaturations, kOperandOverruns] ++ logKeys) ∧
      u = { g with dict := u.dict, mgmt := u.mgmt, held := u.held, running := u.running }) ∧
  ((∀ (c : Fin 512) (a : BitVec 64) (d : Desc) (p : Nat) (s : State),
    let x := { arrayDesc d.toNat with op := 0 }
    s.clusterPart c = some p → s.mayIssue p c 0 a.toNat (s.awaits c (arrayDesc d.toNat).spans) = true →
    let g := s.issued p c
    (arrayDesc d.toNat).op < 6 → g.arrayCheck p c a.toNat x ≠ 0 →
    ∃ u, exec (.multiplyAdd c a d) s = .next u ∧ u.reg kArrayRefusal = g.arrayCheck p c a.toNat x ∧
      u.reg kArrayFaultCluster = c.val ∧ (u.part p).state = stHeld ∧ (u.grid p).inGust = false ∧
      (∀ r ∈ u.running, r.part ≠ p) ∧ u.mem = s.mem) ∧
  (∀ (c : Fin 512) (col : Fin 64) (r : Running) (s : State),
    s.running.find? (fun r => r.unitId == c.val && r.unit == 0) = some r → s.columnMapped c col = true →
    (s.part r.part).state = stRunning →
    ∃ u, exec (.columnSelfCheckFail c col) s = .next u ∧ u.reg kArrayRefusal = 0x1110 ∧
      u.reg kArrayFaultCluster = c.val ∧ (u.part r.part).state = stHeld ∧ (u.grid r.part).inGust = false ∧
      (∀ x ∈ u.running, x.part ≠ r.part) ∧ u.mem = s.mem))

/-- On the integer path, products and sums are exact, and the accumulator is a 32-bit two's-complement integer (R102):
the term of each array mode is the exact integer, a block adds its terms exactly and saturates at -2147483648 and
2147483647, and reports that it did exactly when the exact sum lies outside. Each array entry, of whichever mode and
initial value, in which any accumulator saturates adds one to INT_SATURATIONS, and no other does. -/
def Obligations.IntegerPathSaturates : Prop :=
  (∀ (a b : Int) (cmp : Nat), (arrayTerm 0 cmp (ofInt a) (ofInt b)).toInt = a * b ∧
    (arrayTerm 1 cmp (ofInt a) (ofInt b)).toInt = max (a - b) (b - a) ∧
    (arrayTerm 2 cmp (ofInt a) (ofInt b)).toInt = (a - b) * (a - b) ∧
    (arrayTerm 3 cmp (ofInt a) (ofInt b)).toInt = a + b ∧ (arrayTerm 4 cmp (ofInt a) (ofInt b)).toInt = a + b) ∧
  (∀ (op acc : Nat) (terms : List Val), op ∈ [0, 1, 2, 5] →
    let total := (terms.map Val.toInt).foldl (· + ·) (sgn 32 acc)
    (arrayBlock op true acc terms).1 = unsgn 32 (max (-2147483648) (min 2147483647 total)) ∧
    ((arrayBlock op true acc terms).2 = true ↔ total < -2147483648 ∨ 2147483647 < total)) ∧
  ∀ (op : Nat) (i : Instr) (c : Fin 512) (a : BitVec 64) (d : Desc) (p : Nat) (s : State),
    (op, i) ∈ [(0, .multiplyAdd c a d), (1, .sumOfAbsoluteDifferences c a d), (2, .sumOfSquaredDifferences c a d),
      (3, .maxPlus c a d), (4, .minPlus c a d), (5, Instr.compareAndCount c a d)] →
    let x := { arrayDesc d.toNat with op := op }
    let start := fun (r j : Nat) => match x.init with
      | 1 => s.cellLe c (x.biasLine * 64 + 4 * j) 4
      | 2 => match tabGet (s.held.map (fun h => (h.1, some h.2))) c none with
        | some h => h.vals.getD (r * x.cols + j) 0
        | none => 0
      | _ => arrayIdentity op x.intPath
    s.clusterPart c = some p → s.mayIssue p c 0 a.toNat (s.awaits c (arrayDesc d.toNat).spans) = true →
    (arrayDesc d.toNat).op < 6 → (s.issued p c).arrayCheck p c a.toNat x = 0 →
    ∃ u, exec i s = .next u ∧
      u.reg kIntSaturations =
        (if ∃ r < x.rows, ∃ j < x.cols, (s.arrayCell c x r j (start r j)).2 = true
          then (s.reg kIntSaturations + 1) % 2 ^ 64 else s.reg kIntSaturations)

/-- The element-wise vector operations (R120 to R122, R127, R128, R138). An entry that issues and passes every check
runs on unit 1 for the cycles of R138, with the writes that the operation's elements make, row by row; nothing but the
log, the counters and the running entries changes before it ends. The row operations of the vector unit (R123 to R125,
R138): ROW_MAX, ROW_SUM, ROW_SUMSQ and ROW_COUNT run on unit 1 and write, row by row, only the record fields that the
operation names. -/
def Obligations.VectorEntries : Prop :=
  (∀ (vop : Nat) (i : Instr) (c : Fin 512) (a : BitVec 64) (d : Desc) (p : Nat) (s : State),
    (vop, i) ∈ [(0x00, .vecCopy c a d), (0x01, .addV c a d), (0x02, .subV c a d), (0x03, .mulV c a d),
      (0x04, .fmaV c a d), (0x05, .minV c a d), (0x06, .maxV c a d), (0x07, .absV c a d), (0x08, .negV c a d),
      (0x09, .mulImm c a d), (0x0A, .addImm c a d), (0x0B, .selectV c a d), (0x0C, .maskCausal c a d),
      (0x0D, .dropout c a d), (0x28, .subRow c a d), (0x29, .divRow c a d), (0x2A, .centerRow c a d),
      (0x2B, Instr.normRow c a d)] →
    let x := { vecDesc d.toNat with vop := vop }
    s.clusterPart c = some p → s.mayIssue p c 1 a.toNat (s.awaits c x.spans) = true →
    let g := s.issued p c
    vopKnown (vecDesc d.toNat).vop = true → g.vecCheck p c a.toNat x = 0 →
    ∃ (u : State) (r : Running), exec i s = .next u ∧ u.running = s.running ++ [r] ∧
      (r.part = p ∧ r.unitId = c.val ∧ r.unit = 1 ∧ r.since = s.now ∧
        r.cycles = 12 + x.rows * ceilDiv x.n
          (if 2 < vBytes x.fa ∨ vopReadsB vop = true ∧ 2 < vBytes x.fb ∨ 2 < vBytes x.fy then 64 else 128)) ∧
      (∀ k < x.rows, ∀ w ∈ rowPuts c (x.yLine + k * x.yStride) (vBytes x.fy)
          ((List.range x.n).map (fun j => ((g.vecElem p c x k j).1, g.vecSharedPoison c x ||
            g.vecLinePoison c x k (j / (64 / vBytes x.fy) * (64 / vBytes x.fy))
              (min (64 / vBytes x.fy) (x.n - j / (64 / vBytes x.fy) * (64 / vBytes x.fy)))))), w ∈ r.puts) ∧
      (∀ k < x.rows, ∀ j < x.n, (g.vecElem p c x k j).2 = true →
        u.reg kVecIntSaturations = (s.reg kVecIntSaturations + 1) % 2 ^ 64) ∧
      SameRegs g u ([kVecIntSaturations, kOperandOverruns] ++ logKeys) ∧
      u = { g with dict := u.dict, mgmt := u.mgmt, running := u.running }) ∧
  (∀ (vop : Nat) (i : Instr) (c : Fin 512) (a : BitVec 64) (d : Desc) (p : Nat) (s : State),
    (vop, i) ∈ [(0x20, .rowMax c a d), (0x21, .rowSum c a d), (0x22, .rowSumsq c a d),
      (0x23, Instr.rowCount c a d)] →
    let x := { vecDesc d.toNat with vop := vop }
    s.clusterPart c = some p → s.mayIssue p c 1 a.toNat (s.awaits c x.spans) = true →
    let g := s.issued p c
    vopKnown (vecDesc d.toNat).vop = true → g.vecCheck p c a.toNat x = 0 →
    ∃ (u : State) (r : Running), exec i s = .next u ∧ u.running = s.running ++ [r] ∧
      (r.part = p ∧ r.unitId = c.val ∧ r.unit = 1 ∧ r.since = s.now ∧
        r.cycles = 20 + x.rows * ceilDiv x.n (if 2 < vBytes x.fa then 64 else 128)) ∧
      (∀ w ∈ r.puts, ∃ k < x.rows, ∃ f ∈ (g.vecRowOp c x k).1,
        w.cluster = c.val ∧ w.addr = x.sLine * 64 + k * 16 + f.1 ∧ w.data = f.2 ∧
        (f.1, f.2.length) ∈ (if vop = 0x20 then [(0, 4), (12, 4)] else if vop = 0x21 then [(4, 4), (15, 1)]
          else if vop = 0x22 then [(8, 4), (15, 1)] else [(12, 3)])) ∧
      SameRegs g u ([kVecEmptyReductions, kRowEmptyCount, kRowNanCount, kOperandOverruns] ++ logKeys) ∧
      u = { g with dict := u.dict, mgmt := u.mgmt, running := u.running })

/-- Integer operations of the vector unit (R121): on INT32 operands with INT32 output, ADD, SUB, MUL, MIN and MAX give
the exact result of the two elements, saturated at the INT32 limits, and report exactly whether it saturated. -/
def Obligations.VectorIntegerResults : Prop :=
  ∀ (p c r i vop : Nat) (op : Int → Int → Int) (x : VecDesc) (s : State),
    (vop = 1 ∧ op = (· + ·)) ∨ (vop = 2 ∧ op = (· - ·)) ∨ (vop = 3 ∧ op = (· * ·)) ∨ (vop = 5 ∧ op = min) ∨
      (vop = 6 ∧ op = max) →
    x.vop = vop → x.fa = 5 → x.fb = 5 → x.fy = 5 →
    let e := op (sgn 32 (s.vecA c x r i)) (sgn 32 (s.vecB c x r i))
    (s.vecElem p c x r i).1 = unsgn 32 (max (-2147483648) (min 2147483647 e)) ∧
      ((s.vecElem p c x r i).2 = true ↔ e < -2147483648 ∨ 2147483647 < e)

/-- SFU_EVALUATE, SFU_LOAD_TABLE and SAMPLE (R131, R135, R136, R138, R155). A load takes its 256 lines and runs for
32 cycles; when it ends they stand in its slot, it counts, and every other slot of every cluster is as it was; an
evaluation runs with its writes and leaves every slot; a sampler entry runs on its sampler, and counts its rows. One
row of a sampler (R155) with TEMPERATURE +0 is greedy: for logits that are numbers and not all minus infinity, the
token is the first that has the largest logit, with probability 1 and one candidate kept; a poisoned row, a row with
a NaN and a row of minus infinities give no token. -/
def Obligations.SfuSamplersAndGreedyTokens : Prop :=
  ((∀ (c : Fin 512) (a : BitVec 64) (d : Desc) (p : Nat) (s : State),
    let x := { sfuDesc d.toNat with op := 1 }
    s.clusterPart c = some p → s.mayIssue p c 2 a.toNat (s.awaits c x.spans) = true → (sfuDesc d.toNat).op < 2 →
    let g := s.issued p c
    x.kind = 3 → g.sfuCheck p c a.toNat x = 0 →
    ∃ (u : State) (r : Running), exec (.sfuLoadTable c a d) s = .next u ∧ u.running = s.running ++ [r] ∧
      r.unit = 2 ∧ r.cycles = 32 ∧
      r.puts = [] ∧ 10 < x.slot ∧
      r.load = some (c.val * 16 + x.slot, .loaded ((List.range 256).flatMap (fun i => (List.range 64).map (fun j =>
        s.cellByte c ((x.aLine + i) * 64 + j)))) (s.spanPoison c (x.aLine, 256))) ∧
      SameRegs g u (kOperandOverruns :: logKeys) ∧
      u = { g with dict := u.dict, mgmt := u.mgmt, running := u.running }) ∧
  (∀ (p : Fin 8) (c : Fin 512) (k : Nat) (slot : SfuSlot) (r : Running) (s : State),
    s.runningOn p c 2 = some r → r.load = some (k, slot) → r.puts = [] → r.tiles = none → r.work = none →
    s.stalled = [] →
    ∃ u, exec (.entryComplete p ⟨c.val, Nat.lt_trans c.isLt (by decide)⟩ 2) s = .next u ∧
      u.slots = tabSet s.slots k slot ∧ u.reg kTableLoads = (s.reg kTableLoads + 1) % 2 ^ 64 ∧
      SameRegs s u (kTableLoads :: logKeys) ∧ u.mem = s.mem) ∧
  (∀ (c : Fin 512) (a : BitVec 64) (d : Desc) (p : Nat) (s : State),
    let x := { sfuDesc d.toNat with op := 0 }
    s.clusterPart c = some p → s.mayIssue p c 2 a.toNat (s.awaits c x.spans) = true → (sfuDesc d.toNat).op < 2 →
    let g := s.issued p c
    g.sfuCheck p c a.toNat x = 0 →
    ∃ (u : State) (r : Running), exec (.sfuEvaluate c a d) s = .next u ∧ u.running = s.running ++ [r] ∧
      r.unit = 2 ∧ r.unitId = c.val ∧
      r.cycles = 16 + x.rows * ceilDiv x.n 64 ∧ SameRegs g u (kOperandOverruns :: logKeys) ∧
      u = { g with dict := u.dict, mgmt := u.mgmt, running := u.running }) ∧
  (∀ (p : Fin 8) (n : Fin 4) (a : BitVec 64) (d : Desc) (s : State),
    let x := sampleDesc d.toNat
    s.mayIssue p (0x203 + n) 9 a.toNat false = true →
    let g := s.issued p (0x203 + n)
    g.sampleCheck p a.toNat x = 0 → x.rows = 0 →
    ∃ (u : State) (r : Running), exec (.sample p n a d) s = .next u ∧ u.running = s.running ++ [r] ∧ r.unitId = 0x203 + n.val ∧
      r.cycles = 2000 * s.fCore p / 1000 ∧ u = { g with running := u.running }) ∧
  (∀ (p : Fin 8) (n : Fin 4) (a : BitVec 64) (d : Desc) (s : State),
    let x := sampleDesc d.toNat
    s.mayIssue p (0x203 + n) 9 a.toNat false = true →
    let g := s.issued p (0x203 + n)
    g.sampleCheck p a.toNat x = 0 → x.rows ≠ 0 →
    ∃ u, exec (.sample p n a d) s = .next u ∧ u.reg kRowsSampled = (s.reg kRowsSampled + x.rows) % 2 ^ 64)) ∧
  (∀ (rev topK topP word : Nat) (xs : List Nat),
    (sampleRow rev 0 topK topP word true xs).token = 0xFFFFFFFF ∧
    (xs.any f32isNan = true → (sampleRow rev 0 topK topP word false xs).token = 0xFFFFFFFF) ∧
    ((∀ x ∈ xs, x = f32NegInf) → (sampleRow rev 0 topK topP word false xs).token = 0xFFFFFFFF) ∧
    (xs.any f32isNan = false → (∃ x ∈ xs, x ≠ f32NegInf) → ∀ i (h : i < xs.length),
      f32eq xs[i] (xs.foldl f32max f32NegInf) = true →
      (∀ j (hj : j < i), f32eq (xs[j]'(Nat.lt_trans hj h)) (xs.foldl f32max f32NegInf) = false) →
      (sampleRow rev 0 topK topP word false xs).token = i ∧
      (sampleRow rev 0 topK topP word false xs).prob = f32One ∧
      (sampleRow rev 0 topK topP word false xs).greedy = true))

/-- SAMPLER_ENABLE and JOB_SECRET (R147, R148, R159). A mask that clears no bit a binding needs is in force in its
four bits; one that does is refused. A secret received by a partition with a charter, while it is locked, is held
with its salt, its generator key is derived, its gust number taken over, and with it the job's CKPT_SEQ (log entry
122), and its loaded bit set. A drawn one takes two outputs of the generator and is sent to the job's other modules.
The random source and the recovery epochs (R366, R367, R376). A health failure leaves the source FAILED; a reseed
that is due takes 48 fresh bytes of entropy and restarts its second; RECOVERY_BUMP raises the epoch by one, skipping
0, and leaves no lock standing that the old epoch of its scope was stamped on. -/
def Obligations.RandomSourcesSamplersAndSecrets : Prop :=
  ((∀ (r : Requester) (v : BitVec 8) (s : State), s.grants r 0x4802 0x05 1 = true →
    let blocked := ∃ i < 4, bit (s.reg kSamplerEnable) i = true ∧ bit v.toNat i = false ∧
      ∃ b ∈ s.bindings, b.unitId = 0x203 + i
    (¬ blocked → ∃ u, exec (.samplerEnable r v) s = .next u ∧ u.reg kSamplerEnable = v.toNat % 16 ∧ u.mem = s.mem) ∧
    (blocked → ∃ u, exec (.samplerEnable r v) s = .next u ∧ u.reg kSamplerEnable = s.reg kSamplerEnable ∧
      u.reg kSamplerRefusal = 0x2201)) ∧
  (∀ (p : Fin 8) (secret salt : List Byte) (gust seq : Nat) (s : State), (s.part p).charter.isSome = true →
    lockedState (s.part p).state = true →
    ∃ u, exec (.jobSecret p (.received secret salt gust seq)) s = .next u ∧ (u.part p).secret = some secret ∧
      (u.part p).salt = salt ∧ (u.part p).genKey = genKeyOf secret (s.jobIdOf p) ∧
      u.reg (kGustNumber p) = gust % 2 ^ 64 ∧ u.reg (kCkptSeq p) = seq % 2 ^ keyBits (kCkptSeq p) ∧
      bit (u.reg kGenKeyLoaded) p = true ∧ u.mem = s.mem) ∧
  (∀ (p : Fin 8) (k salt : List Byte) (t t' s : State), (s.part p).charter.isSome = true →
    lockedState (s.part p).state = true → s.drbg 32 false = some (k, t) → t.drbg 32 false = some (salt, t') →
    ∃ u, exec (.jobSecret p .drawn) s = .next u ∧ (u.part p).secret = some k ∧ (u.part p).salt = salt ∧
      u.reg (kCkptSeq p) = 0 ∧ bit (u.reg kGenKeyLoaded) p = true ∧
      u.sec.secretsOut = s.sec.secretsOut ++ [⟨p, s.jobIdOf p, none, k, salt, s.reg (kGustNumber p), 0⟩])) ∧
  ((∀ s : State, s.sec.failed = false → s.power.mode ≠ .off →
    ∃ u, exec .entropyHealthFail s = .next u ∧ u.sec = { s.sec with failed := true } ∧ u.reg kEntropyState = 2 ∧
      SameRegs s u (kEntropyState :: logKeys) ∧ u = { s with dict := u.dict, mgmt := u.mgmt, sec := u.sec }) ∧
  (∀ (t : Nat) (d : DrbgState) (s : State), s.sec.drbg = some d → s.sec.failed = false →
    s.sec.drbgSince + nsPerS ≤ max s.now t →
    exec (.drbgReseed t) s = .next { s with
      now := max s.now t, freeCount := s.freeCount + 1
      sec := { s.sec with drbg := some (drbgReseed d ((List.range 48).map (Config.entropy s.freeCount)))
                          drbgSince := max s.now t } }) ∧
  (∀ (r : Requester) (p : Fin 9) (s : State), s.grants r (0x9010 + p) 0x02 1 = true →
    let e := s.reg (kRecoveryEpoch p)
    ∃ u, exec (.recoveryBump r p) s = .next u ∧
      u.reg (kRecoveryEpoch p) = (if e = 0xFFFF then 1 else e + 1) % 2 ^ 16 ∧
      (∀ l ∈ u.locks, ¬ (l.scope = p.val ∧ l.epoch = e)) ∧ u.mem = s.mem))

/-- The bring-up of a port (R235, R237, R253). An enable starts training, forgets the last peer, and with no module in
the slot ahead fails at once. Each step that ends in time leads to the next: training, then the exchange that names
the peer, then the authentication, whose key exchange keys both directions in generation 0, then UP with the measured
delay. A peer that is not admitted sends the port to FAILED. A disable of a port that no running grid holds leaves it
DOWN, and no beacon parent (R259). What
fails a port (R235, R236, R251): a step that overruns its bound, a lane that fails while the port trains or is up,
frame lock lost while it is up. The port is FAILED and stays enabled; a RUNNING partition that owns it faults, so that
it is held; a lending that has no port left but FAILED ones ends. -/
def Obligations.PortLifecycle : Prop :=
  ((∀ (r : Requester) (n : Fin 16) (s : State), s.grants r (0x7010 + n) 0x05 1 = true →
    let g := s.granted r (0x7010 + n) 0x05
    let ks := [kPortEnable n, kPortState n, kPeerModule n, kPeerPort n]
    g.reg (kPortEnable n) ≠ 1 → g.reg kModuleId ≠ 0xFFFF →
    ∃ u, exec (.portEnable r n false) s = .next u ∧ u.reg (kPortEnable n) = 1 ∧ u.reg (kPortState n) = 1 ∧
      u.reg (kPeerModule n) = 0xFFFF ∧ u.reg (kPeerPort n) = 0xFF ∧ (u.port n).step = 1 ∧
      (u.port n).failed = (s.port n).failed ∧ SameRegs g u ks ∧ u.mem = s.mem) ∧
  (∀ (r : Requester) (n : Fin 16) (s : State), s.grants r (0x7010 + n) 0x05 1 = true →
    let g := s.granted r (0x7010 + n) 0x05
    g.reg (kPortEnable n) ≠ 1 → g.reg kModuleId ≠ 0xFFFF → g.reg (kPortState n) ≠ 4 →
    ∃ u, exec (.portEnable r n true) s = .next u ∧ u.reg (kPortEnable n) = 1 ∧ u.reg (kPortState n) = 4 ∧
      (u.port n).failed = true ∧ u.mem = s.mem) ∧
  (∀ (r : Requester) (n : Fin 16) (s : State), s.grants r (0x7010 + n) 0x05 1 = true →
    let g := s.granted r (0x7010 + n) 0x05
    (∀ p < 8, g.reg (kPortOwner n) = p → g.reg (kGustEnable p) ≠ 1) →
    ∃ u, exec (.portDisable r n) s = .next u ∧ u.reg (kPortEnable n) = 0 ∧ u.reg (kPortState n) = 0 ∧
      (u.port n).step = 0 ∧ (u.port n).txKey = [] ∧
      SameRegs g u [kPortEnable n, kPortState n, kBeaconParentPort, kBeaconHops] ∧
      (g.reg kBeaconParentPort ≠ n → SameRegs g u [kPortEnable n, kPortState n]) ∧
      (g.reg kBeaconParentPort = n → s.fabric.align.heard = [] → u.reg kBeaconParentPort = 0xFF) ∧ u.mem = s.mem) ∧
  (∀ (n : Fin 16) (peer : PeerInfo) (s : State),
    ((s.port n).step = 1 ∨ (s.port n).step = 2 →
      ∃ u, exec (.portBringupStep n peer) s = .next u ∧ u.port n = { s.port n with step := (s.port n).step + 1 } ∧
        u.reg (kPortState n) = (s.port n).step ∧ SameRegs s u [kPortState n] ∧ u.mem = s.mem) ∧
    ((s.port n).step = 3 →
      ∃ u, exec (.portBringupStep n peer) s = .next u ∧ u.port n = { s.port n with step := 4, peer := some peer } ∧
        u.reg (kPeerModule n) = peer.moduleId.toNat ∧ u.reg (kPeerPort n) = peer.port ∧
        u.reg (kPortState n) = 2 ∧ SameRegs s u [kPeerModule n, kPeerPort n, kPortState n] ∧ u.mem = s.mem) ∧
    ((s.port n).step = 4 → s.admitPeer n peer = 0 →
      ∃ u, exec (.portBringupStep n peer) s = .next u ∧ (u.port n).step = 5 ∧
        (u.port n).txKey = linkKeyOf (u.port n).linkKey 0 (s.reg kModuleId) (s.reg (kPeerModule n)) ∧
        (u.port n).rxKey = linkKeyOf (u.port n).linkKey 0 (s.reg (kPeerModule n)) (s.reg kModuleId) ∧
        (∀ rnd t, s.drbg 48 false = some (rnd, t) → (u.port n).ephemeral = ecPublic (scalarOf rnd) ∧
          (u.port n).linkKey = ecShared (scalarOf rnd) peer.ephemeral) ∧
        (u.port n).txGen = 0 ∧ (u.port n).rxGen = 0 ∧ SameRegs s u [kPortState n] ∧ u.mem = s.mem) ∧
    ((s.port n).step = 4 → s.admitPeer n peer ≠ 0 → s.reg (kPortState n) ≠ 4 →
      ∃ u, exec (.portBringupStep n peer) s = .next u ∧ (u.port n).step = 0 ∧ (u.port n).failed = true ∧
        u.reg (kPortState n) = 4 ∧ u.mem = s.mem) ∧
    ((s.port n).step = 5 →
      ∃ u, exec (.portBringupStep n peer) s = .next u ∧ (u.port n).step = 0 ∧ u.reg (kPortState n) = 3 ∧
        (u.port n).delay = peer.echoDelayNs ∧ SameRegs s u (kPortState n :: logKeys) ∧ u.mem = s.mem))) ∧
  (∀ (n : Fin 16) (c : Instr) (s : State), s.reg (kPortState n) ≠ 4 →
    (c = .portStepTimeout n ∧ (s.port n).step ≠ 0 ∨ c = .laneFail n ∧ s.reg (kPortState n) ≠ 0 ∨
      c = .frameLockLost n ∧ s.reg (kPortState n) = 3) →
    ∃ u, exec c s = .next u ∧ u.reg (kPortState n) = 4 ∧ (u.port n).failed = true ∧ (u.port n).step = 0 ∧
      u.reg (kPortEnable n) = s.reg (kPortEnable n) ∧ u.mem = s.mem ∧
      (∀ p < 8, s.reg (kPortOwner n) = p → (s.part p).state = stRunning →
        (u.part p).state = stHeld ∧ (u.grid p).inGust = false) ∧
      (∀ l ∈ s.fabric.lendings, 8 ≤ s.reg (kPortOwner n) →
        bit l.ports n = true → (∀ i ∈ bitsOf l.ports 16, i = n.val ∨ s.reg (kPortState i) = 4) →
        (∀ x ∈ s.fabric.lendings, x = l ∨ bit x.ports n = false) → l ∉ u.fabric.lendings))

/-- Frames on a port that is UP (R235, R252, R254, R255). An intact frame is opened under the receiving key, or
under the next generation's where it is marked; what it carries is taken, and its credits are returned. A frame with
flits whose CRC fails is held until they have come again, and nothing of it is taken. A replayed flit is counted in
REPLAYS; one that fails once more is counted as that flit's, the eighth time it fails the port; one that completes
its frame lets it be opened. A tag that fails fails the port with TAG_FAILS counted. A rekey moves the sending
direction to its next generation and counts in REKEYS. MODULE_ID (R237) and FWD_ENABLE (R239). With every port DOWN
or FAILED an id in range is taken; with a port in any other state it is refused with 0x7201. A table whose staged
entries name ports of the partition, hops that it allows, and no entry for this module, is in force at once where no
grid is enabled, and FWD_GEN rises. -/
def Obligations.LinkFramesAndForwarding : Prop :=
  ((∀ (n : Fin 16) (f : FrameIn) (plain : List Byte) (s : State), s.reg (kPortState n) = 3 → f.crcFails = [] →
    f.newKey = false → f.replay = none → (s.port n).waiting = [] →
    gcmOpen (s.port n).rxKey (frameNonce (s.port n).rxGen (s.port n).rxFrame) [] f.cipher f.tag = some plain →
    ∃ u, exec (.frameIn n f) s = .next u ∧ SameRegs s u [] ∧ u.mem = s.mem ∧
      u.port n = f.credits.foldl Port.credit { s.port n with
        rxFrame := (s.port n).rxFrame + 1, frames := (s.port n).frames + 1, rxFlits := plain }) ∧
  (∀ (n : Fin 16) (f : FrameIn) (plain : List Byte) (s : State), s.reg (kPortState n) = 3 → f.crcFails = [] →
    f.newKey = true → f.replay = none → (s.port n).waiting = [] →
    let key := linkKeyOf (s.port n).linkKey ((s.port n).rxGen + 1) (s.reg (kPeerModule n)) (s.reg kModuleId)
    gcmOpen key (frameNonce ((s.port n).rxGen + 1) 0) [] f.cipher f.tag = some plain →
    ∃ u, exec (.frameIn n f) s = .next u ∧ (u.port n).rxKey = key ∧ (u.port n).rxGen = (s.port n).rxGen + 1 ∧
      (u.port n).rxFrame = 1 ∧ (u.port n).rxFlits = plain) ∧
  (∀ (n : Fin 16) (f : FrameIn) (s : State), s.reg (kPortState n) = 3 → f.crcFails ≠ [] → f.newKey = false →
    f.replay = none →
    ∃ u, exec (.frameIn n f) s = .next u ∧ SameRegs s u [] ∧ u.mem = s.mem ∧
      u.port n = { s.port n with
        rxFrame := (s.port n).rxFrame + 1, frames := (s.port n).frames + 1
        held := (s.port n).held ++ [⟨frameFlits * (s.port n).frames, (s.port n).rxKey,
          frameNonce (s.port n).rxGen (s.port n).rxFrame, f.cipher, f.tag, f.credits,
          (f.crcFails.map (·.val)).eraseDups⟩] }) ∧
  (∀ (n : Fin 16) (f : FrameIn) (r : ReplayIn) (s : State), s.reg (kPortState n) = 3 → f.crcFails ≠ [] →
    f.newKey = false → f.replay = some r →
    (r.crcOk = false → tabGet (s.port n).replayed r.seq 0 < 7 →
      ∃ u, exec (.frameIn n f) s = .next u ∧ (u.port n).rxFlits = (s.port n).rxFlits ∧
        tabGet (u.port n).replayed r.seq 0 = tabGet (s.port n).replayed r.seq 0 + 1 ∧
        u.reg (kReplays n) = (s.reg (kReplays n) + 1) % 2 ^ keyBits (kReplays n) ∧
        SameRegs s u (kReplays n :: logKeys) ∧ u.mem = s.mem) ∧
    (7 ≤ tabGet (s.port n).replayed r.seq 0 → ∃ u, exec (.frameIn n f) s = .next u ∧ u.reg (kPortState n) = 4) ∧
    (∀ (h : HeldFrame) (plain : List Byte), r.crcOk = true → tabGet (s.port n).replayed r.seq 0 < 7 →
      (s.port n).waiting = [] →
      (s.port n).held.find? (fun x => x.first == r.seq - r.seq % frameFlits && x.missing.contains (r.seq % frameFlits)) =
        some h →
      let g := h.fill (r.seq % frameFlits) (gcmCtr (aesSchedule (s.port n).rxKey)
        (frameNonce (s.port n).rxGen (s.port n).rxFrame) (2 + 768) (chunksOf 16 17 r.cipher))
      g.missing = [] → gcmOpen g.key g.nonce [] g.cipher g.tag = some plain →
      ∃ u, exec (.frameIn n f) s = .next u ∧ (u.port n).rxFlits = plain ∧
        u.reg (kReplays n) = (s.reg (kReplays n) + 1) % 2 ^ keyBits (kReplays n))) ∧
  (∀ (n : Fin 16) (f : FrameIn) (s : State), s.reg (kPortState n) = 3 → f.crcFails = [] → f.newKey = false →
    f.replay = none →
    gcmOpen (s.port n).rxKey (frameNonce (s.port n).rxGen (s.port n).rxFrame) [] f.cipher f.tag = none →
    ∃ u, exec (.frameIn n f) s = .next u ∧ u.reg (kPortState n) = 4 ∧ (u.port n).rxFlits = (s.port n).rxFlits ∧
      u.reg (kTagFails n) = (s.reg (kTagFails n) + 1) % 2 ^ keyBits (kTagFails n)) ∧
  (∀ (n : Fin 16) (s : State), s.reg (kPortState n) = 3 → s.sec.failed = false →
    ∃ u, exec (.rekey n) s = .next u ∧
      u.port n = { s.port n with
        txGen := (s.port n).txGen + 1, txFrame := 0
        txKey := linkKeyOf (s.port n).linkKey ((s.port n).txGen + 1) (s.reg kModuleId) (s.reg (kPeerModule n)) } ∧
      u.reg (kRekeys n) = (s.reg (kRekeys n) + 1) % 2 ^ keyBits (kRekeys n) ∧
      SameRegs s u (kRekeys n :: logKeys) ∧ u.mem = s.mem)) ∧
  ((∀ (r : Requester) (v : BitVec 16) (s : State), s.grants r 0x7001 0x01 2 = true →
    let g := s.granted r 0x7001 0x01
    (v.toNat < 16384 ∨ v.toNat = 0xFFFF) → (∀ n < 16, g.reg (kPortState n) = 0 ∨ g.reg (kPortState n) = 4) →
    ∃ u, exec (.moduleId r v) s = .next u ∧ u.reg kModuleId = v.toNat ∧ u.mem = s.mem ∧
      SameRegs g u ([kModuleId, kCapGen, kBeaconParentPort, kBeaconHops, kAlignState, kAlignErrNs] ++ logKeys)) ∧
  (∀ (r : Requester) (v : BitVec 16) (s : State), s.grants r 0x7001 0x01 2 = true →
    let g := s.granted r 0x7001 0x01
    v.toNat < 16384 → (∃ n < 16, g.reg (kPortState n) ≠ 0 ∧ g.reg (kPortState n) ≠ 4) →
    ∃ u, exec (.moduleId r v) s = .next u ∧ u.reg kModuleId = g.reg kModuleId ∧ u.reg kFabricRefusal = 0x7201 ∧
      u.fabric = s.fabric ∧ u.mem = s.mem) ∧
  (∀ (r : Requester) (p : Fin 8) (s : State), s.grants r (0x7020 + p) 0x02 1 = true →
    let g := s.granted r (0x7020 + p) 0x02
    let es := g.fabric.fwdStaged.filter (fun e => e.1 / 16384 == p.val && fwdValid e.2)
    g.stagedReg (kPortCollShare p) ≤ 32 → (∀ e ∈ es, g.reg (kPortOwner (fwdPort e.2)) = p ∧
      1 ≤ fwdHops e.2 ∧ fwdHops e.2 ≤ g.reg (kJobHops p) ∧ e.1 % 16384 ≠ g.reg kModuleId) →
    g.reg (kGustEnable p) ≠ 1 → (s.fabric.fwdStaged.map (·.1)).Nodup →
    ∃ u, exec (.fwdEnable r p) s = .next u ∧ u.reg (kFwdState p) = 2 ∧
      u.reg (kFwdGen p) = (g.reg (kFwdGen p) + 1) % 2 ^ keyBits (kFwdGen p) ∧
      u.reg (kPortCollShare p) = g.stagedReg (kPortCollShare p) ∧
      (∀ e ∈ es, u.fwdEntry p (e.1 % 16384) = e.2) ∧
      (∀ l ∈ u.locks, l.group ≠ 0x7020 + p.val) ∧ u.mem = s.mem))

/-- Packet headers (R242): every header whose fields fit their widths is read back from its 256 bits as it was
written, every field at every value, and the reserved bits are 0. Where an answer goes (R240, R242, R247): along the
partition's own valid entry for the issuer, else back by the port the request came in on, where that port is UP; its
header carries the request's tag, fence and source, with the reason and the poison bits given. It leaves at once where
the port's slice and credits have room for it (R244, R256), and waits for the port otherwise. -/
def Obligations.PacketHeadersAndIssuers : Prop :=
  (∀ h : Hdr, h.kind < 16 → h.vc < 8 → h.hops < 8 → h.srcPart < 8 → h.dstPart < 8 → h.srcModule < 2 ^ 14 →
    h.len < 16 → h.stage < 16 → h.tag < 2 ^ 16 → h.version < 256 → h.keyIndex < 256 → h.addr < 2 ^ 64 →
    h.fence < 2 ^ 32 → h.reasonOp < 2 ^ 16 → h.poison < 2 ^ 16 →
    unpackHdr (packHdr h) = h ∧ packHdr h < 2 ^ 208 ∧ fld (packHdr h) 30 2 = 0 ∧ fld (packHdr h) 40 8 = 0) ∧
  (∀ (n kind reason poison : Nat) (req : Hdr) (data : List Byte) (s : State),
    let q := s.reg (kPortOwner n)
    let e := if q < 8 then s.fwdEntry q req.srcModule else 0
    let m := if fwdValid e then fwdPort e else n
    kind < 16 → req.tag < 2 ^ 16 → req.fence < 2 ^ 32 → req.srcModule < 2 ^ 14 → reason < 2 ^ 16 → poison < 2 ^ 16 →
    s.reg (kPortState m) = 3 →
    ∃ h, s.answer n kind req reason poison data = (if s.portRoom m h data.length then s.sendNow m h data
        else s.setPort m { s.port m with waiting := (s.port m).waiting ++ [(packHdr h, data)] }) ∧
      (s.sendNow m h data).fabric.packets = s.fabric.packets ++ [⟨m, packHdr h, data⟩] ∧
      (s.sendNow m h data).mem = s.mem ∧
      let hd := packHdr h
      (unpackHdr hd).kind = kind ∧ (unpackHdr hd).tag = req.tag ∧ (unpackHdr hd).fence = req.fence ∧
      (unpackHdr hd).addr = req.srcModule * 2 ^ 50 ∧ (unpackHdr hd).reasonOp = reason ∧
      (unpackHdr hd).poison = poison ∧ (unpackHdr hd).srcModule = s.reg kModuleId % 2 ^ 14)

/-- Requests that arrive for this module (R66, R196, R241, R245, R247, R250). A read or write of one unit whose slice
has room acts as a local access of the partition that owns the port, or of the borrower on a lending's port, counts in
the slice, and is answered with what it met and the VERSION that the line holds; a posted write is not answered; one
without room is kept, in order. A requester that R241 turns away gets a notice with 0x7301, and one on a port that
nobody owns a notice with 0x6302; no memory changes. -/
def Obligations.RequestsServed : Prop :=
  (∀ (n : Fin 16) (k : Packet) (w : Who) (o : LineOut) (s t : State),
    let h := packetHdr 1 k
    let a := h.addr % 2 ^ 50 / 64 * 64
    s.takesPacket n 1 k = true → h.len = 0 → s.requester n h = .ok w → s.admitsArrival w h = true →
    (s.metered w h).readLine w 7 a h.version h.keyIndex = (o, t) →
    (o.err = 0 → exec (.readRequest n k) s =
      .next (t.answer n 2 { h with version := (s.metered w h).versionAt a } 0 (if o.poison then 1 else 0) o.data).closeRanges) ∧
    (o.err ≠ 0 → exec (.readRequest n k) s = .next (t.notice n h (remoteReason o.err)).closeRanges)) ∧
  (∀ (n : Fin 16) (k : Packet) (w : Who) (s t : State),
    let h := packetHdr 3 k
    s.takesPacket n 3 k = true → h.len = 0 → s.requester n h = .ok w → s.admitsArrival w h = true →
    (s.metered w h).writeLine w 7 (h.addr % 2 ^ 50 / 64 * 64) h.version h.keyIndex k.data (bit h.poison 0) = (0, t) →
    exec (.writeAcknowledged n k) s = .next (t.answer n 5 h 0 0 []).closeRanges) ∧
  (∀ (n : Fin 16) (k : Packet) (w : Who) (s t : State),
    let h := packetHdr 4 k
    s.takesPacket n 4 k = true → h.len = 0 → s.requester n h = .ok w → s.admitsArrival w h = true →
    (s.metered w h).writeLine w 7 (h.addr % 2 ^ 50 / 64 * 64) h.version h.keyIndex k.data (bit h.poison 0) = (0, t) →
    exec (.postedWrite n k) s = .next t.closeRanges) ∧
  (∀ (n : Fin 16) (k : Packet) (w : Who) (c : Nat × Instr) (s : State),
    c ∈ [(1, .readRequest n k), (3, .writeAcknowledged n k), (4, Instr.postedWrite n k)] →
    s.takesPacket n c.1 k = true → s.requester n (packetHdr c.1 k) = .ok w →
    s.admitsArrival w (packetHdr c.1 k) = false →
    exec c.2 s = .next { s with fabric := { s.fabric with
      arrivals := s.fabric.arrivals ++ [⟨n, packHdr (packetHdr c.1 k), k.data⟩] } }) ∧
  (∀ (n : Fin 16) (k : Packet) (s : State) (c : Nat × Instr) (r : Reason),
    c ∈ [(1, .readRequest n k), (3, .writeAcknowledged n k), (4, .postedWrite n k), (6, .fetchAdd n k)] →
    s.takesPacket n c.1 k = true → s.requester n (packetHdr c.1 k) = .error r →
    (r = 0x7301 ∨ r = 0x6302) ∧
    ∃ u, exec c.2 s = .next u ∧ u.mem = s.mem ∧
      SameRegs s u (if r = 0x7301 then [kNoticesSent] else kNoticesSent :: logKeys) ∧
      u.reg kNoticesSent = (s.reg kNoticesSent + 1) % 2 ^ keyBits kNoticesSent)

/-- The atomics (R246). An atomic that passes R241 and whose slice has room, with its operand and compare value in the
data, answers with the old word. Its effect on an aligned word of an intact line that takes the write: a read that
expects the version stored plus one, skipping 0, finds the word that the operation leaves and the other 56 bytes as
they were; a compare that fails, and a line read as poisoned, change nothing in memory. -/
def Obligations.Atomics : Prop :=
  (∀ (n : Fin 16) (k : Packet) (w : Who) (c : Nat × Instr) (old : Nat) (bad : Bool) (s t : State),
    let h := { packetHdr 6 k with reasonOp := c.1 }
    let a := h.addr % 2 ^ 50
    c ∈ [(0, Instr.fetchAdd n k), (1, .fetchMin n k), (2, .fetchMax n k), (3, .fetchOr n k), (4, .fetchAnd n k),
         (5, .swap n k), (6, .cmpSwap n k)] →
    s.takesPacket n 6 k = true → (packetHdr 6 k).reasonOp ≤ 6 → s.requester n h = .ok w → a % 8 = 0 →
    s.admitsArrival w h = true →
    (s.metered w h).atomic w a h.version h.keyIndex c.1 (ofLe (k.data.take 8)) (ofLe ((k.data.drop 8).take 8)) =
      (0, old, bad, t) →
    exec c.2 s = .next (t.answer n 7 h 0 (b2n bad) (leBytes 64 old)).closeRanges) ∧
  (∀ (w : Who) (a version key op x cmp old : Nat) (data : List Byte) (s s1 t : State),
    s.MemOk → op ≤ 6 → a % 8 = 0 → data.length = 64 →
    s.readLine w 7 (a / 64 * 64) version key = (⟨data, false, false, 0⟩, s1) →
    s.atomic w a version key op x cmp = (0, old, false, t) →
    let ver := s.versionAt a
    let word := ofLe ((data.drop (a % 64)).take 8)
    let new := match op with
      | 0 => (word + x) % 2 ^ 64
      | 1 => min word x
      | 2 => max word x
      | 3 => word ||| x
      | 4 => word &&& x
      | _ => x
    old = word ∧
      (op = 6 → word ≠ cmp → t = s1) ∧
      (¬ (op = 6 ∧ word ≠ cmp) → (t.readLine w 7 (a / 64 * 64) (if ver = 255 then 1 else ver + 1) key).1.data =
        data.take (a % 64) ++ leBytes 8 new ++ data.drop (a % 64 + 8))) ∧
  (∀ (w : Who) (a version key op x cmp : Nat) (o : LineOut) (s s1 : State),
    s.readLine w 7 (a / 64 * 64) version key = (o, s1) → o.poison = true → o.err = 0 ∨ o.err = 0x6501 →
    ∃ old, s.atomic w a version key op x cmp = (0, old, true, s1))

/-- What comes back to this module (R245 to R248). An acknowledgement or a response ends the request that its tag
names, which a port of the partition that asked has to bring: an atomic's old word is kept for the core that asked, a
stream's line lands in its cell line with its poison (where no compute entry writes that line in the same cycle, R88). A
failure notice latches its reason in the fence, with REMOTE; one whose fence is not a live one of the port's partition
is stale. A request
without an answer after REMOTE_TIMEOUT_US latches 0x7601 and faults its partition; before that, nothing but the time
passes. -/
def Obligations.AnswersTaken : Prop :=
  (∀ (n : Fin 16) (k : Packet) (r : Remote) (s : State), s.takesPacket n 5 k = true →
    s.waiting n (packetHdr 5 k).tag [3] = some r →
    exec (.writeAcknowledgement n k) s = .next { s with fabric := { s.fabric with
      remotes := s.fabric.remotes.filter (fun x => x.tag != r.tag) } }) ∧
  (∀ (n : Fin 16) (k : Packet) (r : Remote) (s : State), s.takesPacket n 7 k = true →
    s.waiting n (packetHdr 7 k).tag [6] = some r →
    exec (.atomicResponse n k) s = .next { s with fabric := { s.fabric with
      remotes := s.fabric.remotes.filter (fun x => x.tag != r.tag)
      atomics := s.fabric.atomics ++ [(r.tag, ofLe (k.data.take 8), bit (packetHdr 7 k).poison 0)] } }) ∧
  (∀ (n : Fin 16) (k : Packet) (r : Remote) (c x first : Nat) (t : Transfer) (s : State), s.MemOk →
    s.takesPacket n 2 k = true → s.waiting n (packetHdr 2 k).tag [1] = some r → r.sink = .lines c x first 1 →
    s.transfer? c x = some t → (xferDesc t.desc).cellAddr first < cellLines → c < 512 → s.stalled = [] →
    s.cellTaken c ((xferDesc t.desc).cellAddr first) = false →
    ∃ u, exec (.readResponse n k) s = .next u ∧ (∀ y ∈ u.fabric.remotes, y.tag ≠ r.tag) ∧
      u.cellLine c ((xferDesc t.desc).cellAddr first) = padTo 64 0 (k.data.take 64) ∧
      u.cellPoisoned c ((xferDesc t.desc).cellAddr first) = bit (packetHdr 2 k).poison 0 ∧
      (∃ t', u.transfer? c x = some t' ∧ t'.landed = t.landed + 1)) ∧
  (∀ (n : Fin 16) (k : Packet) (f : Fence) (s : State), s.takesPacket n 8 k = true →
    let h := packetHdr 8 k
    s.noticeFence (s.reg (kPortOwner n)) h.fence = some f → f.err = false → h.reasonOp ≠ 0 →
    h.reasonOp ≠ 0x6502 → h.reasonOp ≠ 0x5403 → s.stalled = [] →
    s.waiting n h.tag [1, 3, 6] = none →
    ∃ u, exec (.failureNotice n k) s = .next u ∧ u.mem = s.mem ∧
      (∃ g, u.fence? h.fence = some g ∧ g.err = true ∧ g.remote = true ∧ g.reason = h.reasonOp) ∧
      u.reg kNoticesReceived = (s.reg kNoticesReceived + 1) % 2 ^ keyBits kNoticesReceived ∧
      SameRegs s u (kNoticesReceived :: logKeys)) ∧
  (∀ (n : Fin 16) (k : Packet) (s : State), s.takesPacket n 8 k = true → s.stalled = [] →
    s.noticeFence (s.reg (kPortOwner n)) (packetHdr 8 k).fence = none →
    ∃ u, exec (.failureNotice n k) s = .next u ∧ u = { s with dict := u.dict } ∧ SameRegs s u [kNoticesStale] ∧
      u.reg kNoticesStale = (s.reg kNoticesStale + 1) % 2 ^ keyBits kNoticesStale) ∧
  (∀ (tag : BitVec 16) (t : Nat) (r : Remote) (s : State),
    s.fabric.remotes.find? (fun x => x.tag == tag.toNat) = some r →
    (max s.now t < r.since + s.reg kRemoteTimeoutUs * 1000 → exec (.remoteTimeout tag t) s = .next (s.tick t)) ∧
    (r.since + s.reg kRemoteTimeoutUs * 1000 ≤ max s.now t →
      ∃ u, exec (.remoteTimeout tag t) s = .next u ∧ (∀ y ∈ u.fabric.remotes, y.tag ≠ r.tag) ∧ u.mem = s.mem ∧
        (∀ f, s.fence? r.fence = some f → f.err = false →
          ∃ g, u.fence? r.fence = some g ∧ g.err = true ∧ g.reason = 0x7601) ∧
        (r.part < 8 → (s.part r.part).state = stRunning → (u.part r.part).state = stHeld)))

/-- Lendings (R249 to R251). A request on a port that is UP, which fits one far group that can be lent and one free
range entry, and names free ports UP that lead to the borrower, gives its ports to the lending, fills the entry with
owner 0x80, the place and the borrower, enables it, counts in LENT_BYTES, and is answered with the global base address;
one whose size is no non-zero multiple of 64 KiB is refused with 0x7401, which answers it, and changes nothing else. The
end of a lending closes its entry, returns its ports and has the range scrubbed. -/
def Obligations.Lendings : Prop :=
  (∀ (n : Fin 16) (q : LendRequest) (x : LendPiece) (e : Fin 64) (s : State), s.reg (kPortState n) = 3 →
    q.sizeBytes ≠ 0 → q.sizeBytes % 65536 = 0 → s.placeLending q.sizeBytes = (0, [x]) →
    s.reg (kOwner e) = 0xFF → (∀ i < e.val, s.reg (kOwner i) ≠ 0xFF) →
    s.reg kLentBytes + q.sizeBytes ≤ s.reg kLendLimitGib * 2 ^ 30 →
    s.lentRate x.group + q.rateBpu ≤ s.activeChannels (16 + x.group) * 14500 →
    (∀ i ∈ bitsOf q.ports.toNat 16, s.reg (kPortState i) = 3 ∧ s.reg (kPortOwner i) = 0xFF ∧
      s.reg (kPeerModule i) = q.borrower.toNat) →
    ∃ u, exec (.lendRequest n q) s = .next u ∧ u.mem = s.mem ∧ u.reg (kOwner e) = 0x80 ∧
      u.reg (kBase e) = x.base % 2 ^ 64 ∧ u.reg (kSize e) = x.size % 2 ^ 64 ∧ u.reg (kRangeState e) = 1 ∧
      u.reg (kLendState e) = 1 ∧ u.reg (kLentTo e) = q.borrower.toNat + q.partition.val * 2 ^ 14 ∧
      (∀ i ∈ bitsOf q.ports.toNat 16, u.reg (kPortOwner i) = 0x80) ∧
      u.reg kLentBytes = (s.reg kLentBytes + q.sizeBytes) % 2 ^ 64 ∧
      u.fabric.lendings = s.fabric.lendings ++ [⟨e, q.borrower.toNat, q.partition, q.ports.toNat, q.rateBpu⟩] ∧
      u.fabric.lendAnswers = s.fabric.lendAnswers ++
        [⟨n, q.borrower.toNat, q.partition, 0, [s.reg kModuleId * 2 ^ 50 + x.base]⟩]) ∧
  (∀ (n : Fin 16) (q : LendRequest) (s : State), s.reg (kPortState n) = 3 →
    (q.sizeBytes = 0 ∨ q.sizeBytes % 65536 ≠ 0) →
    ∃ u, exec (.lendRequest n q) s = .next u ∧ u.reg kFabricRefusal = 0x7401 ∧ SameRegs s u [kFabricRefusal] ∧
      u = { s with dict := u.dict, fabric := { s.fabric with lendAnswers := s.fabric.lendAnswers ++
        [⟨n, q.borrower.toNat, q.partition, 0x7401, []⟩] } }) ∧
  (∀ (e : Fin 64) (l : Lending) (s : State), s.fabric.lendings.find? (fun x => x.entry == e) = some l →
    ∃ u, exec (.lendEnd e) s = .next u ∧ u.mem = s.mem ∧ u.reg (kRangeState e) = 0 ∧ u.reg (kRangeEnable e) = 0 ∧
      u.reg (kLendState e) = 2 ∧ (∀ i ∈ bitsOf l.ports 16, u.reg (kPortOwner i) = 0xFF) ∧
      l ∉ u.fabric.lendings ∧ .lent e ∈ u.enc.scrubbing)

/-- ENTRY_COMPLETE (R55, R77, R88, R89). The END of a unit's plan is noted when it is the plan's next entry, its
cycle is reached and nothing of the unit stalls. An entry of a cluster that ends, and with which no entry of another
unit of the cluster ends in one cycle, is off its unit, its writes stand in the cell stores, the last one over the
earlier, no other byte of a cell store has changed, the array keeps or drops what it holds, and the fence it signals
has advanced by 1. UPD_ENABLE (R304, R305) and CKPT_ENABLE (R326). Settings that pass every check are in force
together, and the lock is released; a refused set records its code and commits nothing. -/
def Obligations.EngineEntriesAndSettings : Prop :=
  ((∀ (p : Fin 8) (x : Fin 519) (s : State), s.comesTo p x 15 0 = true →
    ∃ u, exec (.entryComplete p x 15) s = .next u ∧ u = { s with grids := u.grids } ∧
      u.grid p = { s.grid p with ended := (s.grid p).ended ++ [x.val] }) ∧
  (∀ (p : Fin 8) (x : Fin 519) (y : BitVec 4) (r : Running) (s : State), y ≠ 15 → x.val < 512 → s.MemOk →
    s.stalled = [] → s.running.find? (fun z => z.part == p.val && z.unitId == x.val && z.unit == y.toNat) = some r →
    r.tiles = none → r.load = none → r.work = none → (∀ z ∈ s.running, s.rivals r z = false) →
    ∃ u, exec (.entryComplete p x y) s = .next u ∧ SameRegs s u [] ∧
      u.mem.host = s.mem.host ∧ u.mem.flash = s.mem.flash ∧ u.mem.metadata = s.mem.metadata ∧
      (∀ z, z ∈ u.running ↔ z ∈ s.running ∧ ¬ (z.part = p.val ∧ z.unitId = x.val ∧ z.unit = y.toNat)) ∧
      (y = 0 → ∀ h, r.held = some h → tabGet u.held x ⟨0, 0, 0, false, [], []⟩ = h) ∧
      (y ≠ 0 → u.held = s.held) ∧
      (∀ c a, c < 512 → a < cellBytes →
        (∀ w ∈ r.puts, ¬ (w.cluster = c ∧ w.addr ≤ a ∧ a < w.addr + w.data.length)) →
        u.cellByte c a = s.cellByte c a) ∧
      (∀ ps w, r.puts = ps ++ [w] → w.cluster < 512 → ∀ i < w.data.length, w.addr + i < cellBytes →
        u.cellByte w.cluster (w.addr + i) = w.data.getD i 0) ∧
      (∀ f, s.fence? r.signal = some f → r.signal ≠ 0 → f.err = false → f.hostSignal = false →
        ∃ g, u.fence? r.signal = some g ∧ g.value = (f.value + 1) % 2 ^ 64))) ∧
  ((∀ (r : Requester) (p : Fin 8) (s : State), s.grants r (0x7810 + p) 0x11 1 = true →
    let g := s.granted r (0x7810 + p) 0x11
    ((updOp p g).1 = 0 →
      ∃ u, exec (.updEnable r p) s = .next u ∧ (∀ k ∈ updKeys p, u.reg k = g.stagedReg k % 2 ^ keyBits k) ∧
        (∀ l ∈ u.locks, l.group ≠ 0x7810 + p.val) ∧ u.mem = s.mem) ∧
    (g.updRangesOk p = false →
      ∃ u, exec (.updEnable r p) s = .next u ∧ u.reg (kUpdateRefusal p) = 0x8002 ∧
        (∀ k ∈ updKeys p, u.reg k = s.reg k) ∧ u.staged = s.staged ∧ u.mem = s.mem)) ∧
  (∀ (r : Requester) (p : Fin 8) (s : State), s.grants r (0x8010 + p) 0x0A 1 = true →
    let g := s.granted r (0x8010 + p) 0x0A
    ((ckptOp p g).1 = 0 →
      ∃ u, exec (.ckptEnable r p) s = .next u ∧
        (∀ k ∈ groupKeys (0x8010 + p), u.reg k = g.stagedReg k % 2 ^ keyBits k) ∧
        (∀ l ∈ u.locks, l.group ≠ 0x8010 + p.val) ∧ u.mem = s.mem) ∧
    (g.ckptRangesOk p = false →
      ∃ u, exec (.ckptEnable r p) s = .next u ∧ u.reg (kCkptRefusal p) = 0x9002 ∧
        (∀ k ∈ groupKeys (0x8010 + p), u.reg k = s.reg k) ∧ u.staged = s.staged ∧ u.mem = s.mem)))

/-- Sums of contributions do not depend on their order (R265): however the contributions to a line are ordered, the
exact sum rounded once has the same 64 bytes, zeros, infinities and NaN among them. -/
def Obligations.SumsIgnoreOrder : Prop :=
  ∀ l1 l2 : List (List Byte), l1.Perm l2 → combine false l1 = combine false l2

/-- Shards of a region (R272): at level 1 the region is all the lines; the shards of a region of a level's radix lie
one behind the other and cover it exactly; what a level's entry leaves its member with is the region of the next
level, and the regions of ranks that agree in every lower digit are the same. -/
def Obligations.ShardsTileTheRegion : Prop :=
  ∀ (g : Group) (r lines : Nat),
    g.region r 1 lines = (0, lines) ∧ (∀ i, 1 ≤ i → g.region r (i + 1) lines = g.own r i lines) ∧
    (∀ i, let x := g.region r i lines
      let n := g.radix i
      x.1 ≤ x.2 ∧ x.2 ≤ lines ∧ (shardOf x.1 x.2 n 0).1 = x.1 ∧ (shardOf x.1 x.2 n (n - 1)).2 = x.2 ∧
        (∀ d, (shardOf x.1 x.2 n d).2 = (shardOf x.1 x.2 n (d + 1)).1) ∧
        ∀ a, x.1 ≤ a → a < x.2 → ∃ d < n, (shardOf x.1 x.2 n d).1 ≤ a ∧ a < (shardOf x.1 x.2 n d).2) ∧
    (∀ i q, (∀ j, 1 ≤ j → j < i → g.digit q j = g.digit r j) → g.region q i lines = g.region r i lines)

/-- Collective entries that issue and pass the checks of R282 (R271 to R275). One of no lines is counted and is
complete. A TILE_SINK opens its window, reads nothing, and is complete; a LOCAL_SUM of two sources leaves their
combined line at its destination; the exchanges send what their shards hold and run until their data is in, holding
their descriptor as the active one: a REDUCE_SCATTER sums a line of its shard once its counts have passed it, and
waits where they have not. A refused descriptor records its code and sends nothing. COLLECTIVE_DATA (R274): a line
for a staging slot of a live group, from a member that R241 lets in, is written there and counted for its level and
digit. -/
def Obligations.CollectiveEntriesAndArrivals : Prop :=
  (∀ (p : Fin 8) (a : BitVec 64) (d : Desc) (s : State),
    let g0 := s.issued p 0x200
    let act := { g0 with coll := { g0.coll with active := tabSet g0.coll.active p d.toNat } }
    let run := fun (s : State) (ns : Nat) (fence : Nat) =>
      s.runEntry ⟨p, 0x200, 9, s.now, ns * s.fCore p / 1000, [], none, none, 0, fence, none, none⟩
    let is := fun (k : Nat) (x : CollDesc) => x = { collDesc d.toNat with cop := k } ∧
      1 ≤ (collDesc d.toNat).cop ∧ (collDesc d.toNat).cop ≤ 5 ∧
      s.mayIssue p 0x200 9 a.toNat (s.collAwaits p x) = true
    (∀ (c : Nat × Instr) (x : CollDesc),
      c ∈ [(1, .tileSink p a d), (2, .localSum p a d), (3, .reduceScatter p a d), (4, .allGather p a d),
        (5, .broadcast p a d)] → is c.1 x → g0.collCheck p a.toNat x = 0 → x.lines = 0 → x.signal = false →
      exec c.2 s = .next ((act.bumpReg kEmptyCollectives 1).collFinish p)) ∧
    (∀ x, is 1 x → g0.collCheck p a.toNat x = 0 → x.lines ≠ 0 → x.signal = false →
      exec (.tileSink p a d) s = .next (({ act with coll := { act.coll with
        windows := act.coll.windows ++ [(⟨p, x.count, x.group, d.toNat, 0⟩ : TileWindow)] } } : State).collFinish p)) ∧
    (∀ (x : CollDesc) (l1 l2 : List Byte) (b : Bool) (s1 s2 t : State), is 2 x → g0.collCheck p a.toNat x = 0 → x.lines = 1 →
      x.count = 1 → x.norm = false → x.signal = false →
      act.collRead p 0 x.src x.src x.srcVer = (l1, false, 0, s1) →
      s1.collRead p 0 x.src (x.src + 64 * x.stride) x.srcVer = (l2, false, 0, s2) →
      s2.collWrite p 0 x.dst x.dst x.dstVer (combine x.maxOp [l1, l2]) false = (0, b, t) →
      exec (.localSum p a d) s = .next (run t (2000 + 2 * 64 / 8000) 0)) ∧
    (∀ (x : CollDesc) (g : Group) (t : State), is 3 x → g0.collCheck p a.toNat x = 0 → x.lines ≠ 0 →
      act.group? x.group = some g → act.sendAll p x g = t →
      let u := run t (t.collBound p x g) (if x.signal then g.fence else 0)
      exec (.reduceScatter p a d) s = .next (u.reduce p x g) ∧
      (∀ (e : Nat × Nat) (l : List (Nat × Nat)), u.sumLines g x = e :: l → tabGet u.coll.waits p 0 = 0 →
        u.lineIn p g x e.1 e.2 = false →
        u.reduce p x g = { u with coll := { u.coll with waits := tabSet u.coll.waits p 0 } }) ∧
      (∀ (e : Nat × Nat), u.sumLines g x = [e] → tabGet u.coll.waits p 0 = 0 → u.lineIn p g x e.1 e.2 = true →
        u.reduce p x g = (u.sumLine p x g e.1 e.2).useCounts p x g)) ∧
    (∀ (c : Nat × Instr) (x : CollDesc) (g : Group) (t : State), c ∈ [(4, .allGather p a d), (5, .broadcast p a d)] →
      is c.1 x → g0.collCheck p a.toNat x = 0 → x.lines ≠ 0 → act.group? x.group = some g → act.sendAll p x g = t →
      exec c.2 s = .next (run t (t.collBound p x g) (if x.signal then g.fence else 0))) ∧
    (∀ (c : Nat × Instr) (x : CollDesc),
      c ∈ [(1, .tileSink p a d), (2, .localSum p a d), (3, .reduceScatter p a d), (4, .allGather p a d),
        (5, .broadcast p a d)] → is c.1 x → g0.collCheck p a.toNat x ≠ 0 →
      ∃ u, exec c.2 s = .next u ∧ u.reg kCollRefusal = g0.collCheck p a.toNat x % 2 ^ keyBits kCollRefusal ∧
        u.fabric.packets = g0.fabric.packets ∧ u.mem = s.mem ∧ u.coll.commits.all (fun x => x.part != p.val) ∧
        (u.part p).state = stHeld)) ∧
  (∀ (n : Fin 16) (k : Packet) (q : Nat) (g : Group) (s t : State),
    let h := packetHdr 9 k
    let va := h.addr % 2 ^ 50
    s.takesPacket n 9 k = true → h.len = 0 → s.requester n h = .ok (.part q) →
    s.objs.groups.find? (fun g => hPart g.handle == q && decide (2 ≤ g.state) && g.no == h.tag) = some g →
    (s.memobjAt q va).isSome = true → s.writeVa q 7 va h.version 0 k.data (bit h.poison 0) = (0, t) →
    1 ≤ h.stage → h.stage ≤ 7 → g.slotLines ≠ 0 → g.slotAddr h.stage 0 ≤ va →
    va - g.slotAddr h.stage 0 < 64 * (64 * g.slotLines) → t.coll.waits.any (fun w => w.1 == q) = false →
    let key := countKey q g.no h.stage ((va - g.slotAddr h.stage 0) / (64 * g.slotLines))
    ∃ u, exec (.collectiveData n k) s = .next u ∧ u.countOf key = t.countOf key + 1 ∧
      u = { t with coll := { t.coll with counts := u.coll.counts, nans := u.coll.nans } })

/-- Update entries that issue and pass the checks of R300 (R290, R292, R297 to R299, R302, R322). An entry that has
no chunk to do is counted and complete; one that has runs for its bound and does its chunks as time passes, the last
ones when it completes. A chunk whose gradient is refused is counted and writes nothing; one that is taken, by a
partition that is not held, leaves the engine's progress past its last parameter. FOLD adds the record's norm to
NORM_SQ_ACC, or marks the step bad. CLOSE sets NORM_CUR to the root and its flag. STEP_END keeps NORM_CUR as
NORM_PREV unless the step was bad, clears the sum and the flags, and advances UPD_STEP. -/
def Obligations.UpdateEntries : Prop :=
  (∀ (p : Fin 8) (a : BitVec 64) (d : Desc) (s : State),
    let g := s.issued p 0x201
    let is := fun (k : Nat) (x : UpdDesc) => x = { updDesc d.toNat with uop := k } ∧ (updDesc d.toNat).uop ≤ 4 ∧
      s.mayIssue p 0x201 9 a.toNat (k == 0 && s.windowPends p x.grad (ceilDiv (4 * x.params) 64)) = true ∧
      g.inNear p a.toNat = true
    let sig := fun (x : UpdDesc) (t : State) => if x.signal then t.reg (kUpdFence p) else 0
    let run := fun (x : UpdDesc) (t : State) (n : Nat) =>
      let f := t.firstChunk p x
      let ns := t.updBound p { x with params := x.params - 256 * f }
      t.runEntry ⟨p, 0x201, 9, t.now, ns * t.fCore p / 1000, [], none, none, 0, sig x t, none,
        some ⟨a.toNat, d.toNat, x.uop, n, f, f, ceilDiv x.params 256, ns, false, false⟩⟩
    (∀ (x : UpdDesc) (n : Nat) (t : State), is 0 x → g.commitRecord p x = (n, t) → t.updCheck p a.toNat n x = 0 →
      (ceilDiv x.params 256 ≤ t.firstChunk p x →
        exec (.adamw p a d) s = .next ((t.bumpReg (kEmptyUpdates p) 1).signalOr (sig x t) 1)) ∧
      (t.firstChunk p x < ceilDiv x.params 256 → exec (.adamw p a d) s = .next (run x t n))) ∧
    (∀ x, is 1 x → g.updCheck p a.toNat 0 x = 0 →
      (x.params = 0 → exec (.initW p a d) s = .next ((g.bumpReg (kEmptyUpdates p) 1).signalOr (sig x g) 1)) ∧
      (0 < x.params → exec (.initW p a d) s = .next (run x g 0))) ∧
    (∀ (x : UpdDesc) (n : Nat) (t : State), is 2 x → g.commitRecord p x = (n, t) → t.updCheck p a.toNat n x = 0 →
      ∃ u, exec (.fold p a d) s = .next u ∧ SameRegs t u [kNormSqAcc p, kUpdFlags p] ∧ u.mem = t.mem ∧
        (bit n 80 = false → bit n 81 = false → bit n 82 = false →
          u.reg (kNormSqAcc p) = f32add (t.reg (kNormSqAcc p)) (toF32 ((ofF32 (fld n 0 32)).div
            (ofInt ((fld n 64 15 * fld n 64 15 : Nat) : Int)))) % 2 ^ 32 ∧ u.updFlag p 0 = false) ∧
        (bit n 80 = true ∨ bit n 81 = true ∨ bit n 82 = true →
          u.reg (kNormSqAcc p) = t.reg (kNormSqAcc p) ∧ u.updFlag p 2 = true ∧ u.updFlag p 0 = false)) ∧
    (∀ x, is 3 x → g.updCheck p a.toNat 0 x = 0 → g.reg (kClipMode p) ≠ 1 →
      ∃ u, exec (.closeStep p a d) s = .next u ∧ u.reg (kNormCur p) = f32sqrt (g.reg (kNormSqAcc p)) % 2 ^ 32 ∧
        u.updFlag p 0 = true ∧ u.updFlag p 1 = g.updFlag p 1 ∧ u.updFlag p 2 = g.updFlag p 2 ∧
        SameRegs g u ([kNormCur p, kUpdFlags p] ++ logKeys) ∧ u.mem = s.mem) ∧
    (∀ x, is 4 x → g.updCheck p a.toNat 0 x = 0 →
      ∃ u, exec (.stepEnd p a d) s = .next u ∧
        u.reg (kNormPrev p) = (if g.updFlag p 2 then g.reg (kNormPrev p) else g.reg (kNormCur p) % 2 ^ 32) ∧
        u.reg (kNormSqAcc p) = 0 ∧ u.reg (kUpdFlags p) = 0 ∧ u.mem = s.mem ∧
        u.reg (kUpdStep p) = (g.reg (kUpdStep p) + 1) % 2 ^ keyBits (kUpdStep p) ∧
        (u.grid p).stepDue = true ∧ (u.job p).stepsSince = (s.job p).stepsSince + 1)) ∧
  (∀ (p : Fin 8) (w : EngineWork) (s : State),
    let x := { updDesc w.desc with uop := w.op }
    let n := min 256 (x.params - 256 * w.done)
    let u := s.updChunk p w
    let past := w.addr % 2 ^ 64 + (x.base * 256 + 256 * w.done + n) % 2 ^ 64 * 2 ^ 64
    (w.op = 0 →
      let c := s.chunkGrad p x w.done n
      (c.1 ≠ 0 → u.mem = c.2.2.mem ∧
        u.reg (kChunksRefused p) = (c.2.2.reg (kChunksRefused p) + 1) % 2 ^ keyBits (kChunksRefused p)) ∧
      (c.1 = 0 → (u.grid p).held = false → u.reg (kUpdProgress p) = past)) ∧
    (w.op = 1 → (u.grid p).held = false → u.reg (kUpdProgress p) = past)) ∧
  (∀ (p : Fin 8) (r : Running) (w : EngineWork) (s : State),
    s.running.find? (fun r => r.part == p.val && r.unitId == 0x201) = some r → r.unit = 9 → r.work = some w →
    w.done + 1 = w.total →
    exec (.entryComplete p 0x201 9) s = .next (match (s.updChunk p w).runningOn p 0x201 9 with
      | none => s.updChunk p w
      | some e =>
        let t := ((s.updChunk p w).finishEntry e).retry p 0x201
        if e.tiles.isNone then t else t.retryAll))

/-- Checkpoint entries that issue and pass the checks of R313 (R311, R318). One of no parameters is complete; a copy
is in the shard table, with NORM_PREV kept from the first, and restore and peer entries record no shard. A copy or a
restore runs for its bound and does its chunks as time passes, the last one when it completes; a chunk moves its
four arrays in their order. The lines that the peer must send are asked for at issue. -/
def Obligations.CheckpointEntries : Prop :=
  (∀ (p : Fin 8) (a : BitVec 64) (d : Desc) (s : State),
    let g := s.issued p 0x202
    let is := fun (k : Nat) (x : CkptDesc) => x = { ckptDesc d.toNat with cop := k } ∧ (ckptDesc d.toNat).cop < 3 ∧
      s.mayIssue p 0x202 9 a.toNat
        (k == 0 && x.arrays.any (fun va => s.windowPends p va (ceilDiv (2 * x.params) 64))) = true ∧
      g.ckptCheck p a.toNat x = 0
    let sig := fun (x : CkptDesc) => if x.signal then g.reg (kCkptFence p) else 0
    let run := fun (t : State) (x : CkptDesc) (done : Nat) =>
      let ns := t.ckptBound p x
      t.runEntry ⟨p, 0x202, 9, t.now, ns * t.fCore p / 1000, [], none, none, 0, sig x, none,
        some ⟨a.toNat, d.toNat, x.cop, 0, 0, done, ceilDiv x.params 256, ns, false, false⟩⟩
    (∀ x, is 0 x → x.params = 0 → ∃ u, exec (.ckptCopy p a d) s = .next u ∧
      u = (g.noteShard p x).signalOr (sig x) 1 ∧
      ⟨x.shard, x.base, x.params, x.snap, x.dstVer, false, false, []⟩ ∈ (u.job p).shards ∧
      (u.job p).snapNorm = some ((s.job p).snapNorm.getD (s.reg (kNormPrev p)))) ∧
    (∀ x, is 0 x → 0 < x.params → exec (.ckptCopy p a d) s = .next (run (g.noteShard p x) x 0)) ∧
    (∀ x, is 1 x → 0 < x.params → exec (.restore p a d) s = .next (run g x 0)) ∧
    (∀ x, is 2 x → 0 < x.params → x.params ≤ 256 →
      let t := run g x 1
      let f := g.reg (kCkptFence p)
      let t1 := t.askPeer p f x x.params x.high
      let t2 := t1.askPeer p f x x.params x.low
      let t3 := t2.askPeer p f x x.params x.m
      exec (.peerCopy p a d) s = .next (t3.askPeer p f x x.params x.v)) ∧
    (∀ (c : Nat × Instr) (x : CkptDesc), c ∈ [(1, .restore p a d), (2, .peerCopy p a d)] → is c.1 x → x.params = 0 →
      exec c.2 s = .next (g.signalOr (sig x) 1))) ∧
  (∀ (p : Fin 8) (x : CkptDesc) (n : Nat) (s : State),
    let f := s.reg (kCkptFence p)
    let cnt := min 256 (x.params - 256 * n)
    let live := fun (b : Nat) => b + 512 * n
    let snap := fun (k : Nat) => x.snap + 2048 * n + 512 * k
    (x.cop = 0 →
      let t1 := s.copyOut p f x cnt (live x.high) (snap 0)
      let t2 := t1.copyOut p f x cnt (live x.low) (snap 1)
      let t3 := t2.copyOut p f x cnt (live x.m) (snap 2)
      s.ckptChunk p x n = t3.copyOut p f x cnt (live x.v) (snap 3)) ∧
    (x.cop = 1 →
      let t1 := s.copyBack p f x cnt (snap 0) (live x.high)
      let t2 := t1.copyBack p f x cnt (snap 1) (live x.low)
      let t3 := t2.copyBack p f x cnt (snap 2) (live x.m)
      s.ckptChunk p x n = t3.copyBack p f x cnt (snap 3) (live x.v))) ∧
  (∀ (p : Fin 8) (r : Running) (w : EngineWork) (s : State),
    s.running.find? (fun r => r.part == p.val && r.unitId == 0x202) = some r → r.unit = 9 → r.work = some w →
    w.done + 1 = w.total → s.peerPending p = false → w.op < 2 →
    let t := (s.ckptChunk p { ckptDesc w.desc with cop := w.op } w.done).setWork p 0x202 { w with done := w.total }
    exec (.entryComplete p 0x202 9) s = .next (match t.runningOn p 0x202 9 with
      | none => t
      | some e => if t.unfinished e then t else
        let t := (t.finishEntry e).retry p 0x202
        if e.tiles.isNone then t else t.retryAll))

/-- Snapshots (R308, R309, R316 to R319). A trigger that is due arms at once and shows it in CKPT_STATE, and waits
while a drain or load runs, counted in CKPT_DEFERRED. A drain seals the next shard of this module's own, in order; when
none is left, none was refused and no trigger has armed or waits, the manifest is written, LAST_SEALED_STEP is the
snapshot's and the engine idles. A load in a partition whose grid is enabled is refused with 0x9202; one that passes its
first checks shows CKPT_STATE 4 until it has run (log entry 124, the model's choice). Parts that are unsigned, or do not
agree, refuse it; one part with one good shard leaves the partition restoring, with the step and the norm staged. -/
def Obligations.Snapshots : Prop :=
  (∀ (p : Fin 8) (t : Nat) (c : Instr) (s0 s : State), s = (if c = .ckptStepTrigger p then s0 else s0.tick t) →
    (c = .ckptStepTrigger p ∧ s.stepsDue p = true ∨ c = .ckptPeriodTrigger p t ∧ s.periodDue p = true) →
    (s.reg (kCkptState p) < 3 → ∃ u, exec c s0 = .next u ∧ (u.job p).snapArmed = true ∧ u.mem = s.mem ∧
      u.reg (kCkptState p) = max 1 (s.reg (kCkptState p)) ∧ SameRegs s u [kCkptState p]) ∧
    let src := if c = .ckptStepTrigger p then 0 else 1
    (3 ≤ s.reg (kCkptState p) → bit (s.job p).snapDeferred src = false → ∃ u, exec c s0 = .next u ∧ u.mem = s.mem ∧
      (u.job p).snapDeferred = setBit (s.job p).snapDeferred src ∧ (u.job p).snapArmed = false ∧
      u.reg (kCkptDeferred p) = (s.reg (kCkptDeferred p) + 1) % 2 ^ keyBits (kCkptDeferred p) ∧
      SameRegs s u (kCkptDeferred p :: logKeys))) ∧
  (∀ (r : Requester) (p : Fin 8) (s : State), s.grants r (0x8010 + p) 0x0B 1 = true →
    let g := s.granted r (0x8010 + p) 0x0B
    (g.reg (kCkptState p) < 3 →
      ∃ u, exec (.ckptNow r p) s = .next u ∧ (u.job p).snapArmed = true ∧ u.mem = s.mem ∧
        u.reg (kCkptState p) = max 1 (g.reg (kCkptState p)) ∧ SameRegs g u [kCkptState p]) ∧
    (3 ≤ g.reg (kCkptState p) →
      ∃ u, exec (.ckptNow r p) s = .next u ∧ (u.job p).snapDeferred = setBit (g.job p).snapDeferred 2 ∧
        u.reg (kCkptDeferred p) = (g.reg (kCkptDeferred p) + 1) % 2 ^ keyBits (kCkptDeferred p) ∧
        SameRegs g u (kCkptDeferred p :: logKeys) ∧ u.mem = s.mem)) ∧
  (∀ (p : Fin 8) (x : Shard) (n : BitVec 16) (key : List Byte) (s : State), s.reg (kCkptState p) = 3 →
    (s.ownShards p).find? (fun x => !x.sealed && !x.refused) = some x → x.index = n.toNat →
    s.keyOf (s.reg (kCkptKeySlot p)) = some key →
    let r := s.engineLines p 9 (s.reg (kCkptFence p)) x.snap (32 * ceilDiv x.params 256) x.version
    let hdr := r.2.shardHeader p x (r.2.shardNonce p x.index)
    let c := gcmSeal key (r.2.shardNonce p x.index) hdr (r.1.flatMap (·.1))
    let off := shardOffset (r.2.jobMembers p) ((r.2.job p).shards.map (fun y => (y.index, y.params))) x.index
    let w := r.2.writeOut p (s.reg (kCkptFence p)) (r.2.reg (kDrainAddr p) + off) (hdr ++ c.1 ++ c.2)
    (r.1.any (·.2) = false → x ∈ (w.job p).shards → ∃ u, exec (.drainShard p n) s = .next u ∧
      { x with sealed := true, digest := sha384 (hdr ++ c.1 ++ c.2) } ∈ (u.job p).shards ∧ u = { w with jobs := u.jobs }) ∧
    (r.1.any (·.2) = true → x ∈ (r.2.job p).shards → ∃ u, exec (.drainShard p n) s = .next u ∧
      { x with refused := true } ∈ (u.job p).shards ∧ u.mem = r.2.mem ∧
      u.reg (kShardsRefused p) = (r.2.reg (kShardsRefused p) + 1) % 2 ^ keyBits (kShardsRefused p))) ∧
  (∀ (p : Fin 8) (t : State) (s : State), s.reg (kCkptState p) = 3 → (∀ x ∈ s.ownShards p, x.sealed = true) →
    (∀ x ∈ s.ownShards p, x.refused = false) → s.writeParts p = (true, t) → (t.job p).snapDeferred = 0 →
    (t.job p).snapArmed = false →
    ∃ u, exec (.manifestWrite p) s = .next u ∧ u.reg (kCkptState p) = 0 ∧ u.mem = t.mem ∧
      u.reg (kLastSealedStep p) = (s.job p).snapStep % 2 ^ keyBits (kLastSealedStep p)) ∧
  (∀ (r : Requester) (p : Fin 8) (s : State), s.grants r (0x8010 + p) 0x0D 1 = true →
    let g := s.granted r (0x8010 + p) 0x0D
    (g.reg (kGustEnable p) = 1 → ∃ u, exec (.ckptLoad r p) s = .next u ∧ u.reg (kCkptRefusal p) = 0x9202 ∧
      u.mem = s.mem ∧ u.staged = s.staged ∧ (g.reg (kCkptState p) = 1 → u.reg (kCkptState p) = 0) ∧
      (g.reg (kCkptState p) ≠ 4 → u.jobs = s.jobs)) ∧
    (g.loadCheck p = 0 →
      ∃ u, exec (.ckptLoad r p) s = .next u ∧ (u.job p).loading = true ∧ u.reg (kCkptState p) = 4 ∧
        SameRegs g u [kCkptState p] ∧ u.mem = s.mem ∧ u.staged = s.staged)) ∧
  (∀ (p : Fin 8) (parts : List PartRead) (s t : State), (s.job p).loading = true → s.reg (kCkptState p) = 4 →
    s.readParts p = (parts, t) →
    let u := s.runLoad p
    (u.job p).loading = false ∧ u.reg (kCkptState p) ≤ 1 ∧
      (parts.any (fun x => !x.signed) = true → u.reg (kCkptRefusal p) = 0x9104 ∧ u.reg (kCkptState p) = 0 ∧
        u.mem = t.mem ∧ u.staged = t.staged) ∧
      (parts.any (fun x => !x.signed) = false → partsAgree parts = false → u.reg (kCkptRefusal p) = 0x9105 ∧
        u.reg (kCkptState p) = 0 ∧ u.mem = t.mem ∧ u.staged = t.staged) ∧
      (∀ x y, parts = [x] → x.signed = true → partsAgree [x] = true → x.entries = [y] → fld x.header 240 16 = 1 →
        ∀ v, t.loadShard p ((s.keyOf (s.reg (kRestoreKeySlot p))).getD []) 1 [(y.1, y.2.1)] y = (0, v) →
          (u.job p).restoring = true ∧ u.mem = v.mem ∧ (u.job p).snapStep = fld x.header 96 64 ∧
          u.stagedReg (kUpdStep p) = (fld x.header 96 64 + 1) % 2 ^ keyBits (kUpdStep p) ∧
          u.stagedReg (kNormPrev p) = fld x.header 160 32))

/-- Shrinking and rejoining (R320, R321, R324). A report or lost set counts while the shrink waits. Within
SHRINK_WAIT_MS of its end this module's lost set goes out (log entry 126, the model's reading). The wait lasts until its
time; then a module named lost stays held, and is away until it rejoins, more losses than MAX_LOST allows leave the job
held until a restore, and with nobody lost the grid restarts for a RECOVERY step. A rejoiner takes the step state it is
given, and its next step is due; at a member the rank waits until the job has paused, and one that no stand-in holds is
refused. -/
def Obligations.ShrinkAndRejoin : Prop :=
  (∀ (p : Fin 8) (m : BitVec 14) (ms : List (BitVec 14)) (s : State), (s.job p).shrinkAt.isSome = true →
    (∃ u, exec (.livenessReport p (.report m)) s = .next u ∧ m.toNat ∈ (u.job p).reports ∧
      (∀ x ∈ (s.job p).reports, x ∈ (u.job p).reports) ∧ (u.job p).lost = (s.job p).lost ∧
      u = { s with jobs := u.jobs }) ∧
    (∃ u, exec (.livenessReport p (.lostSet m ms)) s = .next u ∧ m.toNat ∈ (u.job p).reports ∧
      (∀ x, x ∈ (u.job p).lost ↔ x ∈ (s.job p).lost ∨ ∃ y ∈ ms, y.toNat = x) ∧ u = { s with jobs := u.jobs })) ∧
  (∀ (p : Fin 8) (t w : Nat) (s : State), (s.job p).shrinkAt = some w →
    let half := s.reg (kShrinkWaitMs p) * 1000000
    (max s.now t + half < w → exec (.shrinkWaitExpiry p t) s = .next (s.tick t)) ∧
    (max s.now t < w → w ≤ max s.now t + half →
      ∃ u, exec (.shrinkWaitExpiry p t) s = .next u ∧ (u.job p).lostSent = true ∧ (u.job p).shrinkAt = some w ∧
        ((s.job p).lostSent = false → (∀ m ∈ s.missing p, m ∈ (u.job p).lost) ∧
          u.fabric.jobMsgs = s.fabric.jobMsgs ++ [⟨p, some (s.missing p)⟩]) ∧
        SameRegs s u [] ∧ u.mem = s.mem) ∧
    (w ≤ max s.now t → s.reg kModuleId ∈ s.lostSet p →
      ∃ u, exec (.shrinkWaitExpiry p t) s = .next u ∧ (u.job p).shrinkAt = none ∧ (u.job p).away = true ∧ u.grid p = s.grid p ∧
        SameRegs s u [] ∧ u.objs = s.objs) ∧
    (w ≤ max s.now t → s.lostSet p = [] →
      ∃ u, exec (.shrinkWaitExpiry p t) s = .next u ∧ (u.job p).shrinkAt = none ∧ (u.job p).recovery = true) ∧
    (w ≤ max s.now t → s.reg kModuleId ∉ s.lostSet p → s.lostSet p ≠ [] →
      s.reg (kMaxLost p) < s.reg (kLostModules p) + (s.lostSet p).length →
      ∃ u, exec (.shrinkWaitExpiry p t) s = .next u ∧ u.objs = s.objs ∧ u.grid p = s.grid p ∧
        (u.job p).restoring = true ∧ SameRegs s u logKeys)) ∧
  (∀ (p : Fin 8) (rank m : BitVec 14) (step : BitVec 64) (told : StepTold) (s : State),
    (m.toNat = s.reg kModuleId →
      ∃ u, exec (.rejoin p rank m step told) s = .next u ∧ u.reg (kUpdStep p) = step.toNat ∧
        u.reg (kNormPrev p) = told.norm.toNat ∧ SameRegs s u [kUpdStep p, kNormPrev p] ∧ (u.job p).rejoining = true ∧
        (u.job p).away = false ∧ (u.job p).returning = some (rank.toNat, told.order.toNat) ∧
        (u.grid p).stepDue = true ∧ u.mem = s.mem) ∧
    (m.toNat ≠ s.reg kModuleId → (s.job p).submitted = true → (s.job p).standIns.contains rank.toNat = true →
      (s.job p).shrinkAt = none → (s.job p).rejoin = none → (s.grid p).on = true → (s.grid p).inGust = false →
      ∃ u, exec (.rejoin p rank m step told) s = .next u ∧ (u.job p).rejoin = some (rank.toNat, m.toNat) ∧
        (u.job p).standIns = (s.job p).standIns ∧ SameRegs s u [] ∧ u.objs = s.objs ∧ u.mem = s.mem) ∧
    (m.toNat ≠ s.reg kModuleId → (s.job p).standIns.contains rank.toNat = false →
      ∃ u, exec (.rejoin p rank m step told) s = .next u ∧ u.reg (kCkptRefusal p) = 0x9203 ∧
        SameRegs s u [kCkptRefusal p] ∧ u.jobs = s.jobs ∧ u.grids = s.grids ∧ u.mem = s.mem))

/-- BUILD_ENABLE (R332) and CHARTER (R335, R338). A build that passes every check, by the holder of the build lock,
makes the partition CONFIGURED with the staged maps, gives it its ports, marks its groups and units as held, and
releases the lock; without the lock it is refused with 0xB242 and no partition changes. A charter that passes every
check stands, with its digest, job and noise floor, and PART_GEN rises; a refused one changes no partition. -/
def Obligations.BuildAndCharter : Prop :=
  (∀ (r : Requester) (p : Fin 8) (s : State), s.grants r (0x3010 + p) 0x06 1 = true →
    let g := s.granted r (0x3010 + p) 0x06
    s.holdsLock r (0x3010 + p) = true → g.buildCheck p true = 0 →
    ∃ u, exec (.buildEnable r p) s = .next u ∧ u.mem = s.mem ∧
      u.part p = { s.part p with
        state := stConfigured, tdi := .configUnlocked, gen := nextPartGen (s.part p).gen
        cgMap := g.stagedReg (kCgMap p) % 2 ^ 32, stackMap := g.stagedReg (kPartStackMap p) % 2 ^ 16
        fgMap := g.stagedReg (kFargroupMap p) % 2 ^ 16, portMap := g.stagedReg (kPortMap p) % 2 ^ 16 } ∧
      (∀ n ∈ bitsOf (u.part p).portMap 16, u.reg (kPortOwner n) = p) ∧
      (∀ i ∈ bitsOf (u.part p).cgMap 32, bit (u.reg kCgCollapsed) i = false) ∧
      (∀ i ∈ unitsNamed (u.part p).stackMap (u.part p).fgMap, bit (u.reg (scrubbedKey i)) (unitBit i) = false) ∧
      (u.view p).state = stConfigured ∧ ∀ l ∈ u.locks, l.group ≠ 0x3010 + p.val) ∧
  (∀ (r : Requester) (p : Fin 8) (s : State), s.grants r (0x3010 + p) 0x06 1 = true →
    let g := s.granted r (0x3010 + p) 0x06
    s.holdsLock r (0x3010 + p) = false → s.sec.breached = false → g.stagedReg (kExpectGen p) = (s.part p).gen →
    ∃ u, exec (.buildEnable r p) s = .next u ∧ u.reg (kPartRefusal p) = 0xB242 ∧ u.parts = s.parts ∧ u.mem = s.mem) ∧
  (∀ (p : Fin 8) (doc : List Byte) (s : State), s.charterCheck p doc = 0 →
    let c := charterOf doc
    ∃ u, exec (.charter p doc) s = .next u ∧
      u.part p = { s.part p with charter := some c, gen := nextPartGen (s.part p).gen } ∧
      u.reg (kCharterDigest p) = ofLe c.digest % 2 ^ 384 ∧ u.reg (kJobId p) = c.jobId ∧
      u.reg (kNoiseFloor p) = c.noiseFloor ∧ u.mem = s.mem ∧
      SameRegs s u [kCharterDigest p, kJobId p, kNoiseFloor p, kPartState p, kPartGen p]) ∧
  (∀ (p : Fin 8) (doc : List Byte) (s : State), s.charterCheck p doc ≠ 0 →
    ∃ u, exec (.charter p doc) s = .next u ∧ u.reg (kPartRefusal p) = s.charterCheck p doc ∧ u.parts = s.parts ∧
      SameRegs s u (kPartRefusal p :: logKeys) ∧ u.mem = s.mem)

/-- The requests of the host's trusted domain (R339, R341, R344). A configured partition whose stream is keyed and
whose units are ready locks; else the request is refused with 0xB240 and no partition changes. The report tells the
maps, the generation and the charter, and changes nothing else. A locked partition starts once its owners have
delivered, with the secret that it has received or one drawn for it, and its generator takes its words from it. A
stop takes effect at once, but in a gust it waits for its pause. A keyed stream whose integrity fails ends the
partition. A data key that an owner may deliver stands in a slot of its own. -/
def Obligations.TrustedDomain : Prop :=
  ∀ (p : Fin 8) (s : State),
    ((s.part p).state = stConfigured → (s.part p).ideKeyed = true → s.unitsReady p = true →
      ∃ u, exec (.lockInterfaceRequest p) s = .next u ∧ u.sec.doeReply = [0x10, 0x03] ∧ u.mem = s.mem ∧
        u.part p = { s.part p with state := stLocked, tdi := .configLocked, gen := nextPartGen (s.part p).gen } ∧
        SameRegs s u (stateKeys p)) ∧
    (((s.part p).state ≠ stConfigured ∨ (s.part p).ideKeyed = false ∨ s.unitsReady p = false) →
      ∃ u, exec (.lockInterfaceRequest p) s = .next u ∧ u.sec.doeReply = [0x10, 0x7F] ∧ u.parts = s.parts ∧
        u.reg (kPartRefusal p) = 0xB240 ∧ SameRegs s u [kPartRefusal p] ∧ u.mem = s.mem) ∧
    ((s.part p).state = stLocked ∨ (s.part p).state = stRunning →
      exec (.getDeviceInterfaceReport p) s = .next { s with sec := { s.sec with doeReply := [0x10, 0x04] ++
        (leBytes 4 0x40000 ++ leBytes 4 0x100000 ++ leBytes 4 (s.part p).cgMap ++ leBytes 2 (s.part p).stackMap ++
          leBytes 2 (s.part p).fgMap ++ leBytes 2 (s.part p).portMap ++ leBytes 4 (s.part p).gen ++
          leBytes 48 (s.reg (kCharterDigest p))) } }) ∧
    (∀ c t, (s.part p).charter = some c → (s.part p).state = stLocked → s.delivered p = 2 ^ c.owners.length - 1 →
      (if (s.part p).secret.isSome then (0, s) else s.drawSecret p) = (0, t) →
      ∃ u, exec (.startInterfaceRequest p) s = .next u ∧ u.sec.doeReply = [0x10, 0x06] ∧ u.mem = t.mem ∧
        u.part p = { t.part p with state := stRunning, tdi := .run, gen := nextPartGen (t.part p).gen } ∧
        bit (u.reg kGenSource) p = false ∧ u.reg (kLostModules p) = 0) ∧
    (∀ c, (s.part p).charter = some c → (s.part p).state = stLocked → s.delivered p ≠ 2 ^ c.owners.length - 1 →
      ∃ u, exec (.startInterfaceRequest p) s = .next u ∧ u.parts = s.parts ∧ u.reg (kPartRefusal p) = 0xB243 ∧
        SameRegs s u [kPartRefusal p] ∧ u.mem = s.mem) ∧
    (mayStop (s.part p).state = true → ((s.part p).state ≠ stRunning ∨ (s.grid p).inGust = false) →
      ∃ u, exec (.stopInterfaceRequest p) s = .next u ∧ (u.part p).state = stFree ∧ u.sec.doeReply = [0x10, 0x07]) ∧
    ((s.part p).state = stRunning → (s.grid p).inGust = true →
      ∃ u, exec (.stopInterfaceRequest p) s = .next u ∧ u.part p = { s.part p with stopping := true } ∧
        (u.grid p).inGust = true ∧ (u.grid p).pauseAt.isSome = true ∧ u.mem = s.mem ∧ SameRegs s u []) ∧
    ((s.part p).state ≠ stFree → ∃ u, exec (.ideStreamKeyed p) s = .next u ∧
      u.part p = { s.part p with ideKeyed := true } ∧ u = { s with parts := u.parts }) ∧
    ((s.part p).ideKeyed = true → mayStop (s.part p).state = true →
      ∃ u, exec (.ideIntegrityFailure p) s = .next u ∧ (u.part p).state = stFree ∧ (u.part p).charter = none) ∧
    (∀ (m : List Byte) (i : Nat), s.sec.sessions ≠ [] → s.deliveryCheck p (deliveryOf m) = 0 →
      (deliveryOf m).kind = 0 → s.keyRoom = 0 → s.freeSlot = some i →
      ∃ u, exec (.vendorDefinedRequest p m) s = .next u ∧ u.mem = s.mem ∧ SameRegs s u [kKeysDelivered p] ∧
        u.keySlot i = { s.keySlot i with live := true, key := (deliveryOf m).key, attr := 1, owner := p,
                                         resident := true, provisional := false } ∧
        (∃ n h, (u.part p).dataKeys = (s.part p).dataKeys ++ [((deliveryOf m).owner, n, h)] ∧ h = u.slotHandle i)) ∧
    (∀ m : List Byte, s.sec.sessions ≠ [] → s.deliveryCheck p (deliveryOf m) ≠ 0 →
      ∃ u, exec (.vendorDefinedRequest p m) s = .next u ∧ u.parts = s.parts ∧ u.sec = s.sec ∧ u.mem = s.mem ∧
        u.reg (kPartRefusal p) = s.deliveryCheck p (deliveryOf m) ∧ SameRegs s u [kPartRefusal p])

/-- SPDM requests (R340). By way of the dictionary the response stands ready with its status; by way of the PF's
mailbox it is what the mailbox holds. GET_VERSION begins the agreement, whatever came before; a request that comes
before its turn gets an ERROR and changes nothing. The formats of the messages are the model's (log entry 22). -/
def Obligations.SpdmAnswers : Prop :=
  (∀ (m : List Byte) (q : Option Requester) (s : State) (c : Nat × Instr),
    c ∈ [(0x84, Instr.getVersion q m), (0xE1, .getCapabilities q m), (0xE3, .negotiateAlgorithms q m),
      (0x81, .getDigests q m), (0x82, .getCertificate q m), (0x83, .challenge q m), (0xE0, .getMeasurements q m),
      (0xE4, .keyExchange q m)] →
    (∀ r, q = some r → s.grants r 0x1F20 0x01 (max 4096 m.length) = true →
      let g := s.granted r 0x1F20 0x01
      bit (g.reg kReadyMap) 11 = true →
      ∃ u, exec c.2 s = .next u ∧ u.reg kSpdmStatus = 2 ∧ u.sec = (g.spdmAnswer (withCode c.1 m)).2.sec ∧
        u.reg kSpdmResponse = ofLe (g.spdmAnswer (withCode c.1 m)).1 % 2 ^ keyBits kSpdmResponse ∧
        SameRegs g u [kSpdmStatus, kSpdmResponse] ∧ u.mem = s.mem) ∧
    (q = none → s.power.mode = .running → s.power.perst = false → bit (s.reg kReadyMap) 11 = true →
      ∃ u, exec c.2 s = .next u ∧ u.sec.doeReply = (s.spdmAnswer (withCode c.1 m)).1 ∧
        u.sec.spdm = (s.spdmAnswer (withCode c.1 m)).2.sec.spdm ∧ SameRegs s u [] ∧ u.mem = s.mem)) ∧
  (∀ (m : List Byte) (s : State), 4 ≤ m.length →
    (s.spdmAnswer (withCode 0x84 m)).1 = [0x10, 0x04, 0, 0, 0, 1, 0x00, 0x13] ∧
    (s.spdmAnswer (withCode 0x84 m)).2.sec.spdm.stage = 1 ∧ (s.spdmAnswer (withCode 0x84 m)).2.sec.spdm.chain = []) ∧
  (∀ (m : List Byte) (s : State) (c : Nat × Nat), 4 ≤ m.length → m.head? = some 0x13 →
    c ∈ [(0xE1, 1), (0xE3, 2), (0x81, 3), (0x82, 3), (0x83, 3), (0xE0, 3), (0xE4, 3)] → s.sec.spdm.stage ≠ c.2 →
    s.spdmAnswer (withCode c.1 m) = ([0x13, 0x7F, 0x04, 0], s))

/-- A teardown leaves nothing of its partition (R344, R345): by force, at an owner's or a manager's request outside a
gust, it ends with the partition FREE and nothing of it left, its generation two further, and every byte of its
clusters' cell stores 0. In a gust an ordinary one waits for its pause. A wrong generation is refused with 0xB241 and
no partition changes. -/
def Obligations.TeardownLeavesNothing : Prop :=
  ∀ (p : Fin 8) (s : State), mayStop (s.part p).state = true → s.MemOk →
    let expect := fun (r : Requester) (sub : Nat) =>
      let g := s.granted r (0x3010 + p) sub
      if g.holdsLock r (0x3010 + p) then g.stagedReg (kExpectGen p) else g.reg (kExpectGen p)
    let calm := (s.part p).state ≠ stRunning ∨ (s.grid p).inGust = false
    (∀ c : Instr, (∃ r, c = .forceOff r p ∧ s.grants r (0x3010 + p) 0x0A 1 = true ∧ expect r 0x0A = (s.part p).gen) ∨
        (∃ r, c = .teardown (.dict r) p ∧ calm ∧ s.grants r (0x3010 + p) 0x09 1 = true ∧
          expect r 0x09 = (s.part p).gen) ∨
        (∃ i x o, c = .teardown (.owner i) p ∧ calm ∧ s.sec.sessions ≠ [] ∧ (s.part p).charter = some x ∧
          x.owners[i.val]? = some o ∧ o.stop = true) →
      ∃ u, exec c s = .next u ∧ u.PartGone p ∧ (u.part p).gen = nextPartGen (nextPartGen (s.part p).gen) ∧
        ∀ k a, k < 512 → bit (s.part p).cgMap (k / 16) = true → u.cellByte k a = 0) ∧
    (∀ r, s.grants r (0x3010 + p) 0x09 1 = true → expect r 0x09 = (s.part p).gen → (s.part p).state = stRunning →
      (s.grid p).inGust = true →
      ∃ u, exec (.teardown (.dict r) p) s = .next u ∧ u.part p = { s.part p with stopping := true } ∧
        (u.grid p).inGust = true ∧ (u.grid p).pauseAt.isSome = true ∧ u.mem = s.mem) ∧
    (∀ r, s.grants r (0x3010 + p) 0x0A 1 = true → expect r 0x0A ≠ (s.part p).gen →
      ∃ u, exec (.forceOff r p) s = .next u ∧ u.reg (kPartRefusal p) = 0xB241 ∧ u.parts = s.parts ∧ u.mem = s.mem)

/-- The copies of a partition's record (R347) and collapsed groups (R333). Copies that agree change nothing; one that
differs, of a rank no higher than the record's, is counted, and the generation rises with the record's state kept. A
collapse that ends leaves the group ready again, as collapsed where no partition holds it. Clock and power requests
(R346, R375, R421, R440). With no locked partition FUNC_ENABLE takes its value, and a value without bits 11 and 12 is
refused with 0xC302. With one, and REQUEST_DEFER set, taking a clock away waits behind what waits already. A request
of an older epoch is dropped with its event; one whose partitions are gone acts; one that has waited its limit is
dropped with 0xB640 in MGMT_REFUSAL or POWER_REFUSAL. -/
def Obligations.MirrorsCollapsesAndDeferral : Prop :=
  ((∀ (t : Nat) (seen : List MirrorSeen) (s : State),
    (∀ m ∈ seen, m.state.toNat = (s.part m.part).state ∧ m.gen.toNat = (s.part m.part).gen) →
    exec (.mirrorCheck t seen) s = .next (s.tick t)) ∧
  (∀ (t : Nat) (m : MirrorSeen) (s : State),
    (m.state.toNat ≠ (s.part m.part).state ∨ m.gen.toNat ≠ (s.part m.part).gen) →
    shownRank m.state.toNat ≤ stateRank (s.part m.part).state →
    ∃ u, exec (.mirrorCheck t [m]) s = .next u ∧ u.mem = s.mem ∧
      u.reg kMirrorDisagreements = (s.reg kMirrorDisagreements + 1) % 2 ^ keyBits kMirrorDisagreements ∧
      u.part m.part = { s.part m.part with gen := nextPartGen (s.part m.part).gen } ∧
      (u.view m.part).state = (s.part m.part).state ∧ (u.view m.part).gen = nextPartGen (s.part m.part).gen ∧
      SameRegs s u (kMirrorDisagreements :: stateKeys m.part)) ∧
  (∀ (g : Fin 32) (s : State), bit s.power.cgColl g = true → s.power.tripped = false → s.power.mode = .running →
    ∃ u, exec (.cgCollapseDone g) s = .next u ∧ bit u.power.cgColl g = false ∧ bit u.power.cgDown g = false ∧
      (s.holderOf Part.cgMap g = none → bit (u.reg kCgCollapsed) g = true) ∧
      fld (u.reg (kClusterReady (g.val / 4 + 1))) (16 * (g.val % 4)) 16 = ofBits (s.usable g) ∧
      SameRegs s u [kClusterReady (g.val / 4 + 1), kCgCollapsed] ∧ u.mem = s.mem)) ∧
  ((∀ (r : Requester) (v : BitVec 16) (s : State), s.grants r 0x1060 0x02 2 = true →
    let g := s.granted r 0x1060 0x02
    (v.toNat &&& 0x1800 = 0x1800 → g.concerned = [] →
      ∃ u, exec (.funcEnable r v) s = .next u ∧ u.reg kFuncEnable = v.toNat &&& 0x1FFE ∧ u.mem = s.mem ∧
        SameRegs g u [kFuncEnable, kReadyMap]) ∧
    (v.toNat &&& 0x1800 ≠ 0x1800 →
      ∃ u, exec (.funcEnable r v) s = .next u ∧ u.reg kFuncEnable = g.reg kFuncEnable ∧ u.reg kMgmtRefusal = 0xC302 ∧
        u.mem = s.mem) ∧
    (v.toNat &&& 0x1800 = 0x1800 → g.concerned ≠ [] → g.reg kRequestDefer ≠ 0 →
      g.reg kFuncEnable &&& (v.toNat &&& 0x1FFE) ≠ g.reg kFuncEnable →
      ∃ u, exec (.funcEnable r v) s = .next u ∧ u.reg kFuncEnable = g.reg kFuncEnable ∧ u.mem = s.mem ∧
        u.sec.deferred = s.sec.deferred ++ [⟨false, v.toNat &&& 0x1FFE, g.concerned, s.now, g.epochOf 8⟩])) ∧
  (∀ (b : BootInput) (d : Deferred) (rest : List Deferred) (s : State), s.sec.deferred = d :: rest →
    (d.epoch ≠ s.epochOf 8 → ∃ u, exec (.deferredRequestRelease b) s = .next u ∧ SameRegs s u logKeys ∧
      u.sec = { s.sec with deferred := rest } ∧ u.mem = s.mem) ∧
    (d.epoch = s.epochOf 8 → d.reset = false → (∀ x ∈ d.parts, (s.part x.1).state = stFree) →
      ∃ u, exec (.deferredRequestRelease b) s = .next u ∧ u.reg kFuncEnable = d.mask % 2 ^ 16 ∧
        u.sec = { s.sec with deferred := rest } ∧ SameRegs s u [kFuncEnable, kReadyMap] ∧ u.mem = s.mem) ∧
    (d.epoch = s.epochOf 8 → s.sealed d = false → exec (.deferredRequestRelease b) s = .next s)) ∧
  (∀ (t : Nat) (d : Deferred) (rest : List Deferred) (s : State), s.sec.deferred = d :: rest →
    (max s.now t < d.since + s.reg kDeferLimitS * 1000000000 → exec (.deferLimitExpiry t) s = .next (s.tick t)) ∧
    (d.since + s.reg kDeferLimitS * 1000000000 ≤ max s.now t →
      ∃ u, exec (.deferLimitExpiry t) s = .next u ∧ u.sec = { s.sec with deferred := rest } ∧ u.mem = s.mem ∧
        u.reg (if d.reset then kPowerRefusal else kMgmtRefusal) = 0xB640 ∧
        SameRegs s u ((if d.reset then kPowerRefusal else kMgmtRefusal) :: logKeys))))

/-- Fuses and the life cycle (R352, R370 to R374). No command clears a bit of a fuse word, from any state. A request
that passes every check of R371 begins its transition at its first blow; a token whose digest is wrong is counted and
refused with 0xB503. A blow that ends moves its transition on; LC_STATE's bit is blown in all three copies. -/
def Obligations.FusesOnlyBlow : Prop :=
  (∀ s t : State, step s = .next t → ∀ w i,
    bit (tabGet s.sec.fuses w 0) i = true → bit (tabGet t.sec.fuses w 0) i = true) ∧
  (∀ (r : Requester) (s : State), s.grants r 0x9001 0x04 1 = true →
    let g := s.granted r 0x9001 0x04
    let goal := g.stagedReg kLcTarget
    let token := leBytes 16 (g.stagedReg kLcToken)
    lcReachable (g.reg kLcState) goal = true → s.sec.transition = none → g.lcReady goal = true →
    bit s.sec.unusable (lcTarget goal + 1) = false → s.sec.tokenMiss < 3 →
    (sha384 token = g.tokenDigest (lcTarget goal) → ¬ (s.sec.breached = true ∧ goal = 3) →
      ∃ u, exec (.lcEnable r) s = .next u ∧ u.sec = { s.sec with transition := some (lcTarget goal, 2) } ∧
        (∀ l ∈ u.locks, l.group ≠ 0x9001) ∧ u.mem = s.mem) ∧
    (sha384 token ≠ g.tokenDigest (lcTarget goal) →
      ∃ u, exec (.lcEnable r) s = .next u ∧ u.sec = { s.sec with tokenMiss := s.sec.tokenMiss + 1 } ∧
        u.reg kSecRefusal = 0xB503 ∧ u.mem = s.mem)) ∧
  (∀ (b : BootInput) (t : Nat) (s : State), s.power.mode = .running → s.sec.tamperBlow = false →
    (s.sec.transition = some (t, 5) →
      ∃ u, exec (.fuseBlowDone b) s = .next u ∧ u.sec.transition = some (t, 6) ∧
        (∀ w < 3, bit (tabGet u.sec.fuses w 0) t = true) ∧ SameRegs s u [] ∧ u.mem = s.mem) ∧
    (t < 2 → s.sec.transition = some (t, 4) →
      ∃ u, exec (.fuseBlowDone b) s = .next u ∧ u.sec.transition = some (t, 5) ∧
        bit (u.reg kLcProgress) (3 * t + 1) = true ∧ SameRegs s u [kLcProgress] ∧ u.mem = s.mem) ∧
    (t < 2 → s.sec.transition = some (t, 2) →
      ∃ u, exec (.fuseBlowDone b) s = .next u ∧ u.sec.transition = some (t, 4) ∧
        bit (u.reg kLcProgress) (3 * t) = true ∧ SameRegs s u (kLcProgress :: logKeys) ∧ u.mem = s.mem)) ∧
  (∀ (b : BootInput) (s : State), s.power.mode = .running → s.sec.tamperBlow = true →
    ∃ u, exec (.fuseBlowDone b) s = .next u ∧ u.sec.tamperBlow = false ∧
      u.reg kTamperCount = (popCount (tabGet s.sec.fuses 18 0) 32 + 1) % 2 ^ keyBits kTamperCount)

/-- Doorbells and what stops a queue (R375, R389, R391, R392, R404). A doorbell of the running epoch moves TAIL; a
shard queue takes its entries at once and its fence advances by them; too long a step puts the queue in error. A stale
one moves nothing. An entry whose wait is met runs. One whose fence is in error, and a host access that has passed its
time, put the queue in error; one that waits still is held back as it was. A function-level reset of a VF raises its
partition's epoch, and every queue of it is in error. -/
def Obligations.QueuesAndDoorbells : Prop :=
  (∀ (p : Fin 8) (q : Fin 64) (v : BitVec 32) (x : Queue) (s : State), (s.part p).state ≠ stFree →
    s.queueAt p q = some x → x.dying = false → x.error = false →
    let n := (v.toNat % 65536 + 65536 - x.head) % 65536
    (v.toNat / 65536 = s.epochOf p → n < 2 ^ x.sizeLog2 → x.shard = false →
      exec (.doorbell p q v) s = .next (s.setQueue { x with tail := v.toNat % 65536 })) ∧
    (v.toNat / 65536 = s.epochOf p → n < 2 ^ x.sizeLog2 → x.shard = true →
      ∃ u, exec (.doorbell p q v) s = .next u ∧ SameRegs s u [] ∧ u.mem = s.mem ∧
        u.queueAt p q = some { x with tail := v.toNat % 65536, head := v.toNat % 65536 } ∧
        ∀ f, s.fence? x.fence = some f → f.err = false → f.hostSignal = false →
          ∃ g, u.fence? x.fence = some g ∧ g.value = (f.value + n) % 2 ^ 64) ∧
    (v.toNat / 65536 = s.epochOf p → 2 ^ x.sizeLog2 ≤ n →
      ∃ u, exec (.doorbell p q v) s = .next u ∧ u.mem = s.mem ∧ u.reg kHostRefusal = 0xA004 ∧
        u.queueAt p q = some { x with error := true, errReason := 0xA004, waiting := none } ∧
        SameRegs s u (kHostRefusal :: logKeys)) ∧
    (v.toNat / 65536 ≠ s.epochOf p →
      ∃ u, exec (.doorbell p q v) s = .next u ∧ u.objs = s.objs ∧ u.reg kHostRefusal = 0xB205 ∧
        SameRegs s u (kHostRefusal :: logKeys) ∧ u.mem = s.mem)) ∧
  (∀ (p : Fin 8) (q : Fin 64) (x : Queue) (c : Instr) (s : State), s.queueAt p q = some x → x.waiting = some c →
    (s.part p).state ≠ stTeardown → x.error = false →
    (s.waitState p (entryBits c) = .pending → ∃ u, exec (.waitRelease p q) s = .next u ∧
      u.queueAt p q = some x ∧ u = { s with objs := u.objs } ∧ u.objs.fences = s.objs.fences) ∧
    (s.waitState p (entryBits c) = .error → ∃ u, exec (.waitRelease p q) s = .next u ∧ u.mem = s.mem ∧
      u.queueAt p q = some { x with error := true, errReason := 0xA204, waiting := none } ∧ SameRegs s u logKeys) ∧
    (s.waitState p (entryBits c) = .go → exec (.waitRelease p q) s =
      .next ((s.setQueue { x with waiting := none }).runCmd .driver p q x.creator x.handle c))) ∧
  (∀ (p : Fin 8) (q : Fin 64) (x : Queue) (s : State), s.queueAt p q = some x → x.error = false → x.shard = false →
    x.head ≠ x.tail →
    ∃ u, exec (.hostDmaTimeout p q) s = .next u ∧ u.mem = s.mem ∧
      u.queueAt p q = some { x with error := true, errReason := 0xA601, waiting := none } ∧
      u.reg (kRecoveryEpoch p) = (if s.epochOf p = 0xFFFF then 1 else s.epochOf p + 1) % 2 ^ 16) ∧
  (∀ (p : Fin 8) (s : State), (s.part p).state ≠ stFree → (s.objs.queues.map (·.handle)).Nodup →
    ∃ u, exec (.vfFlr p) s = .next u ∧ (∀ x ∈ u.objs.queues, hPart x.handle = p → x.error = true) ∧ u.mem = s.mem ∧
      u.reg (kRecoveryEpoch p) = (if s.epochOf p = 0xFFFF then 1 else s.epochOf p + 1) % 2 ^ 16)

/-- Queue commands that run (R393 to R399, R403), issued by the job services so that their effect stands alone. A
creation makes a new live object of its type; a fence holds what its record says. A destruction that nothing refers to
frees it. A mapping gives every address of its pages its target; an unmapping takes it away. A signal sets the larger
value; a job fence moves. A copy of one line within host memory has its bytes there and keeps its channel until it
ends; a job image is at its load address. -/
def Obligations.QueueCommands : Prop :=
  ∀ (p : Fin 8) (q : Fin 64) (e : BitVec 896) (s : State),
    let x := params e.toNat
    let op := fld e.toNat 0 8
    (s.part p).state ≠ stTeardown → bit e.toNat 12 = false → 1 ≤ op → op ≤ 8 → s.reg (kGustEnable p) ≠ 1 →
    (∀ h t, s.create p 0 (fld e.toNat 8 4) x = ((0, h), t) →
      exec (.createObj .jobServices p q e) s = .next t) ∧
    (fld e.toNat 8 4 = 4 → s.newHandle 4 p ≠ none →
      ∃ u h, exec (.createObj .jobServices p q e) s = .next u ∧ s.newHandle 4 p = some h ∧
        u = { s with objs := { s.objs with fences := s.objs.fences ++ [⟨h, 0, false, fld x 0 64, false, false, false, 0,
          fld x 64 64, fld x 128 4, bit x 132, bit x 133, fld x 64 64 != 0 && decide (fld x 64 64 ≤ fld x 0 64),
          false⟩] } }) ∧
    (∀ t, s.destroy p 0 (fld x 0 32) = (0, t) → exec (.destroyObj .jobServices p q e) s = .next t) ∧
    (∀ h f, h = fld x 0 32 → s.objs.fences = [f] → f.handle = h → f.dying = false → f.creator = 0 → hType h = 4 →
      hIndex h < 4096 → hPart h = p → s.refs h = 1 → (s.grid p).on = true → s.dyingObjects = [] →
      ∃ u, exec (.destroyObj .jobServices p q e) s = .next u ∧ u.fence? h = none ∧ u.mem = s.mem ∧
        tabGet u.objs.gens (genKey 4 p (hIndex h)) 1 = nextGen (hGen h)) ∧
    (∀ t m, s.mapOp p false (fld x 0 32) (fld x 32 32) (fld x 64 64) (fld x 128 32) = (0, t) →
      s.memobj? (fld x 0 32) = some m →
      exec (.mapPages .jobServices p q e) s = .next t ∧
      ∀ i, i < fld x 128 32 → ∃ m', t.memobj? (fld x 0 32) = some m' ∧
        ∀ o < m.pageSize, m'.translate (m.base + (fld x 32 32 + i) * m.pageSize + o) =
          some (fld x 64 64 + i * m.pageSize + o)) ∧
    (∀ t m, s.mapOp p true (fld x 0 32) (fld x 32 32) 0 (fld x 64 32) = (0, t) →
      s.memobj? (fld x 0 32) = some m →
      exec (.unmapPages .jobServices p q e) s = .next t ∧
      ∀ i, i < fld x 64 32 → ∃ m', t.memobj? (fld x 0 32) = some m' ∧
        ∀ o < m.pageSize, m'.translate (m.base + (fld x 32 32 + i) * m.pageSize + o) = none) ∧
    (∀ f, s.liveHandle 4 p (fld x 0 32) = 0 → s.fence? (fld x 0 32) = some f → f.hostSignal = true →
      ∃ u, exec (.signalFence .jobServices p q e) s = .next u ∧ SameRegs s u [] ∧ u.mem = s.mem ∧
        ∃ g, u.fence? (fld x 0 32) = some g ∧
          g.value = if f.err then f.value else max f.value (fld x 64 64)) ∧
    (∀ c, s.liveHandle 1 p (fld x 0 32) = 0 → s.deviceHandle p (fld x 32 32) = 0 → c ∈ s.objs.contexts →
      c.handle = fld x 0 32 → s.dyingObjects = [] →
      ∃ u, exec (.setJobFence .jobServices p q e) s = .next u ∧ { c with jobFence := fld x 32 32 } ∈ u.objs.contexts ∧
        SameRegs s u [] ∧ u.mem = s.mem) ∧
    (∀ c a b, s.MemOk → s.channel? (fld x 192 32) = some c → c.busy = none → s.liveHandle 6 p (fld x 192 32) = 0 →
      fld x 128 64 = 64 → fld x 0 64 % 64 = 0 → fld x 64 64 % 64 = 0 → s.translate p (fld x 0 64) = .here (hostBase + a) →
      s.translate p (fld x 64 64) = .here (hostBase + b) → hostBase + a + 64 ≤ hostEnd → hostBase + b + 64 ≤ hostEnd →
      ∃ u, exec (.copyBytes .jobServices p q e) s = .next u ∧ memRead 0 u.mem.host b 64 = memRead 0 s.mem.host a 64 ∧
        (∀ k, k < b ∨ b + 64 ≤ k → memGet 0 u.mem.host k = memGet 0 s.mem.host k) ∧ u.mem.ram = s.mem.ram ∧
        ∃ c', u.channel? (fld x 192 32) = some c' ∧ c'.busy = some (0, .copyBytes .jobServices p q e)) ∧
    (∀ (b : JobImage) (c : Channel) (w : Reason × State), s.submitCheck p x b = 0 → s.channel? (fld x 192 32) = some c →
      c.busy = none →
      let img := padTo (fld x 96 32) 0 b.bytes
      (s.startCopy (fld x 192 32) 0 (.submitJob .jobServices p q e b)).writeBytesVa p 10
        (fld (ofLe (img.take 64)) 64 64) 1 0 (img.drop 64) false = w →
      ∃ u, exec (.submitJob .jobServices p q e b) s = .next u ∧ u.mem = w.2.mem ∧ SameRegs w.2 u [])

/-- The driver's commands (R391, R392). A command that is done at once has its result in its entry in host memory,
HEAD has moved on, and the queue's fence has advanced by 1 (unless the result is 0xA0F8, which it latches, R11); so
has a command that is refused, with its reason in HOST_REFUSAL. A command that waits is held back by its queue, and
one whose fence is in error stops it. The end of a copy frees its channel; of a job's copy, it submits the job,
whose first step is due. -/
def Obligations.QueueResults : Prop :=
  (∀ (p : Fin 8) (q : Fin 64) (c : Instr) (e : BitVec 896) (b : JobImage) (x : Queue) (s : State),
    c ∈ [.createObj .driver p q e, .destroyObj .driver p q e, .mapPages .driver p q e, .unmapPages .driver p q e,
      .signalFence .driver p q e, .submitJob .driver p q e b, .copyBytes .driver p q e, .setJobFence .driver p q e] →
    s.readyQueue p q x →
    (∀ r h t y a, s.waitState p e.toNat = .go →
      (s.setQueue { x with waiting := none }).cmdCheck .driver p c = 0 →
      (s.setQueue { x with waiting := none }).runBody p x.creator x.handle c = (.done r h, t) → t.MemOk →
      t.queueAt p q = some y → y.dying = false → t.entryAt p y = some a →
      ∃ u, exec c s = .next u ∧ memRead 0 u.mem.host (a + 112) 16 = leBytes 4 r ++ leBytes 4 h ++ leBytes 8 (2 ^ 63) ∧
        u.mem.ram = t.mem.ram ∧ u.queueAt p q = some { y with head := (y.head + 1) % 65536, waiting := none } ∧
        (r ≠ 0 → u.reg kHostRefusal = r % 2 ^ keyBits kHostRefusal) ∧
        ∀ f, t.fence? y.fence = some f → f.err = false → f.hostSignal = false → r ≠ 0xA0F8 →
          ∃ g, u.fence? y.fence = some g ∧ g.value = (f.value + 1) % 2 ^ 64) ∧
    (s.waitState p e.toNat = .go → (s.setQueue { x with waiting := none }).cmdCheck .driver p c ≠ 0 →
      ∃ u, exec c s = .next u ∧ u.queueAt p q = some { x with head := (x.head + 1) % 65536 } ∧
        u.reg kHostRefusal = (s.setQueue { x with waiting := none }).cmdCheck .driver p c % 2 ^ keyBits kHostRefusal ∧
        SameRegs s u (kHostRefusal :: logKeys)) ∧
    (s.waitState p e.toNat = .pending → exec c s = .next (s.setQueue { x with waiting := some c })) ∧
    (s.waitState p e.toNat = .error → ∃ u, exec c s = .next u ∧ u.mem = s.mem ∧
      u.queueAt p q = some { x with error := true, errReason := 0xA204, waiting := none })) ∧
  (∀ (n : Fin 32) (w : Around) (c : Channel) (e : BitVec 896) (p : Fin 8) (q : Fin 64) (s : State),
    s.objs.channels = [c] → hIndex c.handle = n → c.dying = false → s.copyPending c.handle = false →
    s.dyingObjects = [] → (∀ x ∈ s.objs.queues, x.waiting = none) →
    (c.busy = some (0, .copyBytes .jobServices p q e) →
      ∃ u, exec (.channelCopyDone n w) s = .next u ∧ u.objs.channels = [{ c with busy := none, reason := 0 }] ∧
        u.mem = s.mem ∧ (c.reason = 0 → SameRegs s u []) ∧
        (c.reason ≠ 0 → u.reg kHostRefusal = c.reason % 2 ^ keyBits kHostRefusal)) ∧
    (∀ (b : JobImage) (y : Ctx), b.settings = [] → b.plans = [] → c.reason = 0 → y ∈ s.objs.contexts →
      y.handle = fld (params e.toNat) 0 32 → c.busy = some (0, .submitJob .jobServices p q e b) →
      ∃ u, exec (.channelCopyDone n w) s = .next u ∧ (u.job (hPart c.handle)).submitted = true ∧
        (u.grid (hPart c.handle)).stepDue = true ∧ SameRegs s u logKeys ∧ u.mem = s.mem ∧
        ∃ z ∈ u.objs.contexts, z.handle = y.handle ∧ z.submitted = true ∧
          z.jobFence = fld (params e.toNat) 160 32))

/-- The host's accesses to the BARs (R380 to R382, R385, R422, R440). A read inside a BAR of a function that answers
returns the bytes of its registers and changes nothing; one beyond, or of a function that is not there, is an
Unsupported Request. A misaligned write is dropped and logged: ACCESS_ERR sets, and ACCESS_LOG_COUNT rises. A 1
written to ACCESS_ERR clears it, a 0 does not. A GO of the running epoch leaves the mailbox with its access done; a GO
while one runs is not applied. A reset of the PF empties the mailbox and breaks its locks. -/
def Obligations.HostAccesses : Prop :=
  (∀ (x : BarAccess) (w : Around) (s : State),
    let i := fnIndex x.fn
    (s.fnLive x.fn = true → x.width ≠ 0 → x.offset.toNat + x.width ≤ barSize x.fn x.bar →
      (s.needsIde x.fn = false ∨ x.onIde = true) → x.write = false → x.offset.toNat % x.width = 0 →
      exec (.barRegisterAccess x w) s = .next { s with
        completed := .data ((List.range x.width).map (fun k => s.barByte x.fn x.bar (x.offset.toNat + k))) }) ∧
    ((s.fnLive x.fn = false ∨ barSize x.fn x.bar < x.offset.toNat + x.width) →
      exec (.barRegisterAccess x w) s = .next { s with completed := .unsupported }) ∧
    (s.fnLive x.fn = true → x.width ≠ 0 → x.offset.toNat + x.width ≤ barSize x.fn x.bar →
      (s.needsIde x.fn = false ∨ x.onIde = true) → x.write = true → x.offset.toNat % x.width ≠ 0 →
      ∃ u, exec (.barRegisterAccess x w) s = .next u ∧
        u.view i = { s.view i with err := true, reason := 0xA011, offset := x.offset.toNat } ∧
        u.reg kAccessLogCount = (s.reg kAccessLogCount + 1) % 2 ^ keyBits kAccessLogCount ∧
        SameRegs s u (kAccessLogCount :: logKeys) ∧ u = { s with dict := u.dict, mgmt := u.mgmt, views := u.views })) ∧
  (∀ (f : PciFn) (v : BitVec 32) (s : State), s.fnLive f = true →
    ∃ u, exec (.accessErr f v) s = .next u ∧ u = { s with views := u.views } ∧
      u.view (fnIndex f) = { s.view (fnIndex f) with err := (s.view (fnIndex f)).err && !v.getLsbD 0 }) ∧
  (∀ (v : BitVec 32) (w : Around) (s : State), s.pfLive = true →
    (s.mbox.busy = true → ∃ u, exec (.mailboxGo v w) s = .next u ∧ u.mbox = s.mbox ∧ (u.view 8).err = true ∧
      (u.view 8).reason = 0xC204) ∧
    (s.mbox.busy = false → s.mbox.epoch ≠ s.epochOf 8 → ∃ u, exec (.mailboxGo v w) s = .next u ∧
      u.mbox.done = true ∧ u.mbox.busy = false ∧ u.mbox.reason = 0xB205 ∧ SameRegs s u logKeys ∧ u.mem = s.mem) ∧
    (s.mbox.busy = false → s.mbox.epoch = s.epochOf 8 → v.getLsbD 24 = false →
      ∃ u, exec (.mailboxGo v w) s = .next u ∧ u.mbox.done = true ∧ u.mbox.busy = false ∧ u.mem = s.mem ∧
        ∀ t r, State.readEntry { s with mbox := ⟨v.toNat % 65536, v.toNat / 65536 % 256, false, s.mbox.len, s.mbox.reason,
            true, false, s.mbox.epoch, s.mbox.data⟩ } .mailbox (v.toNat % 65536) (v.toNat / 65536 % 256) = (r, t) →
          u.mbox.reason = r.1 ∧ (r.1 = 0 → u.mbox.len = r.2.length ∧
            u.mbox.data = memWrite 0 s.mbox.data 0 r.2))) ∧
  (∀ s : State, s.power.mode ≠ .off →
    ∃ u, exec .pfFlr s = .next u ∧ u.mbox = State.reset.mbox ∧ u.view 8 = View.fresh ∧ u.sec.doeReply = [] ∧
      (∀ l ∈ u.locks, l.owner ≠ reqCode .mailbox) ∧ u.mem = s.mem)

/-- Accesses to the dictionary (R412, R414 to R416, R418), by a node or the mailbox, while no lull window runs. A
write that a check of R412 refuses has that check's reason in its requester's LAST_REASON, and changes nothing else. A
write to a staged entry stands in the staged copy alone, and takes the group's lock, if it is free, for TO_LEASE_MS;
the first one to a free partition's maps makes it BUILDING. A value of a plain entry stands if it is in its range, and
is refused with 0xC003 if not. -/
def Obligations.DictionaryWrites : Prop :=
  (∀ (r : Requester) (index : BitVec 16) (sub : BitVec 8) (data : List Byte) (w : Around) (s : State),
    let i := index.toNat
    let j := sub.toNat
    let k := match r with
      | .node n => kLastReason n.val
      | _ => kLastReasonMbx
    let refused := fun (c : Reason) => ∃ u, exec (.dictWrite r index sub data w) s = .next u ∧ u.reg k = c ∧
      (i < 0x2000 → u.reg kMgmtRefusal = c) ∧ SameRegs s u [k, kMgmtRefusal] ∧ u.locks = s.locks ∧
      u.staged = s.staged ∧ u.mem = s.mem ∧ u.objs = s.objs ∧ u.parts = s.parts
    r ≠ .jobServices → s.mgmt.window = none → s.reaches r = true → i < 0xF000 →
    (indexExists i = false → refused 0xC001) ∧
    (indexExists i = true → entryRow i j = none → refused 0xC002) ∧
    (∀ row, indexExists i = true → entryRow i j = some row →
      (data.length ≠ row.bytes → refused 0xC004) ∧
      (data.length = row.bytes → (row.acc = .ro ∨ row.acc = .rc) → refused 0xC301) ∧
      (data.length = row.bytes → row.acc ≠ .ro → row.acc ≠ .rc →
        (row.expert = true → s.expertHeld r = false → refused 0xC303) ∧
        (row.expert = false → s.power.mode = .running → (s.reg kReadyMap).testBit (subsystemOf i) = false →
          refused 0xC202) ∧
        (row.expert = false → s.power.mode = .doldrums → doldrumsServes i = false → refused 0xC203) ∧
        (∀ g, row.expert = false → s.power.mode = .running → (s.reg kReadyMap).testBit (subsystemOf i) = true →
          lockGroup i j = some g → (∃ l ∈ s.locks, l.group = g ∧ l.owner ≠ reqCode r) → refused 0xC201)))) ∧
  (∀ (r : Requester) (index : BitVec 16) (sub : BitVec 8) (data : List Byte) (w : Around) (g : Nat) (s : State),
    let i := index.toNat
    let j := sub.toNat
    s.grants r i j data.length = true → s.mgmt.window = none → lockGroup i j = some g → stagedSub i j = true →
    (inSet 0x2010 i = true → s.reg (kGustEnable (i % 16)) ≠ 1 ∧ (s.grid (i % 16)).stopping = false) →
    ∃ u, exec (.dictWrite r index sub data w) s = .next u ∧
      u.stagedReg (dkey i j) = ofLe data % 2 ^ keyBits (dkey i j) ∧ u.mem = s.mem ∧ u.objs = s.objs ∧
      (inSet 0x3010 i = false → SameRegs s u [] ∧ u.parts = s.parts) ∧
      (inSet 0x3010 i = true → (s.part (i % 16)).state = stFree → (u.part (i % 16)).state = stBuilding) ∧
      ((∀ l ∈ s.locks, l.group ≠ g) → u.locks = s.locks ++ [⟨g, reqCode r, s.now,
        s.now + s.reg kToLeaseMs * 1000000, groupScope g, s.epochOf (groupScope g)⟩]) ∧
      (∀ l ∈ s.locks, l.group = g → { l with leaseEnd := s.now + s.reg kToLeaseMs * 1000000 } ∈ u.locks)) ∧
  ∀ (r : Requester) (e : Nat × Nat × Nat × Nat) (data : List Byte) (w : Around) (s : State),
    e ∈ [(0x1017, 0, 50, 1000), (0x1060, 8, 0, 1), (0x2001, 4, 1000, 10000), (0x2020, 3, 400, 1600),
      (0x3001, 2, 10, 86400), (0x7001, 3, 10, 10000), (0xA001, 5, 0, 5), (0xA801, 8, 60, 604800)] →
    let key := dkey e.1 e.2.1
    let v := ofLe data
    s.grants r e.1 e.2.1 data.length = true → s.mgmt.window = none →
    (e.2.2.1 ≤ v → v ≤ e.2.2.2 → ∃ u, exec (.dictWrite r (BitVec.ofNat 16 e.1) (BitVec.ofNat 8 e.2.1) data w) s =
      .next u ∧ u.reg key = v ∧ SameRegs s u [key] ∧ u.locks = s.locks ∧ u.staged = s.staged ∧ u.mem = s.mem) ∧
    (v < e.2.2.1 ∨ e.2.2.2 < v → r = .mailbox → ∃ u, exec (.dictWrite r (BitVec.ofNat 16 e.1)
      (BitVec.ofNat 8 e.2.1) data w) s = .next u ∧ u.reg kLastReasonMbx = 0xC003 ∧
      SameRegs s u [kLastReasonMbx, kMgmtRefusal] ∧ u.mem = s.mem)

/-- Locks, the expert unlock, and the log's window (R411, R418 to R420, R432, R433). A release of a lock frees it and
discards what was staged, and ends what its group had begun (log entry 26). A lease that has run out
breaks its lock: it is free, its staged copy is gone, its owner's unlock lapses and one refusal is owed; one that runs
stays. The unlock word unlocks its requester, 0 ends the unlock, any other value is refused; an unlock whose time has
passed lapses. LOG_READ_SEQ picks a record that is held. -/
def Obligations.LocksUnlocksAndLogWindow : Prop :=
  (∀ (r : Requester) (index : BitVec 16) (s : State),
    let i := index.toNat - 0x1030
    let g := sequenceGroup i
    0x1030 ≤ index.toNat → index.toNat ≤ 0x1040 → s.grants r index.toNat 4 1 = true → s.mgmt.window = none →
    (s.holdsLock r g = true → ∃ u, exec (.lockRelease r index) s = .next u ∧ u.mem = s.mem ∧
      u.locks = s.locks.filter (fun l => l.group != g) ∧ (∀ k ∈ groupKeys g, u.stagedReg k = u.reg k) ∧
      (i < 8 → (s.part i).state = stBuilding → (u.part i).state = stFree) ∧
      (8 ≤ i → i < 16 → ∀ n, (u.keySlot n).provisional = true → (u.keySlot n).owner ≠ i - 8) ∧
      (i = 16 → s.reg kFwState ≠ 4 → u.reg kFwState = 0)) ∧
    (s.holdsLock r g = false → ∃ u, exec (.lockRelease r index) s = .next u ∧ u.locks = s.locks ∧
      u.staged = s.staged ∧ u.mem = s.mem ∧ (r = .mailbox → u.reg kLastReasonMbx = 0xC201))) ∧
  (∀ (index : BitVec 16) (t : Nat) (l : Lock) (s : State), s.locks.find? (fun x => x.group == index.toNat) = some l →
    (l.leaseEnd ≤ max s.now t → ∃ u, exec (.lockLeaseExpiry index t) s = .next u ∧ u.mem = s.mem ∧
      u.locks = s.locks.filter (fun x => x.group != index.toNat) ∧ u.owed = s.owed ++ [(index.toNat, l.owner)] ∧
      u.expert = tabErase s.expert l.owner ∧ (∀ k ∈ groupKeys index.toNat, u.stagedReg k = u.reg k) ∧
      (∀ i, sequenceLock index.toNat = some i →
        u.reg (kLockBreaks i) = (s.reg (kLockBreaks i) + 1) % 2 ^ keyBits (kLockBreaks i))) ∧
    ((∀ x ∈ s.locks, x.group = index.toNat → max s.now t < x.leaseEnd) →
      exec (.lockLeaseExpiry index t) s = .next (s.tick t))) ∧
  (∀ (r : Requester) (v : BitVec 32) (s : State), s.grants r 0x1F10 1 4 = true → s.mgmt.window = none →
    ∃ u, exec (.expertUnlock r v) s = .next u ∧ u.mem = s.mem ∧
      (v = 0x45585054#32 → u.expertHeld r = true ∧ SameRegs s u logKeys) ∧
      (v = 0#32 → u.expertHeld r = false ∧ SameRegs s u []) ∧
      (v ≠ 0x45585054#32 → v ≠ 0#32 → u.expertHeld r = s.expertHeld r ∧
        (r = .mailbox → u.reg kLastReasonMbx = 0xC003))) ∧
  (∀ (r : Requester) (t : Nat) (s : State),
    ((∀ e ∈ s.expert, e.1 = reqCode r → e.2.1 + e.2.2 < max s.now t) →
      ∃ u, exec (.expertLapse r t) s = .next u ∧ u = { s.tick t with expert := tabErase s.expert (reqCode r) } ∧
        u.expertHeld r = false) ∧
    ((s.tick t).expertHeld r = true → exec (.expertLapse r t) s = .next (s.tick t))) ∧
  ∀ (r : Requester) (v : BitVec 32) (s : State), s.grants r 0xA001 3 4 = true → s.mgmt.window = none →
    ((s.mgmt.ring ≠ [] ∨ s.mgmt.flashLog ≠ []) → s.oldestSeq ≤ v.toNat → v.toNat ≤ s.reg kLogNewestSeq →
      ∃ u, exec (.logReadSeq r v) s = .next u ∧ u.reg kLogReadSeq = v.toNat ∧ SameRegs s u [kLogReadSeq] ∧
        u.mem = s.mem ∧ ∀ e, s.logRecord v.toNat = some e → (s.reg kReadyMap).testBit 12 = true →
          u.readValue r 0xA001 4 = e.word) ∧
    ((v.toNat < s.oldestSeq ∨ s.reg kLogNewestSeq < v.toNat) → r = .mailbox →
      ∃ u, exec (.logReadSeq r v) s = .next u ∧ u.reg kLogReadSeq = s.reg kLogReadSeq ∧
        u.reg kLastReasonMbx = 0xC003 ∧ u.mem = s.mem)

/-- The field bus (R412, R425, R426, R428, R430). A USDO read or write runs its access and answers with its outcome; a
segmented write applies nothing before its last segment, and a session that waits too long ends with 0xC602. Start,
stop and enter pre-operational set the NMT state; a reset of the node or of communication lapses the unlocks, ends the
sessions, empties the EMCY queue, sends the boot-up message and leaves pre-operational. (That a session's absence
answers 0x08000000, and the answer's layout, are log entry 28.) -/
def Obligations.UsdoAndNmt : Prop :=
  (∀ (node : Fin 128) (w : Around) (s : State), s.reaches (.node node) = true →
    (∀ (i : BitVec 16) (j : BitVec 8) r u, s.readEntry (.node node) i.toNat j.toNat = (r, u) → u.onBus = true →
      ∃ x, exec (.usdoRequest node (.read i j) w) s = .next x ∧ x.mem = u.mem ∧ SameRegs u x [] ∧
        x.mgmt.frames = u.mgmt.frames ++ [⟨0x580 + u.reg kNodeId,
          if r.1 = 0 then leBytes 1 node.val ++ [0] ++ r.2 else leBytes 1 node.val ++ [1] ++ leBytes 4 (abortCode r.1)⟩]) ∧
    (∀ (i : BitVec 16) (j : BitVec 8) d r u, s.access (.node node) i.toNat j.toNat d w = (r, u) → u.onBus = true →
      ∃ x, exec (.usdoRequest node (.write i j d) w) s = .next x ∧ x.mem = u.mem ∧ SameRegs u x [] ∧
        x.mgmt.frames = u.mgmt.frames ++ [⟨0x580 + u.reg kNodeId,
          if r = 0 then leBytes 1 node.val ++ [0] else leBytes 1 node.val ++ [1] ++ leBytes 4 (abortCode r)⟩]) ∧
    (∀ (i : BitVec 16) (j : BitVec 8) d, s.mgmt.window = none →
      ∃ x, exec (.usdoRequest node (.writeFirst i j d) w) s = .next x ∧ SameRegs s x [] ∧ x.mem = s.mem ∧
        x.staged = s.staged ∧ x.locks = s.locks ∧
        tabGet x.mgmt.sessions node.val ⟨0, 0, [], 0, 0⟩ =
          ⟨i.toNat, j.toNat, d, s.now, s.reg kToUsdoMs * 1000000⟩) ∧
    (∀ d e, s.mgmt.window = none → s.mgmt.sessions = [(node.val, e)] →
      (∃ x, exec (.usdoRequest node (.writeNext d false) w) s = .next x ∧ SameRegs s x [] ∧ x.mem = s.mem ∧
        x.staged = s.staged ∧ x.locks = s.locks ∧
        x.mgmt.sessions = [(node.val, { e with data := e.data ++ d, last := s.now })]) ∧
      (∀ r u, State.access { s with mgmt := { s.mgmt with sessions := [] } } (.node node) e.index e.sub (e.data ++ d) w =
          (r, u) →
        ∃ x, exec (.usdoRequest node (.writeNext d true) w) s = .next x ∧ x.mem = u.mem ∧ SameRegs u x [] ∧
          x.mgmt.sessions = u.mgmt.sessions))) ∧
  (∀ (node : Fin 128) (t : Nat) (e : Session) (s : State), s.mgmt.sessions = [(node.val, e)] → node.val ≠ 0 →
    (e.last + e.limit ≤ max s.now t → ∃ u, exec (.usdoSegmentTimeout node t) s = .next u ∧ u.mgmt.sessions = [] ∧
      u.reg (kLastReason node.val) = 0xC602 ∧ SameRegs s u [kLastReason node.val] ∧ u.mem = s.mem ∧
      u.staged = s.staged) ∧
    (max s.now t < e.last + e.limit → exec (.usdoSegmentTimeout node t) s = .next (s.tick t))) ∧
  ∀ s : State, s.onBus = true → s.mgmt.window = none →
    (∃ u, exec .nmtStart s = .next u ∧ u.reg kNmtState = 0x05 ∧ SameRegs s u [kNmtState] ∧ u.mgmt = s.mgmt) ∧
    (∃ u, exec .nmtStop s = .next u ∧ u.reg kNmtState = 0x04 ∧ SameRegs s u [kNmtState] ∧ u.mgmt = s.mgmt) ∧
    (∃ u, exec .nmtEnterPreOperational s = .next u ∧ u.reg kNmtState = 0x7F ∧ SameRegs s u [kNmtState] ∧
      u.mgmt = s.mgmt) ∧
    ∀ c ∈ [Instr.nmtResetNode, Instr.nmtResetCommunication], ∃ u, exec c s = .next u ∧ u.reg kNmtState = 0x7F ∧
      (∀ l ∈ u.locks, 128 ≤ l.owner) ∧ u.expert = [] ∧ u.mgmt.sessions = [] ∧ u.mgmt.emcy = [] ∧ u.mem = s.mem ∧
      u.power = s.power ∧ ((s.locks.filter (fun l => decide (l.owner < 128))) = [] →
        u.mgmt.frames = s.mgmt.frames ++ [⟨0x700 + s.reg kNodeId, [0, 0]⟩])

/-- Heartbeats, loss, and the lull agreement (R376, R419, R427, R430, R431). The heartbeat that is due goes out with
the NMT state and the module's vote. A node that is heard counts as present, with its vote; an awake one ends a window
that runs. A silent one leaves the present set. A lock owner's loss and bus-off break its locks and raise the epochs
of their scopes; the module rejoins awake. The window's end puts the bus to sleep; a pattern wakes it. -/
def Obligations.HeartbeatsAndLull : Prop :=
  (∀ (t : Nat) (s : State), s.onBus = true → s.mgmt.lastBeat + s.reg kHeartbeatMs * 1000000 ≤ max s.now t →
    ∃ u, exec (.heartbeatSend t) s = .next u ∧ u.mgmt.lastBeat = max s.now t ∧ u.mgmt.vote = (s.tick t).lullVote ∧
      u.mgmt.frames = s.mgmt.frames ++ [⟨0x700 + s.reg kNodeId,
        leBytes 1 (s.reg kNmtState) ++ leBytes 1 (s.tick t).lullVote⟩] ∧ u.mem = s.mem ∧
      SameRegs s u (kBusState :: logKeys)) ∧
  (∀ (node : Fin 128) (st vote : Byte) (t : Nat) (s : State), s.onBus = true → node.val ≠ 0 →
    node.val ≠ s.reg kNodeId →
    ∃ u, exec (.heartbeat node st vote t) s = .next u ∧ u.mem = s.mem ∧ SameRegs s u (kBusState :: logKeys) ∧
      tabGet u.mgmt.heard node.val ⟨0, 0, 0, false⟩ = ⟨max s.now t, vote.toNat, s.reg kToManagerHbMs * 1000000, true⟩ ∧
      (vote ≠ 1#8 → ∀ o, s.mgmt.window = some o → max s.now t ≤ o + s.reg kToLullWindowMs * 1000000 →
        u.mgmt.window = none ∧ u.reg kBusState = 0) ∧
      (vote = 1#8 → s.mgmt.window = none → s.mgmt.vote = 1 → s.mgmt.heard = [] → u.mgmt.window = some (max s.now t) ∧
        u.reg kBusState = 1)) ∧
  (∀ (node : Fin 128) (t : Nat) (e : Heard) (s : State), s.mgmt.heard = [(node.val, e)] → e.present = true →
    e.last + nsPerS ≤ max s.now t →
    ∃ u, exec (.presentSetLapse node t) s = .next u ∧ u.mgmt.heard = [(node.val, { e with present := false })] ∧
      u.mem = s.mem ∧ SameRegs s u [kBusState]) ∧
  (∀ (node : Fin 128) (t : Nat) (l : Lock) (s : State), s.locks = [l] → l.owner = node.val →
    s.lostAt node.val l.since ≤ max s.now t →
    ∃ u, exec (.managerHeartbeatLoss node t) s = .next u ∧ u.locks = [] ∧ u.mem = s.mem ∧
      u.reg (kRecoveryEpoch l.scope) =
        (if s.epochOf l.scope = 0xFFFF then 1 else s.epochOf l.scope + 1) % 2 ^ keyBits (kRecoveryEpoch l.scope)) ∧
  (∀ s : State, s.serves = true → s.mgmt.busOff = false →
    ∃ u, exec .busOff s = .next u ∧ u.mgmt.busOff = true ∧ (∀ l ∈ u.locks, 128 ≤ l.owner) ∧ u.mem = s.mem) ∧
  (∀ s : State, s.mgmt.busOff = true → s.serves = true → s.reg kNodeId ≠ 0 → s.reg kBusState ≠ 2 →
    ∃ u, exec .busOffRecovery s = .next u ∧ u.mgmt.busOff = false ∧ u.mgmt.vote = 0 ∧ u.mem = s.mem ∧
      u.mgmt.frames = s.mgmt.frames ++ [⟨0x700 + s.reg kNodeId, leBytes 1 (s.reg kNmtState) ++ [0]⟩]) ∧
  (∀ (t o : Nat) (s : State), s.mgmt.window = some o → o + s.reg kToLullWindowMs * 1000000 ≤ max s.now t →
    s.power.mode = .running → s.reg kLullAllow ≠ 1 →
    ∃ u, exec (.lullWindowEnd t) s = .next u ∧ u.reg kBusState = 2 ∧ u.mgmt.window = none ∧ u.mem = s.mem ∧
      SameRegs s u (kBusState :: logKeys)) ∧
  ∀ (t : Nat) (b : BootInput) (s : State), s.reg kBusState = 2 → s.power.mode = .running → s.mgmt.busOff = false →
    s.serves = true → s.reg kNodeId ≠ 0 → s.mgmt.window = none →
    ∃ u, exec (.wakeUpPattern t b) s = .next u ∧ u.reg kBusState = 0 ∧ u.mgmt.vote = 0 ∧ u.mem = s.mem ∧
      SameRegs s u (kBusState :: logKeys) ∧
      u.mgmt.frames = s.mgmt.frames ++ [⟨0x700 + s.reg kNodeId, leBytes 1 (s.reg kNmtState) ++ [0]⟩]

/-- EMCY and the event log (R429, R432, R433). The oldest waiting EMCY goes out, at most one in 10 ms, and not while
stopped. The oldest record that waits goes to the flash log; a full log loses its oldest 2,048. An event is a record
with the next sequence number, unless ten of its code stand in its second: then it is counted alone. -/
def Obligations.EmcyAndEventLog : Prop :=
  (∀ (t : Nat) (e : CanFrame) (rest : List CanFrame) (s : State), s.mgmt.emcy = e :: rest →
    (s.onBus = true → s.reg kNmtState ≠ 4 → s.mgmt.window = none →
      (∀ l, s.mgmt.lastEmcy = some l → l + 10000000 ≤ max s.now t) →
      ∃ u, exec (.emcySend t) s = .next u ∧ u.mgmt.emcy = rest ∧ u.mgmt.lastEmcy = some (max s.now t) ∧
        u.mgmt.frames = s.mgmt.frames ++ [⟨0x080 + s.reg kNodeId, e.data⟩] ∧ SameRegs s u [] ∧ u.mem = s.mem) ∧
    ((s.reg kNmtState = 4 ∨ ∃ l, s.mgmt.lastEmcy = some l ∧ max s.now t < l + 10000000) →
      exec (.emcySend t) s = .next (s.tick t))) ∧
  (∀ (e : EventRec) (rest : List EventRec) (s : State), s.mgmt.toFlash = e :: rest → s.power.mode ≠ .off →
    s.fw.ops = [] →
    (s.mgmt.flashLog.length < 1048576 → exec .eventLogWrite s =
      .next { s with mgmt := { s.mgmt with toFlash := rest, flashLog := s.mgmt.flashLog ++ [e] } }) ∧
    (1048576 ≤ s.mgmt.flashLog.length → ∃ u, exec .eventLogWrite s = .next u ∧ u.mem = s.mem ∧
      u.mgmt.flashLog = s.mgmt.flashLog.drop 2048 ++ [e])) ∧
  ∀ (c r n : Nat) (s : State),
    (∀ k, k ∉ logKeys → (s.event c r n).reg k = s.reg k) ∧ (s.event c r n).mem = s.mem ∧
    (s.mgmt.rate = [] → (s.event c r n).mgmt.nextSeq = s.mgmt.nextSeq + 1 ∧
      ⟨s.now, c, s.mgmt.nextSeq, r, 0, n % 2 ^ 96⟩ ∈ (s.event c r n).mgmt.toFlash) ∧
    (∀ k d, s.mgmt.rate = [(c, (s.now / nsPerS, k, d))] → 10 ≤ k →
      (s.event c r n).mgmt.ring = s.mgmt.ring ∧ (s.event c r n).mgmt.toFlash = s.mgmt.toFlash ∧
      (s.event c r n).mgmt.nextSeq = s.mgmt.nextSeq)

/-- Starts, resets and losses of power (R440 to R446). A cold start, and a reset by PERST# or MODULE_RESET, leaves no
partition, object, lock, staged value, key or byte of RAM, keeps the flash and the host's memory, and ends with the
module running or, where no slot boots, silent; a cold start begins the module's time at 0, a reset does not. Without
PWR_GOOD the module is off. With no partition and PERST# asserted it may doze, and it wakes by a start. The PF answers
once PERST# is released. A reset that locked partitions stand against is refused with 0xB244 where REQUEST_DEFER is 0.
-/
def Obligations.StartsAndResets : Prop :=
  ∀ (b : BootInput) (s : State),
    (s.power.mode = .off → ∃ u, exec (.coldStart b) s = .next u ∧ s.emptied u ∧ u.started ∧ u.now = 0 ∧
      u.power.perst = s.power.perst ∧ u.power.slotRead = false) ∧
    (s.power.mode ≠ .off → exec (.coldStart b) s = .next s) ∧
    (s.fw.ops = [] → ∀ c ∈ [Instr.pwrGoodFall, .inputSwitchOpen true, .inputSwitchOpen false],
      ∃ u, exec c s = .next u ∧ s.emptied u ∧ u.power.mode = .off ∧ u.now = 0) ∧
    (s.power.mode = .running → s.power.perst = false → ∃ u, exec (.perstAssert b) s = .next u ∧ s.emptied u ∧
      u.started ∧ u.power.perst = true ∧ u.now = s.now ∧ u.power.slotRead = s.power.slotRead) ∧
    (s.power.mode = .doldrums → s.power.perst = false →
      exec (.perstAssert b) s = .next { s with power := { s.power with perst := true } }) ∧
    (∀ clk, s.power.mode = .running → s.power.perst = true → s.sec.encFailed = false →
      ∃ u, exec (.perstRelease clk b) s = .next u ∧ u.reg kReadyMap = (0x1FFE &&& s.reg kFuncEnable) % 2 ^ 16 ∧
        u.power = { s.power with perst := false, refclk := clk } ∧ SameRegs s u [kReadyMap, kLinkStatus] ∧ u.mem = s.mem) ∧
    (∀ clk, s.power.mode = .doldrums → s.power.perst = true → ∃ u, exec (.perstRelease clk b) s = .next u ∧
      s.emptied u ∧ u.started ∧ u.power.perst = false) ∧
    ∀ r : Requester,
      (s.grants r 0x2020 0x09 1 = true → s.concerned = [] → ∃ u, exec (.moduleReset r b) s = .next u ∧ s.emptied u ∧
        u.started ∧ u.now = s.now) ∧
      (s.grants r 0x2020 0x09 1 = true → s.concerned ≠ [] → s.reg kRequestDefer = 0 →
        ∃ u, exec (.moduleReset r b) s = .next u ∧ u.reg kPowerRefusal = 0xB244 ∧ u.parts = s.parts ∧ u.mem = s.mem) ∧
      (s.grants r 0x2020 0x07 1 = true → s.power.mode = .running → s.mayDoze = true →
        ∃ u, exec (.doldrumsNow r) s = .next u ∧ s.emptied u ∧ u.power.mode = .doldrums ∧ u.reg kReadyMap = 2 ^ 12) ∧
      (s.grants r 0x2020 0x07 1 = true → s.mayDoze = false →
        ∃ u, exec (.doldrumsNow r) s = .next u ∧ u.reg kPowerRefusal = 0xC206 ∧ u.power = s.power ∧ u.mem = s.mem) ∧
      (s.grants r 0x2020 0x08 1 = true → s.power.mode = .doldrums → ∃ u, exec (.wakeUp r b) s = .next u ∧
        s.emptied u ∧ u.started)

/-- Slot pins, cluster groups, samples and squalls (R424, R441, R447, R448, R450, R454). The pins that are read give
the node id, and the boot-up message goes out; pins of 0 leave the module silent; a change after that is only an
event. A cluster group that powers up is no longer down, and a column that failed joins the pending bypass map. A
sample stands in its entries; its triggers begin a squall, and a die at 105 degrees trips: what runs faults, and every
group goes down. A squall ends 50 microseconds after its triggers cleared. -/
def Obligations.PinsSamplesAndSqualls : Prop :=
  (∀ (pins : BitVec 7) (s : State), s.power.mode = .running → s.power.slotRead = false →
    (pins ≠ 0#7 → s.serves = true → s.mgmt.busOff = false → s.reg kBusState ≠ 2 →
      ∃ u, exec (.slotIdRead pins) s = .next u ∧ u.reg kNodeId = pins.toNat ∧ SameRegs s u [kNodeId] ∧
        u.power = { s.power with slotRead := true } ∧ u.mem = s.mem ∧
        u.mgmt.frames = s.mgmt.frames ++ [⟨0x700 + pins.toNat, [0, 0]⟩]) ∧
    (pins = 0#7 → ∃ u, exec (.slotIdRead pins) s = .next u ∧ u.reg kNodeId = 0 ∧ u.mgmt.silent = true ∧
      u.mgmt.frames = s.mgmt.frames ∧ u.mem = s.mem ∧ SameRegs s u (kNodeId :: logKeys))) ∧
  (∀ (pins : BitVec 7) (s : State), s.power.slotRead = true → s.power.mode ≠ .off →
    ∃ u, exec (.slotIdChange pins) s = .next u ∧ u = { s with dict := u.dict, mgmt := u.mgmt } ∧ SameRegs s u logKeys) ∧
  (∀ (g : Fin 32) (x : ClusterTest) (s : State), s.power.mode = .running → s.power.cgDown.testBit g.val = true →
    s.power.cgColl.testBit g.val = false → s.power.tripped = false →
    (∃ u, exec (.clusterGroupPowerUp g []) s = .next u ∧ u.power.cgDown.testBit g.val = false ∧ u.mem = s.mem ∧
      SameRegs s u [kClusterReady (g.val / 4 + 1), kCgCollapsed] ∧ ∀ i < 16,
        (u.reg (kClusterReady (g.val / 4 + 1))).testBit (16 * (g.val % 4) + i) =
          (s.clusterWidth (16 * g.val + i) != 0 && !s.power.failed.contains (16 * g.val + i))) ∧
    (let c := x.cluster.val
     let k := kColumnBypassPending (c / 128) (c % 128 + 1)
     c / 16 = g.val → x.laneFail = false → x.columns ≠ 0#64 →
      ∃ u, exec (.clusterGroupPowerUp g [x]) s = .next u ∧ u.reg k = (s.reg k ||| x.columns.toNat) % 2 ^ 64 ∧
        (u.reg (kClusterReady (g.val / 4 + 1))).testBit (c % 64) = false ∧ u.mem = s.mem ∧
        SameRegs s u ([k, kClusterReady (g.val / 4 + 1), kCgCollapsed] ++ logKeys))) ∧
  (∀ (t : Nat) (v : PowerReading) (s : State), s.power.mode = .running →
    ∃ u, exec (.powerSample t v) s = .next u ∧ u.reg kInputMv = v.mv % 2 ^ keyBits kInputMv ∧
      u.reg kInputW = v.w % 2 ^ keyBits kInputW ∧ u.reg kDieTemp = unsgn 32 v.die ∧
      u.power.conditions = hotBits v (s.reg kPowerCapW) ∧
      (v.die < 1050 → u.mem = s.mem ∧ u.parts = s.parts ∧
        SameRegs s u ([kInputMv, kInputW, kDieTemp, kCoolantInTemp, kSqualls] ++ logKeys)) ∧
      (s.power.squall = none → squallOn v = true → u.power.squall = some (max s.now t, none) ∧
        u.reg kSqualls = (s.reg kSqualls + 1) % 2 ^ keyBits kSqualls) ∧
      (s.power.squall = none → squallOn v = false → u.power.squall = none) ∧
      (1050 ≤ v.die → s.power.tripped = false → u.power.tripped = true ∧ (∀ g < 32, u.power.cgDown.testBit g = true) ∧
        u.reg kThermalTrips = (s.reg kThermalTrips + 1) % 2 ^ keyBits kThermalTrips ∧
        ∀ p : Fin 8, (s.part p).state = stRunning → (u.part p).state = stHeld)) ∧
  ∀ (t a c : Nat) (s : State), s.power.squall = some (a, some c) →
    (c + 50000 ≤ max s.now t → ∃ u, exec (.squallEnd t) s = .next u ∧ u.power = { s.power with squall := none } ∧
      u.reg kSquallNs = (s.reg kSquallNs + (max s.now t - a)) % 2 ^ keyBits kSquallNs ∧ SameRegs s u [kSquallNs] ∧
      u.mem = s.mem) ∧
    (max s.now t < c + 50000 → exec (.squallEnd t) s = .next (s.tick t))

/-- Self-tests (R451 to R454). A test of an idle unit starts at once; one of a unit in service waits where it may, and
is refused with 0xC205 where it may not. A waiting test starts when its unit is idle, and is dropped with 0xC603 when
it has waited too long. Its result stands in TEST_RESULT; a port that fails stays FAILED, and a failing encryption
engine clears its READY_MAP bit. (The reason code of a failing test is a free value: the spec gives none.) -/
def Obligations.SelfTests : Prop :=
  (∀ (r : Requester) (s : State), s.grants r 0xA801 0x04 1 = true →
    let g := s.granted r 0xA801 0x04
    let id := g.stagedReg kTestId
    let i := g.stagedReg kTestUnit
    (i < testUnits id → g.stagedReg kTestQueue ≤ 1 → s.inService id i = false →
      ∃ u, exec (.testEnable r) s = .next u ∧ u.mgmt.running = s.mgmt.running ++ [⟨id, i, s.now⟩] ∧
        u.mgmt.tests = s.mgmt.tests ∧ u.reg kTestState = 2 ∧ u.mem = s.mem ∧ ∀ l ∈ u.locks, l.group ≠ 0xA801) ∧
    (i < testUnits id → g.stagedReg kTestQueue = 1 → s.inService id i = true → s.mgmt.tests.length < 16 →
      ∃ u, exec (.testEnable r) s = .next u ∧ u.mgmt.tests = s.mgmt.tests ++ [⟨id, i, s.now⟩] ∧
        u.mgmt.running = s.mgmt.running ∧ u.reg kTestsQueued = s.mgmt.tests.length + 1 ∧ u.mem = s.mem) ∧
    (i < testUnits id → g.stagedReg kTestQueue = 0 → s.inService id i = true →
      ∃ u, exec (.testEnable r) s = .next u ∧ u.reg kTestRefusal = 0xC205 ∧ u.mgmt.tests = s.mgmt.tests ∧
        u.mgmt.running = s.mgmt.running ∧ u.mem = s.mem)) ∧
  (∀ (t : Nat) (x : Test) (s : State), s.mgmt.tests = [x] →
    ((s.tick t).mayTest x.id x.unit = true → ∃ u, exec (.testStart t) s = .next u ∧ u.mgmt.tests = [] ∧
      u.mgmt.running = s.mgmt.running ++ [x] ∧ u.reg kTestState = 2 ∧ u.reg kTestsQueued = 0 ∧
      SameRegs s u [kTestState, kTestsQueued] ∧ u.mem = s.mem) ∧
    ((s.tick t).mayTest x.id x.unit = false → exec (.testStart t) s = .next (s.tick t)) ∧
    (x.since + s.reg kTestQueueLimitS * nsPerS ≤ max s.now t → ∃ u, exec (.testQueueExpiry t) s = .next u ∧
      u.mgmt.tests = [] ∧ u.reg kTestRefusal = 0xC603 ∧ u.reg kTestsQueued = 0 ∧ u.mem = s.mem ∧
      SameRegs s u ([kTestRefusal, kTestState, kTestsQueued] ++ logKeys)) ∧
    (max s.now t < x.since + s.reg kTestQueueLimitS * nsPerS → s.testGone x = false →
      exec (.testQueueExpiry t) s = .next (s.tick t))) ∧
  ∀ (o : TestOutcome) (x : Test) (rest : List Test) (s : State), s.mgmt.running = x :: rest → s.sec.failed = false →
    x.unit < testUnits x.id →
    (o.pass = true → ∃ u, exec (.testComplete o) s = .next u ∧ u.mgmt.running = rest ∧
      u.reg kTestResult = o.faults.toNat * 2 ^ 16) ∧
    (o.pass = false → ∃ u, exec (.testComplete o) s = .next u ∧ u.mgmt.running = rest ∧
      u.reg kTestResult = Config.testReason x.id % 2 ^ 16 + o.faults.toNat * 2 ^ 16 ∧
      (x.id = 7 → x.unit < 16 → u.reg (kPortState x.unit) = 4 ∧ (u.port x.unit).failed = true) ∧
      (x.id = 8 → (u.reg kReadyMap).testBit 6 = false ∧ u.sec.encFailed = true) ∧
      (x.id = 9 → u.sec.failed = true ∧ u.reg kEntropyState = 2))

/-- Staging and activation (R471 to R475, R478). An accepted session marks its image as void, erases what is not
blank, and keeps the lock; one of a bad index, source or size is refused with 0xC006. A chunk at the next offset is
programmed by pages, each byte at its place; at any other it is refused with 0xC106. A commit of all bytes queues the
image's record and releases the lock. Activation names the other slot, once it has all six records, and 0xC108 refuses
it before. A confirmation blows every image's security version, but not after a fall-back. -/
def Obligations.FirmwareStaging : Prop :=
  (∀ (r : Requester) (s : State), s.grants r 0x9801 0x04 1 = true →
    let g := s.granted r 0x9801 0x04
    let i := g.stagedReg kFwStageIndex
    let n := g.stagedReg kFwStageBytes
    (1 ≤ i → i ≤ 6 → g.stagedReg kFwStageSrc = 0 → 1 ≤ n → n ≤ imageRoom i → s.reg kFwState = 0 →
      ∃ u, exec (.fwStageEnable r) s = .next u ∧ u.reg kFwState = 1 ∧ u.reg kFwStageIndex = i ∧
        u.reg kFwStageBytes = n ∧ u.fw = { s.fw with
          ops := s.fw.ops ++ [.body s.inactive 0x0102 (leBytes 4 i ++ List.replicate 60 0), .marker s.inactive] ++
            (s.dirtySectors s.inactive i).map FlashOp.erase
          staged := 0 } ∧ u.mem = s.mem ∧ u.holdsLock r 0x9801 = true) ∧
    ((i = 0 ∨ 6 < i ∨ n = 0 ∨ imageRoom i < n) → ∃ u, exec (.fwStageEnable r) s = .next u ∧
      u.reg kFwRefusal = 0xC006 ∧ u.fw = s.fw ∧ u.reg kFwState = s.reg kFwState ∧ u.mem = s.mem)) ∧
  (∀ (r : Requester) (data : List Byte) (s : State), s.grants r 0x9801 0x06 data.length = true → s.reg kFwState = 2 →
    s.fw.ops = [] → let base := imageBase s.inactive (s.reg kFwStageIndex) + s.reg kFwChunkOffset
    (s.reg kFwChunkOffset = s.fw.staged → s.fw.staged < s.reg kFwStageBytes →
      (∀ a, base ≤ a → a < base + data.length → a ∉ s.mem.flash.map Prod.fst) →
      ∃ u, exec (.fwChunk r data) s = .next u ∧ u.mem = s.mem ∧ u.reg kFwState = 2 ∧
        ∀ k < data.length, ∃ a d, FlashOp.page a d ∈ u.fw.ops ∧ a ≤ base + k ∧ base + k < a + d.length ∧
          d.getD (base + k - a) 0 = data.getD k 0) ∧
    (s.reg kFwChunkOffset ≠ s.fw.staged → ∃ u, exec (.fwChunk r data) s = .next u ∧ u.reg kFwRefusal = 0xC106 ∧
      u.fw = s.fw ∧ u.mem = s.mem)) ∧
  (∀ (r : Requester) (s : State), s.grants r 0x9801 0x07 1 = true → s.fw.ops = [] →
    let i := s.reg kFwStageIndex
    let n := s.reg kFwStageBytes
    ((s.reg kFwState = 2 ∨ s.reg kFwState = 3) → n ≤ s.fw.staged → ∃ u, exec (.fwStageCommit r) s = .next u ∧
      u.reg kFwState = 4 ∧ u.mem = s.mem ∧ (∀ l ∈ u.locks, l.group ≠ 0x9801) ∧
      u.fw.ops = [.body s.inactive 0x0101 (leBytes 4 i ++ leBytes 4 n ++ List.replicate 8 0 ++ s.stagedDigest i n),
        .marker s.inactive]) ∧
    (s.fw.staged < n → ∃ u, exec (.fwStageCommit r) s = .next u ∧ u.reg kFwRefusal = 0xC106 ∧ u.fw = s.fw ∧
      u.mem = s.mem)) ∧
  (∀ (r : Requester) (s : State), s.grants r 0x9802 0x02 1 = true → s.reg kFwState = 0 →
    ((∀ i < 6, (s.imageRec s.inactive (i + 1)).isSome = true) → ∃ u, exec (.fwActivate r) s = .next u ∧
      u.fw = { s.fw with ops := s.fw.ops ++ [.body 2 0x0201 (leBytes 4 s.inactive), .marker 2] } ∧ u.mem = s.mem) ∧
    ((∃ i < 6, (s.imageRec s.inactive (i + 1)).isNone = true) → ∃ u, exec (.fwActivate r) s = .next u ∧
      u.reg kFwRefusal = 0xC108 ∧ u.fw = s.fw ∧ u.mem = s.mem)) ∧
  ∀ (r : Requester) (s : State), s.grants r 0x9802 0x03 1 = true →
    (s.fw.fellBack = false → ∃ u, exec (.fwConfirm r) s = .next u ∧ u.mem = s.mem ∧ u.fw = s.fw ∧
      ∀ i < 6, ∀ c < 3, tabGet u.sec.fuses (57 + 6 * c + i) 0 =
        tabGet s.sec.fuses (57 + 6 * c + i) 0 ||| (2 ^ (s.image (i + 1)).svn - 1)) ∧
    (s.fw.fellBack = true → ∃ u, exec (.fwConfirm r) s = .next u ∧ u.sec = s.sec ∧ u.reg kFwRefusal = 0xC207)

/-- Flash operations (R460 to R463, R465). An erase that passes leaves its sector reading ones and every other byte as
it was, and counts; a page that passes puts its bytes, and no other; a record's data phase stands at the end of its
area, not yet valid, until its marker makes it so. An operation that fails its check stands for a retry, with nothing
changed in the flash and the failure counted. -/
def Obligations.FlashOperations : Prop :=
  (∀ (n ms : Nat) (rest : List FlashOp) (s : State), s.fw.ops = .erase n :: rest →
    let m := s.servedBy n
    (ms ≤ 2000 → ∃ u, exec (.flashEraseDone true ms) s = .next u ∧ u.mem = { s.mem with flash := u.mem.flash } ∧
      (∀ a, n * 65536 ≤ a → a < (n + 1) * 65536 → memGet flashErased u.mem.flash a = 0xFF) ∧
      (∀ a, a < n * 65536 ∨ (n + 1) * 65536 ≤ a → memGet flashErased u.mem.flash a = memGet flashErased s.mem.flash a) ∧
      tabGet u.fw.erases m 0 = tabGet s.fw.erases m 0 + 1 ∧
      (400 < ms → u.reg kSlowErases = (s.reg kSlowErases + 1) % 2 ^ keyBits kSlowErases)) ∧
    (tabGet s.fw.fails m 0 < 2 → tabGet s.fw.erases m 0 < 100000 →
      ∃ u, exec (.flashEraseDone false ms) s = .next u ∧ u.mem = s.mem ∧ u.fw.ops.head? = some (.erase n) ∧
        tabGet u.fw.fails m 0 = tabGet s.fw.fails m 0 + 1)) ∧
  (∀ (a : Nat) (d : List Byte) (rest : List FlashOp) (s : State), s.MemOk → s.fw.ops = .page a d :: rest →
    ∃ u, exec (.pageProgramDone true) s = .next u ∧ memRead flashErased u.mem.flash a d.length = d ∧
      (∀ x, x < a ∨ a + d.length ≤ x → memGet flashErased u.mem.flash x = memGet flashErased s.mem.flash x) ∧
      u.fw.staged = s.fw.staged + d.length ∧ u.mem = { s.mem with flash := u.mem.flash }) ∧
  (∀ (kind : Nat) (d : List Byte) (rest : List FlashOp) (s : State), s.fw.ops = .body 2 kind d :: rest →
    ∃ u, exec (.pageProgramDone true) s = .next u ∧ u.mem = s.mem ∧
      u.fw.store = s.fw.store ++ [⟨kind, nextSeq s.fw.store, d, false⟩]) ∧
  (∀ (x : Rec) (l : List Rec) (rest : List FlashOp) (s : State), s.fw.ops = .marker 2 :: rest → s.fw.store = l ++ [x] →
    ∃ u, exec (.pageProgramDone true) s = .next u ∧ u.mem = s.mem ∧ u.fw.store = l ++ [{ x with committed := true }]) ∧
  ∀ (o : FlashOp) (rest : List FlashOp) (s : State), s.fw.ops = o :: rest → (∀ n, o ≠ .erase n) →
    tabGet s.fw.fails (s.servedBy (s.opSector o)) 0 < 2 →
    ∃ u, exec (.pageProgramDone false) s = .next u ∧ u.mem = s.mem ∧ SameRegs s u [] ∧ u.fw = { s.fw with
      fails := tabSet s.fw.fails (s.servedBy (s.opSector o)) (tabGet s.fw.fails (s.servedBy (s.opSector o)) 0 + 1) }
end

