-- ==== Sys2Proof/Laws/State.lean ====
section
/-! SUPPORT. What each single update of the state leaves: one lemma per field per update. -/

namespace Sys2Proof.Machine

/-! ### `State.tick` -/

@[simp] theorem State.tick_pending (s : State) (t : Nat) : (s.tick t).pending = s.pending := rfl
@[simp] theorem State.tick_freeCount (s : State) (t : Nat) : (s.tick t).freeCount = s.freeCount := rfl
@[simp] theorem State.tick_dict (s : State) (t : Nat) : (s.tick t).dict = s.dict := rfl
@[simp] theorem State.tick_staged (s : State) (t : Nat) : (s.tick t).staged = s.staged := rfl
@[simp] theorem State.tick_locks (s : State) (t : Nat) : (s.tick t).locks = s.locks := rfl
@[simp] theorem State.tick_owed (s : State) (t : Nat) : (s.tick t).owed = s.owed := rfl
@[simp] theorem State.tick_expert (s : State) (t : Nat) : (s.tick t).expert = s.expert := rfl
@[simp] theorem State.tick_mbox (s : State) (t : Nat) : (s.tick t).mbox = s.mbox := rfl
@[simp] theorem State.tick_views (s : State) (t : Nat) : (s.tick t).views = s.views := rfl
@[simp] theorem State.tick_msix (s : State) (t : Nat) : (s.tick t).msix = s.msix := rfl
@[simp] theorem State.tick_vectors (s : State) (t : Nat) : (s.tick t).vectors = s.vectors := rfl
@[simp] theorem State.tick_completed (s : State) (t : Nat) : (s.tick t).completed = s.completed := rfl
@[simp] theorem State.tick_power (s : State) (t : Nat) : (s.tick t).power = s.power := rfl
@[simp] theorem State.tick_objs (s : State) (t : Nat) : (s.tick t).objs = s.objs := rfl
@[simp] theorem State.tick_mem (s : State) (t : Nat) : (s.tick t).mem = s.mem := rfl
@[simp] theorem State.tick_tier (s : State) (t : Nat) : (s.tick t).tier = s.tier := rfl
@[simp] theorem State.tick_enc (s : State) (t : Nat) : (s.tick t).enc = s.enc := rfl
@[simp] theorem State.tick_held (s : State) (t : Nat) : (s.tick t).held = s.held := rfl
@[simp] theorem State.tick_slots (s : State) (t : Nat) : (s.tick t).slots = s.slots := rfl
@[simp] theorem State.tick_bindings (s : State) (t : Nat) : (s.tick t).bindings = s.bindings := rfl
@[simp] theorem State.tick_running (s : State) (t : Nat) : (s.tick t).running = s.running := rfl
@[simp] theorem State.tick_stalled (s : State) (t : Nat) : (s.tick t).stalled = s.stalled := rfl
@[simp] theorem State.tick_transfers (s : State) (t : Nat) : (s.tick t).transfers = s.transfers := rfl
@[simp] theorem State.tick_grids (s : State) (t : Nat) : (s.tick t).grids = s.grids := rfl
@[simp] theorem State.tick_fabric (s : State) (t : Nat) : (s.tick t).fabric = s.fabric := rfl
@[simp] theorem State.tick_coll (s : State) (t : Nat) : (s.tick t).coll = s.coll := rfl
@[simp] theorem State.tick_jobs (s : State) (t : Nat) : (s.tick t).jobs = s.jobs := rfl
@[simp] theorem State.tick_parts (s : State) (t : Nat) : (s.tick t).parts = s.parts := rfl
@[simp] theorem State.tick_sec (s : State) (t : Nat) : (s.tick t).sec = s.sec := rfl
@[simp] theorem State.tick_mgmt (s : State) (t : Nat) : (s.tick t).mgmt = s.mgmt := rfl
@[simp] theorem State.tick_fw (s : State) (t : Nat) : (s.tick t).fw = s.fw := rfl

/-! ### `State.setReg` -/

@[simp] theorem State.setReg_pending (s : State) (k v : Nat) : (s.setReg k v).pending = s.pending := rfl
@[simp] theorem State.setReg_freeCount (s : State) (k v : Nat) : (s.setReg k v).freeCount = s.freeCount := rfl
@[simp] theorem State.setReg_now (s : State) (k v : Nat) : (s.setReg k v).now = s.now := rfl
@[simp] theorem State.setReg_staged (s : State) (k v : Nat) : (s.setReg k v).staged = s.staged := rfl
@[simp] theorem State.setReg_locks (s : State) (k v : Nat) : (s.setReg k v).locks = s.locks := rfl
@[simp] theorem State.setReg_owed (s : State) (k v : Nat) : (s.setReg k v).owed = s.owed := rfl
@[simp] theorem State.setReg_expert (s : State) (k v : Nat) : (s.setReg k v).expert = s.expert := rfl
@[simp] theorem State.setReg_mbox (s : State) (k v : Nat) : (s.setReg k v).mbox = s.mbox := rfl
@[simp] theorem State.setReg_views (s : State) (k v : Nat) : (s.setReg k v).views = s.views := rfl
@[simp] theorem State.setReg_msix (s : State) (k v : Nat) : (s.setReg k v).msix = s.msix := rfl
@[simp] theorem State.setReg_vectors (s : State) (k v : Nat) : (s.setReg k v).vectors = s.vectors := rfl
@[simp] theorem State.setReg_completed (s : State) (k v : Nat) : (s.setReg k v).completed = s.completed := rfl
@[simp] theorem State.setReg_power (s : State) (k v : Nat) : (s.setReg k v).power = s.power := rfl
@[simp] theorem State.setReg_objs (s : State) (k v : Nat) : (s.setReg k v).objs = s.objs := rfl
@[simp] theorem State.setReg_mem (s : State) (k v : Nat) : (s.setReg k v).mem = s.mem := rfl
@[simp] theorem State.setReg_tier (s : State) (k v : Nat) : (s.setReg k v).tier = s.tier := rfl
@[simp] theorem State.setReg_enc (s : State) (k v : Nat) : (s.setReg k v).enc = s.enc := rfl
@[simp] theorem State.setReg_held (s : State) (k v : Nat) : (s.setReg k v).held = s.held := rfl
@[simp] theorem State.setReg_slots (s : State) (k v : Nat) : (s.setReg k v).slots = s.slots := rfl
@[simp] theorem State.setReg_bindings (s : State) (k v : Nat) : (s.setReg k v).bindings = s.bindings := rfl
@[simp] theorem State.setReg_running (s : State) (k v : Nat) : (s.setReg k v).running = s.running := rfl
@[simp] theorem State.setReg_stalled (s : State) (k v : Nat) : (s.setReg k v).stalled = s.stalled := rfl
@[simp] theorem State.setReg_transfers (s : State) (k v : Nat) : (s.setReg k v).transfers = s.transfers := rfl
@[simp] theorem State.setReg_grids (s : State) (k v : Nat) : (s.setReg k v).grids = s.grids := rfl
@[simp] theorem State.setReg_fabric (s : State) (k v : Nat) : (s.setReg k v).fabric = s.fabric := rfl
@[simp] theorem State.setReg_coll (s : State) (k v : Nat) : (s.setReg k v).coll = s.coll := rfl
@[simp] theorem State.setReg_jobs (s : State) (k v : Nat) : (s.setReg k v).jobs = s.jobs := rfl
@[simp] theorem State.setReg_parts (s : State) (k v : Nat) : (s.setReg k v).parts = s.parts := rfl
@[simp] theorem State.setReg_sec (s : State) (k v : Nat) : (s.setReg k v).sec = s.sec := rfl
@[simp] theorem State.setReg_mgmt (s : State) (k v : Nat) : (s.setReg k v).mgmt = s.mgmt := rfl
@[simp] theorem State.setReg_fw (s : State) (k v : Nat) : (s.setReg k v).fw = s.fw := rfl

/-! ### `State.stage` -/

@[simp] theorem State.stage_pending (s : State) (k v : Nat) : (s.stage k v).pending = s.pending := rfl
@[simp] theorem State.stage_freeCount (s : State) (k v : Nat) : (s.stage k v).freeCount = s.freeCount := rfl
@[simp] theorem State.stage_now (s : State) (k v : Nat) : (s.stage k v).now = s.now := rfl
@[simp] theorem State.stage_dict (s : State) (k v : Nat) : (s.stage k v).dict = s.dict := rfl
@[simp] theorem State.stage_locks (s : State) (k v : Nat) : (s.stage k v).locks = s.locks := rfl
@[simp] theorem State.stage_owed (s : State) (k v : Nat) : (s.stage k v).owed = s.owed := rfl
@[simp] theorem State.stage_expert (s : State) (k v : Nat) : (s.stage k v).expert = s.expert := rfl
@[simp] theorem State.stage_mbox (s : State) (k v : Nat) : (s.stage k v).mbox = s.mbox := rfl
@[simp] theorem State.stage_views (s : State) (k v : Nat) : (s.stage k v).views = s.views := rfl
@[simp] theorem State.stage_msix (s : State) (k v : Nat) : (s.stage k v).msix = s.msix := rfl
@[simp] theorem State.stage_vectors (s : State) (k v : Nat) : (s.stage k v).vectors = s.vectors := rfl
@[simp] theorem State.stage_completed (s : State) (k v : Nat) : (s.stage k v).completed = s.completed := rfl
@[simp] theorem State.stage_power (s : State) (k v : Nat) : (s.stage k v).power = s.power := rfl
@[simp] theorem State.stage_objs (s : State) (k v : Nat) : (s.stage k v).objs = s.objs := rfl
@[simp] theorem State.stage_mem (s : State) (k v : Nat) : (s.stage k v).mem = s.mem := rfl
@[simp] theorem State.stage_tier (s : State) (k v : Nat) : (s.stage k v).tier = s.tier := rfl
@[simp] theorem State.stage_enc (s : State) (k v : Nat) : (s.stage k v).enc = s.enc := rfl
@[simp] theorem State.stage_held (s : State) (k v : Nat) : (s.stage k v).held = s.held := rfl
@[simp] theorem State.stage_slots (s : State) (k v : Nat) : (s.stage k v).slots = s.slots := rfl
@[simp] theorem State.stage_bindings (s : State) (k v : Nat) : (s.stage k v).bindings = s.bindings := rfl
@[simp] theorem State.stage_running (s : State) (k v : Nat) : (s.stage k v).running = s.running := rfl
@[simp] theorem State.stage_stalled (s : State) (k v : Nat) : (s.stage k v).stalled = s.stalled := rfl
@[simp] theorem State.stage_transfers (s : State) (k v : Nat) : (s.stage k v).transfers = s.transfers := rfl
@[simp] theorem State.stage_grids (s : State) (k v : Nat) : (s.stage k v).grids = s.grids := rfl
@[simp] theorem State.stage_fabric (s : State) (k v : Nat) : (s.stage k v).fabric = s.fabric := rfl
@[simp] theorem State.stage_coll (s : State) (k v : Nat) : (s.stage k v).coll = s.coll := rfl
@[simp] theorem State.stage_jobs (s : State) (k v : Nat) : (s.stage k v).jobs = s.jobs := rfl
@[simp] theorem State.stage_parts (s : State) (k v : Nat) : (s.stage k v).parts = s.parts := rfl
@[simp] theorem State.stage_sec (s : State) (k v : Nat) : (s.stage k v).sec = s.sec := rfl
@[simp] theorem State.stage_mgmt (s : State) (k v : Nat) : (s.stage k v).mgmt = s.mgmt := rfl
@[simp] theorem State.stage_fw (s : State) (k v : Nat) : (s.stage k v).fw = s.fw := rfl

/-! ### `State.dropStaged` -/

@[simp] theorem State.dropStaged_pending (s : State) (ks : List Nat) : (s.dropStaged ks).pending = s.pending := rfl
@[simp] theorem State.dropStaged_freeCount (s : State) (ks : List Nat) : (s.dropStaged ks).freeCount = s.freeCount := rfl
@[simp] theorem State.dropStaged_now (s : State) (ks : List Nat) : (s.dropStaged ks).now = s.now := rfl
@[simp] theorem State.dropStaged_dict (s : State) (ks : List Nat) : (s.dropStaged ks).dict = s.dict := rfl
@[simp] theorem State.dropStaged_locks (s : State) (ks : List Nat) : (s.dropStaged ks).locks = s.locks := rfl
@[simp] theorem State.dropStaged_owed (s : State) (ks : List Nat) : (s.dropStaged ks).owed = s.owed := rfl
@[simp] theorem State.dropStaged_expert (s : State) (ks : List Nat) : (s.dropStaged ks).expert = s.expert := rfl
@[simp] theorem State.dropStaged_mbox (s : State) (ks : List Nat) : (s.dropStaged ks).mbox = s.mbox := rfl
@[simp] theorem State.dropStaged_views (s : State) (ks : List Nat) : (s.dropStaged ks).views = s.views := rfl
@[simp] theorem State.dropStaged_msix (s : State) (ks : List Nat) : (s.dropStaged ks).msix = s.msix := rfl
@[simp] theorem State.dropStaged_vectors (s : State) (ks : List Nat) : (s.dropStaged ks).vectors = s.vectors := rfl
@[simp] theorem State.dropStaged_completed (s : State) (ks : List Nat) : (s.dropStaged ks).completed = s.completed := rfl
@[simp] theorem State.dropStaged_power (s : State) (ks : List Nat) : (s.dropStaged ks).power = s.power := rfl
@[simp] theorem State.dropStaged_objs (s : State) (ks : List Nat) : (s.dropStaged ks).objs = s.objs := rfl
@[simp] theorem State.dropStaged_mem (s : State) (ks : List Nat) : (s.dropStaged ks).mem = s.mem := rfl
@[simp] theorem State.dropStaged_tier (s : State) (ks : List Nat) : (s.dropStaged ks).tier = s.tier := rfl
@[simp] theorem State.dropStaged_enc (s : State) (ks : List Nat) : (s.dropStaged ks).enc = s.enc := rfl
@[simp] theorem State.dropStaged_held (s : State) (ks : List Nat) : (s.dropStaged ks).held = s.held := rfl
@[simp] theorem State.dropStaged_slots (s : State) (ks : List Nat) : (s.dropStaged ks).slots = s.slots := rfl
@[simp] theorem State.dropStaged_bindings (s : State) (ks : List Nat) : (s.dropStaged ks).bindings = s.bindings := rfl
@[simp] theorem State.dropStaged_running (s : State) (ks : List Nat) : (s.dropStaged ks).running = s.running := rfl
@[simp] theorem State.dropStaged_stalled (s : State) (ks : List Nat) : (s.dropStaged ks).stalled = s.stalled := rfl
@[simp] theorem State.dropStaged_transfers (s : State) (ks : List Nat) : (s.dropStaged ks).transfers = s.transfers := rfl
@[simp] theorem State.dropStaged_grids (s : State) (ks : List Nat) : (s.dropStaged ks).grids = s.grids := rfl
@[simp] theorem State.dropStaged_fabric (s : State) (ks : List Nat) : (s.dropStaged ks).fabric = s.fabric := rfl
@[simp] theorem State.dropStaged_coll (s : State) (ks : List Nat) : (s.dropStaged ks).coll = s.coll := rfl
@[simp] theorem State.dropStaged_jobs (s : State) (ks : List Nat) : (s.dropStaged ks).jobs = s.jobs := rfl
@[simp] theorem State.dropStaged_parts (s : State) (ks : List Nat) : (s.dropStaged ks).parts = s.parts := rfl
@[simp] theorem State.dropStaged_sec (s : State) (ks : List Nat) : (s.dropStaged ks).sec = s.sec := rfl
@[simp] theorem State.dropStaged_mgmt (s : State) (ks : List Nat) : (s.dropStaged ks).mgmt = s.mgmt := rfl
@[simp] theorem State.dropStaged_fw (s : State) (ks : List Nat) : (s.dropStaged ks).fw = s.fw := rfl

/-! ### `State.setGrid` -/

@[simp] theorem State.setGrid_pending (s : State) (p : Nat) (g : Grid) : (s.setGrid p g).pending = s.pending := rfl
@[simp] theorem State.setGrid_freeCount (s : State) (p : Nat) (g : Grid) : (s.setGrid p g).freeCount = s.freeCount := rfl
@[simp] theorem State.setGrid_now (s : State) (p : Nat) (g : Grid) : (s.setGrid p g).now = s.now := rfl
@[simp] theorem State.setGrid_dict (s : State) (p : Nat) (g : Grid) : (s.setGrid p g).dict = s.dict := rfl
@[simp] theorem State.setGrid_staged (s : State) (p : Nat) (g : Grid) : (s.setGrid p g).staged = s.staged := rfl
@[simp] theorem State.setGrid_locks (s : State) (p : Nat) (g : Grid) : (s.setGrid p g).locks = s.locks := rfl
@[simp] theorem State.setGrid_owed (s : State) (p : Nat) (g : Grid) : (s.setGrid p g).owed = s.owed := rfl
@[simp] theorem State.setGrid_expert (s : State) (p : Nat) (g : Grid) : (s.setGrid p g).expert = s.expert := rfl
@[simp] theorem State.setGrid_mbox (s : State) (p : Nat) (g : Grid) : (s.setGrid p g).mbox = s.mbox := rfl
@[simp] theorem State.setGrid_views (s : State) (p : Nat) (g : Grid) : (s.setGrid p g).views = s.views := rfl
@[simp] theorem State.setGrid_msix (s : State) (p : Nat) (g : Grid) : (s.setGrid p g).msix = s.msix := rfl
@[simp] theorem State.setGrid_vectors (s : State) (p : Nat) (g : Grid) : (s.setGrid p g).vectors = s.vectors := rfl
@[simp] theorem State.setGrid_completed (s : State) (p : Nat) (g : Grid) : (s.setGrid p g).completed = s.completed := rfl
@[simp] theorem State.setGrid_power (s : State) (p : Nat) (g : Grid) : (s.setGrid p g).power = s.power := rfl
@[simp] theorem State.setGrid_objs (s : State) (p : Nat) (g : Grid) : (s.setGrid p g).objs = s.objs := rfl
@[simp] theorem State.setGrid_mem (s : State) (p : Nat) (g : Grid) : (s.setGrid p g).mem = s.mem := rfl
@[simp] theorem State.setGrid_tier (s : State) (p : Nat) (g : Grid) : (s.setGrid p g).tier = s.tier := rfl
@[simp] theorem State.setGrid_enc (s : State) (p : Nat) (g : Grid) : (s.setGrid p g).enc = s.enc := rfl
@[simp] theorem State.setGrid_held (s : State) (p : Nat) (g : Grid) : (s.setGrid p g).held = s.held := rfl
@[simp] theorem State.setGrid_slots (s : State) (p : Nat) (g : Grid) : (s.setGrid p g).slots = s.slots := rfl
@[simp] theorem State.setGrid_bindings (s : State) (p : Nat) (g : Grid) : (s.setGrid p g).bindings = s.bindings := rfl
@[simp] theorem State.setGrid_running (s : State) (p : Nat) (g : Grid) : (s.setGrid p g).running = s.running := rfl
@[simp] theorem State.setGrid_stalled (s : State) (p : Nat) (g : Grid) : (s.setGrid p g).stalled = s.stalled := rfl
@[simp] theorem State.setGrid_transfers (s : State) (p : Nat) (g : Grid) : (s.setGrid p g).transfers = s.transfers := rfl
@[simp] theorem State.setGrid_fabric (s : State) (p : Nat) (g : Grid) : (s.setGrid p g).fabric = s.fabric := rfl
@[simp] theorem State.setGrid_coll (s : State) (p : Nat) (g : Grid) : (s.setGrid p g).coll = s.coll := rfl
@[simp] theorem State.setGrid_jobs (s : State) (p : Nat) (g : Grid) : (s.setGrid p g).jobs = s.jobs := rfl
@[simp] theorem State.setGrid_parts (s : State) (p : Nat) (g : Grid) : (s.setGrid p g).parts = s.parts := rfl
@[simp] theorem State.setGrid_sec (s : State) (p : Nat) (g : Grid) : (s.setGrid p g).sec = s.sec := rfl
@[simp] theorem State.setGrid_mgmt (s : State) (p : Nat) (g : Grid) : (s.setGrid p g).mgmt = s.mgmt := rfl
@[simp] theorem State.setGrid_fw (s : State) (p : Nat) (g : Grid) : (s.setGrid p g).fw = s.fw := rfl

/-! ### `State.setPart` -/

@[simp] theorem State.setPart_pending (s : State) (p : Nat) (x : Part) : (s.setPart p x).pending = s.pending := rfl
@[simp] theorem State.setPart_freeCount (s : State) (p : Nat) (x : Part) : (s.setPart p x).freeCount = s.freeCount := rfl
@[simp] theorem State.setPart_now (s : State) (p : Nat) (x : Part) : (s.setPart p x).now = s.now := rfl
@[simp] theorem State.setPart_dict (s : State) (p : Nat) (x : Part) : (s.setPart p x).dict = s.dict := rfl
@[simp] theorem State.setPart_staged (s : State) (p : Nat) (x : Part) : (s.setPart p x).staged = s.staged := rfl
@[simp] theorem State.setPart_locks (s : State) (p : Nat) (x : Part) : (s.setPart p x).locks = s.locks := rfl
@[simp] theorem State.setPart_owed (s : State) (p : Nat) (x : Part) : (s.setPart p x).owed = s.owed := rfl
@[simp] theorem State.setPart_expert (s : State) (p : Nat) (x : Part) : (s.setPart p x).expert = s.expert := rfl
@[simp] theorem State.setPart_mbox (s : State) (p : Nat) (x : Part) : (s.setPart p x).mbox = s.mbox := rfl
@[simp] theorem State.setPart_views (s : State) (p : Nat) (x : Part) : (s.setPart p x).views = s.views := rfl
@[simp] theorem State.setPart_msix (s : State) (p : Nat) (x : Part) : (s.setPart p x).msix = s.msix := rfl
@[simp] theorem State.setPart_vectors (s : State) (p : Nat) (x : Part) : (s.setPart p x).vectors = s.vectors := rfl
@[simp] theorem State.setPart_completed (s : State) (p : Nat) (x : Part) : (s.setPart p x).completed = s.completed := rfl
@[simp] theorem State.setPart_power (s : State) (p : Nat) (x : Part) : (s.setPart p x).power = s.power := rfl
@[simp] theorem State.setPart_objs (s : State) (p : Nat) (x : Part) : (s.setPart p x).objs = s.objs := rfl
@[simp] theorem State.setPart_mem (s : State) (p : Nat) (x : Part) : (s.setPart p x).mem = s.mem := rfl
@[simp] theorem State.setPart_tier (s : State) (p : Nat) (x : Part) : (s.setPart p x).tier = s.tier := rfl
@[simp] theorem State.setPart_enc (s : State) (p : Nat) (x : Part) : (s.setPart p x).enc = s.enc := rfl
@[simp] theorem State.setPart_held (s : State) (p : Nat) (x : Part) : (s.setPart p x).held = s.held := rfl
@[simp] theorem State.setPart_slots (s : State) (p : Nat) (x : Part) : (s.setPart p x).slots = s.slots := rfl
@[simp] theorem State.setPart_bindings (s : State) (p : Nat) (x : Part) : (s.setPart p x).bindings = s.bindings := rfl
@[simp] theorem State.setPart_running (s : State) (p : Nat) (x : Part) : (s.setPart p x).running = s.running := rfl
@[simp] theorem State.setPart_stalled (s : State) (p : Nat) (x : Part) : (s.setPart p x).stalled = s.stalled := rfl
@[simp] theorem State.setPart_transfers (s : State) (p : Nat) (x : Part) : (s.setPart p x).transfers = s.transfers := rfl
@[simp] theorem State.setPart_grids (s : State) (p : Nat) (x : Part) : (s.setPart p x).grids = s.grids := rfl
@[simp] theorem State.setPart_fabric (s : State) (p : Nat) (x : Part) : (s.setPart p x).fabric = s.fabric := rfl
@[simp] theorem State.setPart_coll (s : State) (p : Nat) (x : Part) : (s.setPart p x).coll = s.coll := rfl
@[simp] theorem State.setPart_jobs (s : State) (p : Nat) (x : Part) : (s.setPart p x).jobs = s.jobs := rfl
@[simp] theorem State.setPart_sec (s : State) (p : Nat) (x : Part) : (s.setPart p x).sec = s.sec := rfl
@[simp] theorem State.setPart_mgmt (s : State) (p : Nat) (x : Part) : (s.setPart p x).mgmt = s.mgmt := rfl
@[simp] theorem State.setPart_fw (s : State) (p : Nat) (x : Part) : (s.setPart p x).fw = s.fw := rfl

/-! ### `State.setView` -/

@[simp] theorem State.setView_pending (s : State) (i : Nat) (v : View) : (s.setView i v).pending = s.pending := rfl
@[simp] theorem State.setView_freeCount (s : State) (i : Nat) (v : View) : (s.setView i v).freeCount = s.freeCount := rfl
@[simp] theorem State.setView_now (s : State) (i : Nat) (v : View) : (s.setView i v).now = s.now := rfl
@[simp] theorem State.setView_dict (s : State) (i : Nat) (v : View) : (s.setView i v).dict = s.dict := rfl
@[simp] theorem State.setView_staged (s : State) (i : Nat) (v : View) : (s.setView i v).staged = s.staged := rfl
@[simp] theorem State.setView_locks (s : State) (i : Nat) (v : View) : (s.setView i v).locks = s.locks := rfl
@[simp] theorem State.setView_owed (s : State) (i : Nat) (v : View) : (s.setView i v).owed = s.owed := rfl
@[simp] theorem State.setView_expert (s : State) (i : Nat) (v : View) : (s.setView i v).expert = s.expert := rfl
@[simp] theorem State.setView_mbox (s : State) (i : Nat) (v : View) : (s.setView i v).mbox = s.mbox := rfl
@[simp] theorem State.setView_msix (s : State) (i : Nat) (v : View) : (s.setView i v).msix = s.msix := rfl
@[simp] theorem State.setView_vectors (s : State) (i : Nat) (v : View) : (s.setView i v).vectors = s.vectors := rfl
@[simp] theorem State.setView_completed (s : State) (i : Nat) (v : View) : (s.setView i v).completed = s.completed := rfl
@[simp] theorem State.setView_power (s : State) (i : Nat) (v : View) : (s.setView i v).power = s.power := rfl
@[simp] theorem State.setView_objs (s : State) (i : Nat) (v : View) : (s.setView i v).objs = s.objs := rfl
@[simp] theorem State.setView_mem (s : State) (i : Nat) (v : View) : (s.setView i v).mem = s.mem := rfl
@[simp] theorem State.setView_tier (s : State) (i : Nat) (v : View) : (s.setView i v).tier = s.tier := rfl
@[simp] theorem State.setView_enc (s : State) (i : Nat) (v : View) : (s.setView i v).enc = s.enc := rfl
@[simp] theorem State.setView_held (s : State) (i : Nat) (v : View) : (s.setView i v).held = s.held := rfl
@[simp] theorem State.setView_slots (s : State) (i : Nat) (v : View) : (s.setView i v).slots = s.slots := rfl
@[simp] theorem State.setView_bindings (s : State) (i : Nat) (v : View) : (s.setView i v).bindings = s.bindings := rfl
@[simp] theorem State.setView_running (s : State) (i : Nat) (v : View) : (s.setView i v).running = s.running := rfl
@[simp] theorem State.setView_stalled (s : State) (i : Nat) (v : View) : (s.setView i v).stalled = s.stalled := rfl
@[simp] theorem State.setView_transfers (s : State) (i : Nat) (v : View) : (s.setView i v).transfers = s.transfers := rfl
@[simp] theorem State.setView_grids (s : State) (i : Nat) (v : View) : (s.setView i v).grids = s.grids := rfl
@[simp] theorem State.setView_fabric (s : State) (i : Nat) (v : View) : (s.setView i v).fabric = s.fabric := rfl
@[simp] theorem State.setView_coll (s : State) (i : Nat) (v : View) : (s.setView i v).coll = s.coll := rfl
@[simp] theorem State.setView_jobs (s : State) (i : Nat) (v : View) : (s.setView i v).jobs = s.jobs := rfl
@[simp] theorem State.setView_parts (s : State) (i : Nat) (v : View) : (s.setView i v).parts = s.parts := rfl
@[simp] theorem State.setView_sec (s : State) (i : Nat) (v : View) : (s.setView i v).sec = s.sec := rfl
@[simp] theorem State.setView_mgmt (s : State) (i : Nat) (v : View) : (s.setView i v).mgmt = s.mgmt := rfl
@[simp] theorem State.setView_fw (s : State) (i : Nat) (v : View) : (s.setView i v).fw = s.fw := rfl

/-! ### `State.setKeySlot` -/

@[simp] theorem State.setKeySlot_pending (s : State) (i : Nat) (k : KeySlot) : (s.setKeySlot i k).pending = s.pending := rfl
@[simp] theorem State.setKeySlot_freeCount (s : State) (i : Nat) (k : KeySlot) : (s.setKeySlot i k).freeCount = s.freeCount := rfl
@[simp] theorem State.setKeySlot_now (s : State) (i : Nat) (k : KeySlot) : (s.setKeySlot i k).now = s.now := rfl
@[simp] theorem State.setKeySlot_dict (s : State) (i : Nat) (k : KeySlot) : (s.setKeySlot i k).dict = s.dict := rfl
@[simp] theorem State.setKeySlot_staged (s : State) (i : Nat) (k : KeySlot) : (s.setKeySlot i k).staged = s.staged := rfl
@[simp] theorem State.setKeySlot_locks (s : State) (i : Nat) (k : KeySlot) : (s.setKeySlot i k).locks = s.locks := rfl
@[simp] theorem State.setKeySlot_owed (s : State) (i : Nat) (k : KeySlot) : (s.setKeySlot i k).owed = s.owed := rfl
@[simp] theorem State.setKeySlot_expert (s : State) (i : Nat) (k : KeySlot) : (s.setKeySlot i k).expert = s.expert := rfl
@[simp] theorem State.setKeySlot_mbox (s : State) (i : Nat) (k : KeySlot) : (s.setKeySlot i k).mbox = s.mbox := rfl
@[simp] theorem State.setKeySlot_views (s : State) (i : Nat) (k : KeySlot) : (s.setKeySlot i k).views = s.views := rfl
@[simp] theorem State.setKeySlot_msix (s : State) (i : Nat) (k : KeySlot) : (s.setKeySlot i k).msix = s.msix := rfl
@[simp] theorem State.setKeySlot_vectors (s : State) (i : Nat) (k : KeySlot) : (s.setKeySlot i k).vectors = s.vectors := rfl
@[simp] theorem State.setKeySlot_completed (s : State) (i : Nat) (k : KeySlot) : (s.setKeySlot i k).completed = s.completed := rfl
@[simp] theorem State.setKeySlot_power (s : State) (i : Nat) (k : KeySlot) : (s.setKeySlot i k).power = s.power := rfl
@[simp] theorem State.setKeySlot_objs (s : State) (i : Nat) (k : KeySlot) : (s.setKeySlot i k).objs = s.objs := rfl
@[simp] theorem State.setKeySlot_mem (s : State) (i : Nat) (k : KeySlot) : (s.setKeySlot i k).mem = s.mem := rfl
@[simp] theorem State.setKeySlot_tier (s : State) (i : Nat) (k : KeySlot) : (s.setKeySlot i k).tier = s.tier := rfl
@[simp] theorem State.setKeySlot_enc (s : State) (i : Nat) (k : KeySlot) : (s.setKeySlot i k).enc = s.enc := rfl
@[simp] theorem State.setKeySlot_held (s : State) (i : Nat) (k : KeySlot) : (s.setKeySlot i k).held = s.held := rfl
@[simp] theorem State.setKeySlot_slots (s : State) (i : Nat) (k : KeySlot) : (s.setKeySlot i k).slots = s.slots := rfl
@[simp] theorem State.setKeySlot_bindings (s : State) (i : Nat) (k : KeySlot) : (s.setKeySlot i k).bindings = s.bindings := rfl
@[simp] theorem State.setKeySlot_running (s : State) (i : Nat) (k : KeySlot) : (s.setKeySlot i k).running = s.running := rfl
@[simp] theorem State.setKeySlot_stalled (s : State) (i : Nat) (k : KeySlot) : (s.setKeySlot i k).stalled = s.stalled := rfl
@[simp] theorem State.setKeySlot_transfers (s : State) (i : Nat) (k : KeySlot) : (s.setKeySlot i k).transfers = s.transfers := rfl
@[simp] theorem State.setKeySlot_grids (s : State) (i : Nat) (k : KeySlot) : (s.setKeySlot i k).grids = s.grids := rfl
@[simp] theorem State.setKeySlot_fabric (s : State) (i : Nat) (k : KeySlot) : (s.setKeySlot i k).fabric = s.fabric := rfl
@[simp] theorem State.setKeySlot_coll (s : State) (i : Nat) (k : KeySlot) : (s.setKeySlot i k).coll = s.coll := rfl
@[simp] theorem State.setKeySlot_jobs (s : State) (i : Nat) (k : KeySlot) : (s.setKeySlot i k).jobs = s.jobs := rfl
@[simp] theorem State.setKeySlot_parts (s : State) (i : Nat) (k : KeySlot) : (s.setKeySlot i k).parts = s.parts := rfl
@[simp] theorem State.setKeySlot_mgmt (s : State) (i : Nat) (k : KeySlot) : (s.setKeySlot i k).mgmt = s.mgmt := rfl
@[simp] theorem State.setKeySlot_fw (s : State) (i : Nat) (k : KeySlot) : (s.setKeySlot i k).fw = s.fw := rfl

/-! ### `State.setFence` -/

@[simp] theorem State.setFence_pending (s : State) (f : Fence) : (s.setFence f).pending = s.pending := rfl
@[simp] theorem State.setFence_freeCount (s : State) (f : Fence) : (s.setFence f).freeCount = s.freeCount := rfl
@[simp] theorem State.setFence_now (s : State) (f : Fence) : (s.setFence f).now = s.now := rfl
@[simp] theorem State.setFence_dict (s : State) (f : Fence) : (s.setFence f).dict = s.dict := rfl
@[simp] theorem State.setFence_staged (s : State) (f : Fence) : (s.setFence f).staged = s.staged := rfl
@[simp] theorem State.setFence_locks (s : State) (f : Fence) : (s.setFence f).locks = s.locks := rfl
@[simp] theorem State.setFence_owed (s : State) (f : Fence) : (s.setFence f).owed = s.owed := rfl
@[simp] theorem State.setFence_expert (s : State) (f : Fence) : (s.setFence f).expert = s.expert := rfl
@[simp] theorem State.setFence_mbox (s : State) (f : Fence) : (s.setFence f).mbox = s.mbox := rfl
@[simp] theorem State.setFence_views (s : State) (f : Fence) : (s.setFence f).views = s.views := rfl
@[simp] theorem State.setFence_msix (s : State) (f : Fence) : (s.setFence f).msix = s.msix := rfl
@[simp] theorem State.setFence_vectors (s : State) (f : Fence) : (s.setFence f).vectors = s.vectors := rfl
@[simp] theorem State.setFence_completed (s : State) (f : Fence) : (s.setFence f).completed = s.completed := rfl
@[simp] theorem State.setFence_power (s : State) (f : Fence) : (s.setFence f).power = s.power := rfl
@[simp] theorem State.setFence_mem (s : State) (f : Fence) : (s.setFence f).mem = s.mem := rfl
@[simp] theorem State.setFence_tier (s : State) (f : Fence) : (s.setFence f).tier = s.tier := rfl
@[simp] theorem State.setFence_enc (s : State) (f : Fence) : (s.setFence f).enc = s.enc := rfl
@[simp] theorem State.setFence_held (s : State) (f : Fence) : (s.setFence f).held = s.held := rfl
@[simp] theorem State.setFence_slots (s : State) (f : Fence) : (s.setFence f).slots = s.slots := rfl
@[simp] theorem State.setFence_bindings (s : State) (f : Fence) : (s.setFence f).bindings = s.bindings := rfl
@[simp] theorem State.setFence_running (s : State) (f : Fence) : (s.setFence f).running = s.running := rfl
@[simp] theorem State.setFence_stalled (s : State) (f : Fence) : (s.setFence f).stalled = s.stalled := rfl
@[simp] theorem State.setFence_transfers (s : State) (f : Fence) : (s.setFence f).transfers = s.transfers := rfl
@[simp] theorem State.setFence_grids (s : State) (f : Fence) : (s.setFence f).grids = s.grids := rfl
@[simp] theorem State.setFence_fabric (s : State) (f : Fence) : (s.setFence f).fabric = s.fabric := rfl
@[simp] theorem State.setFence_coll (s : State) (f : Fence) : (s.setFence f).coll = s.coll := rfl
@[simp] theorem State.setFence_jobs (s : State) (f : Fence) : (s.setFence f).jobs = s.jobs := rfl
@[simp] theorem State.setFence_parts (s : State) (f : Fence) : (s.setFence f).parts = s.parts := rfl
@[simp] theorem State.setFence_sec (s : State) (f : Fence) : (s.setFence f).sec = s.sec := rfl
@[simp] theorem State.setFence_mgmt (s : State) (f : Fence) : (s.setFence f).mgmt = s.mgmt := rfl
@[simp] theorem State.setFence_fw (s : State) (f : Fence) : (s.setFence f).fw = s.fw := rfl

/-! ### `State.fire` -/

@[simp] theorem State.fire_pending (s : State) (p v : Nat) : (s.fire p v).pending = s.pending := rfl
@[simp] theorem State.fire_freeCount (s : State) (p v : Nat) : (s.fire p v).freeCount = s.freeCount := rfl
@[simp] theorem State.fire_now (s : State) (p v : Nat) : (s.fire p v).now = s.now := rfl
@[simp] theorem State.fire_dict (s : State) (p v : Nat) : (s.fire p v).dict = s.dict := rfl
@[simp] theorem State.fire_staged (s : State) (p v : Nat) : (s.fire p v).staged = s.staged := rfl
@[simp] theorem State.fire_locks (s : State) (p v : Nat) : (s.fire p v).locks = s.locks := rfl
@[simp] theorem State.fire_owed (s : State) (p v : Nat) : (s.fire p v).owed = s.owed := rfl
@[simp] theorem State.fire_expert (s : State) (p v : Nat) : (s.fire p v).expert = s.expert := rfl
@[simp] theorem State.fire_mbox (s : State) (p v : Nat) : (s.fire p v).mbox = s.mbox := rfl
@[simp] theorem State.fire_views (s : State) (p v : Nat) : (s.fire p v).views = s.views := rfl
@[simp] theorem State.fire_vectors (s : State) (p v : Nat) : (s.fire p v).vectors = s.vectors := rfl
@[simp] theorem State.fire_completed (s : State) (p v : Nat) : (s.fire p v).completed = s.completed := rfl
@[simp] theorem State.fire_power (s : State) (p v : Nat) : (s.fire p v).power = s.power := rfl
@[simp] theorem State.fire_objs (s : State) (p v : Nat) : (s.fire p v).objs = s.objs := rfl
@[simp] theorem State.fire_mem (s : State) (p v : Nat) : (s.fire p v).mem = s.mem := rfl
@[simp] theorem State.fire_tier (s : State) (p v : Nat) : (s.fire p v).tier = s.tier := rfl
@[simp] theorem State.fire_enc (s : State) (p v : Nat) : (s.fire p v).enc = s.enc := rfl
@[simp] theorem State.fire_held (s : State) (p v : Nat) : (s.fire p v).held = s.held := rfl
@[simp] theorem State.fire_slots (s : State) (p v : Nat) : (s.fire p v).slots = s.slots := rfl
@[simp] theorem State.fire_bindings (s : State) (p v : Nat) : (s.fire p v).bindings = s.bindings := rfl
@[simp] theorem State.fire_running (s : State) (p v : Nat) : (s.fire p v).running = s.running := rfl
@[simp] theorem State.fire_stalled (s : State) (p v : Nat) : (s.fire p v).stalled = s.stalled := rfl
@[simp] theorem State.fire_transfers (s : State) (p v : Nat) : (s.fire p v).transfers = s.transfers := rfl
@[simp] theorem State.fire_grids (s : State) (p v : Nat) : (s.fire p v).grids = s.grids := rfl
@[simp] theorem State.fire_fabric (s : State) (p v : Nat) : (s.fire p v).fabric = s.fabric := rfl
@[simp] theorem State.fire_coll (s : State) (p v : Nat) : (s.fire p v).coll = s.coll := rfl
@[simp] theorem State.fire_jobs (s : State) (p v : Nat) : (s.fire p v).jobs = s.jobs := rfl
@[simp] theorem State.fire_parts (s : State) (p v : Nat) : (s.fire p v).parts = s.parts := rfl
@[simp] theorem State.fire_sec (s : State) (p v : Nat) : (s.fire p v).sec = s.sec := rfl
@[simp] theorem State.fire_mgmt (s : State) (p v : Nat) : (s.fire p v).mgmt = s.mgmt := rfl
@[simp] theorem State.fire_fw (s : State) (p v : Nat) : (s.fire p v).fw = s.fw := rfl

/-! ### `State.sendTiming` -/

@[simp] theorem State.sendTiming_pending (s : State) (n m : Nat) : (s.sendTiming n m).pending = s.pending := rfl
@[simp] theorem State.sendTiming_freeCount (s : State) (n m : Nat) : (s.sendTiming n m).freeCount = s.freeCount := rfl
@[simp] theorem State.sendTiming_now (s : State) (n m : Nat) : (s.sendTiming n m).now = s.now := rfl
@[simp] theorem State.sendTiming_dict (s : State) (n m : Nat) : (s.sendTiming n m).dict = s.dict := rfl
@[simp] theorem State.sendTiming_staged (s : State) (n m : Nat) : (s.sendTiming n m).staged = s.staged := rfl
@[simp] theorem State.sendTiming_locks (s : State) (n m : Nat) : (s.sendTiming n m).locks = s.locks := rfl
@[simp] theorem State.sendTiming_owed (s : State) (n m : Nat) : (s.sendTiming n m).owed = s.owed := rfl
@[simp] theorem State.sendTiming_expert (s : State) (n m : Nat) : (s.sendTiming n m).expert = s.expert := rfl
@[simp] theorem State.sendTiming_mbox (s : State) (n m : Nat) : (s.sendTiming n m).mbox = s.mbox := rfl
@[simp] theorem State.sendTiming_views (s : State) (n m : Nat) : (s.sendTiming n m).views = s.views := rfl
@[simp] theorem State.sendTiming_msix (s : State) (n m : Nat) : (s.sendTiming n m).msix = s.msix := rfl
@[simp] theorem State.sendTiming_vectors (s : State) (n m : Nat) : (s.sendTiming n m).vectors = s.vectors := rfl
@[simp] theorem State.sendTiming_completed (s : State) (n m : Nat) : (s.sendTiming n m).completed = s.completed := rfl
@[simp] theorem State.sendTiming_power (s : State) (n m : Nat) : (s.sendTiming n m).power = s.power := rfl
@[simp] theorem State.sendTiming_objs (s : State) (n m : Nat) : (s.sendTiming n m).objs = s.objs := rfl
@[simp] theorem State.sendTiming_mem (s : State) (n m : Nat) : (s.sendTiming n m).mem = s.mem := rfl
@[simp] theorem State.sendTiming_tier (s : State) (n m : Nat) : (s.sendTiming n m).tier = s.tier := rfl
@[simp] theorem State.sendTiming_enc (s : State) (n m : Nat) : (s.sendTiming n m).enc = s.enc := rfl
@[simp] theorem State.sendTiming_held (s : State) (n m : Nat) : (s.sendTiming n m).held = s.held := rfl
@[simp] theorem State.sendTiming_slots (s : State) (n m : Nat) : (s.sendTiming n m).slots = s.slots := rfl
@[simp] theorem State.sendTiming_bindings (s : State) (n m : Nat) : (s.sendTiming n m).bindings = s.bindings := rfl
@[simp] theorem State.sendTiming_running (s : State) (n m : Nat) : (s.sendTiming n m).running = s.running := rfl
@[simp] theorem State.sendTiming_stalled (s : State) (n m : Nat) : (s.sendTiming n m).stalled = s.stalled := rfl
@[simp] theorem State.sendTiming_transfers (s : State) (n m : Nat) : (s.sendTiming n m).transfers = s.transfers := rfl
@[simp] theorem State.sendTiming_grids (s : State) (n m : Nat) : (s.sendTiming n m).grids = s.grids := rfl
@[simp] theorem State.sendTiming_coll (s : State) (n m : Nat) : (s.sendTiming n m).coll = s.coll := rfl
@[simp] theorem State.sendTiming_jobs (s : State) (n m : Nat) : (s.sendTiming n m).jobs = s.jobs := rfl
@[simp] theorem State.sendTiming_parts (s : State) (n m : Nat) : (s.sendTiming n m).parts = s.parts := rfl
@[simp] theorem State.sendTiming_sec (s : State) (n m : Nat) : (s.sendTiming n m).sec = s.sec := rfl
@[simp] theorem State.sendTiming_mgmt (s : State) (n m : Nat) : (s.sendTiming n m).mgmt = s.mgmt := rfl
@[simp] theorem State.sendTiming_fw (s : State) (n m : Nat) : (s.sendTiming n m).fw = s.fw := rfl

/-! ### `State.setJob` -/

@[simp] theorem State.setJob_pending (s : State) (p : Nat) (j : Job) : (s.setJob p j).pending = s.pending := rfl
@[simp] theorem State.setJob_freeCount (s : State) (p : Nat) (j : Job) : (s.setJob p j).freeCount = s.freeCount := rfl
@[simp] theorem State.setJob_now (s : State) (p : Nat) (j : Job) : (s.setJob p j).now = s.now := rfl
@[simp] theorem State.setJob_dict (s : State) (p : Nat) (j : Job) : (s.setJob p j).dict = s.dict := rfl
@[simp] theorem State.setJob_staged (s : State) (p : Nat) (j : Job) : (s.setJob p j).staged = s.staged := rfl
@[simp] theorem State.setJob_locks (s : State) (p : Nat) (j : Job) : (s.setJob p j).locks = s.locks := rfl
@[simp] theorem State.setJob_owed (s : State) (p : Nat) (j : Job) : (s.setJob p j).owed = s.owed := rfl
@[simp] theorem State.setJob_expert (s : State) (p : Nat) (j : Job) : (s.setJob p j).expert = s.expert := rfl
@[simp] theorem State.setJob_mbox (s : State) (p : Nat) (j : Job) : (s.setJob p j).mbox = s.mbox := rfl
@[simp] theorem State.setJob_views (s : State) (p : Nat) (j : Job) : (s.setJob p j).views = s.views := rfl
@[simp] theorem State.setJob_msix (s : State) (p : Nat) (j : Job) : (s.setJob p j).msix = s.msix := rfl
@[simp] theorem State.setJob_vectors (s : State) (p : Nat) (j : Job) : (s.setJob p j).vectors = s.vectors := rfl
@[simp] theorem State.setJob_completed (s : State) (p : Nat) (j : Job) : (s.setJob p j).completed = s.completed := rfl
@[simp] theorem State.setJob_power (s : State) (p : Nat) (j : Job) : (s.setJob p j).power = s.power := rfl
@[simp] theorem State.setJob_objs (s : State) (p : Nat) (j : Job) : (s.setJob p j).objs = s.objs := rfl
@[simp] theorem State.setJob_mem (s : State) (p : Nat) (j : Job) : (s.setJob p j).mem = s.mem := rfl
@[simp] theorem State.setJob_tier (s : State) (p : Nat) (j : Job) : (s.setJob p j).tier = s.tier := rfl
@[simp] theorem State.setJob_enc (s : State) (p : Nat) (j : Job) : (s.setJob p j).enc = s.enc := rfl
@[simp] theorem State.setJob_held (s : State) (p : Nat) (j : Job) : (s.setJob p j).held = s.held := rfl
@[simp] theorem State.setJob_slots (s : State) (p : Nat) (j : Job) : (s.setJob p j).slots = s.slots := rfl
@[simp] theorem State.setJob_bindings (s : State) (p : Nat) (j : Job) : (s.setJob p j).bindings = s.bindings := rfl
@[simp] theorem State.setJob_running (s : State) (p : Nat) (j : Job) : (s.setJob p j).running = s.running := rfl
@[simp] theorem State.setJob_stalled (s : State) (p : Nat) (j : Job) : (s.setJob p j).stalled = s.stalled := rfl
@[simp] theorem State.setJob_transfers (s : State) (p : Nat) (j : Job) : (s.setJob p j).transfers = s.transfers := rfl
@[simp] theorem State.setJob_grids (s : State) (p : Nat) (j : Job) : (s.setJob p j).grids = s.grids := rfl
@[simp] theorem State.setJob_fabric (s : State) (p : Nat) (j : Job) : (s.setJob p j).fabric = s.fabric := rfl
@[simp] theorem State.setJob_coll (s : State) (p : Nat) (j : Job) : (s.setJob p j).coll = s.coll := rfl
@[simp] theorem State.setJob_parts (s : State) (p : Nat) (j : Job) : (s.setJob p j).parts = s.parts := rfl
@[simp] theorem State.setJob_sec (s : State) (p : Nat) (j : Job) : (s.setJob p j).sec = s.sec := rfl
@[simp] theorem State.setJob_mgmt (s : State) (p : Nat) (j : Job) : (s.setJob p j).mgmt = s.mgmt := rfl
@[simp] theorem State.setJob_fw (s : State) (p : Nat) (j : Job) : (s.setJob p j).fw = s.fw := rfl

/-! ### `State.bumpReg` -/

@[simp] theorem State.bumpReg_pending (s : State) (k n : Nat) : (s.bumpReg k n).pending = s.pending := rfl
@[simp] theorem State.bumpReg_freeCount (s : State) (k n : Nat) : (s.bumpReg k n).freeCount = s.freeCount := rfl
@[simp] theorem State.bumpReg_now (s : State) (k n : Nat) : (s.bumpReg k n).now = s.now := rfl
@[simp] theorem State.bumpReg_staged (s : State) (k n : Nat) : (s.bumpReg k n).staged = s.staged := rfl
@[simp] theorem State.bumpReg_locks (s : State) (k n : Nat) : (s.bumpReg k n).locks = s.locks := rfl
@[simp] theorem State.bumpReg_owed (s : State) (k n : Nat) : (s.bumpReg k n).owed = s.owed := rfl
@[simp] theorem State.bumpReg_expert (s : State) (k n : Nat) : (s.bumpReg k n).expert = s.expert := rfl
@[simp] theorem State.bumpReg_mbox (s : State) (k n : Nat) : (s.bumpReg k n).mbox = s.mbox := rfl
@[simp] theorem State.bumpReg_views (s : State) (k n : Nat) : (s.bumpReg k n).views = s.views := rfl
@[simp] theorem State.bumpReg_msix (s : State) (k n : Nat) : (s.bumpReg k n).msix = s.msix := rfl
@[simp] theorem State.bumpReg_vectors (s : State) (k n : Nat) : (s.bumpReg k n).vectors = s.vectors := rfl
@[simp] theorem State.bumpReg_completed (s : State) (k n : Nat) : (s.bumpReg k n).completed = s.completed := rfl
@[simp] theorem State.bumpReg_power (s : State) (k n : Nat) : (s.bumpReg k n).power = s.power := rfl
@[simp] theorem State.bumpReg_objs (s : State) (k n : Nat) : (s.bumpReg k n).objs = s.objs := rfl
@[simp] theorem State.bumpReg_mem (s : State) (k n : Nat) : (s.bumpReg k n).mem = s.mem := rfl
@[simp] theorem State.bumpReg_tier (s : State) (k n : Nat) : (s.bumpReg k n).tier = s.tier := rfl
@[simp] theorem State.bumpReg_enc (s : State) (k n : Nat) : (s.bumpReg k n).enc = s.enc := rfl
@[simp] theorem State.bumpReg_held (s : State) (k n : Nat) : (s.bumpReg k n).held = s.held := rfl
@[simp] theorem State.bumpReg_slots (s : State) (k n : Nat) : (s.bumpReg k n).slots = s.slots := rfl
@[simp] theorem State.bumpReg_bindings (s : State) (k n : Nat) : (s.bumpReg k n).bindings = s.bindings := rfl
@[simp] theorem State.bumpReg_running (s : State) (k n : Nat) : (s.bumpReg k n).running = s.running := rfl
@[simp] theorem State.bumpReg_stalled (s : State) (k n : Nat) : (s.bumpReg k n).stalled = s.stalled := rfl
@[simp] theorem State.bumpReg_transfers (s : State) (k n : Nat) : (s.bumpReg k n).transfers = s.transfers := rfl
@[simp] theorem State.bumpReg_grids (s : State) (k n : Nat) : (s.bumpReg k n).grids = s.grids := rfl
@[simp] theorem State.bumpReg_fabric (s : State) (k n : Nat) : (s.bumpReg k n).fabric = s.fabric := rfl
@[simp] theorem State.bumpReg_coll (s : State) (k n : Nat) : (s.bumpReg k n).coll = s.coll := rfl
@[simp] theorem State.bumpReg_jobs (s : State) (k n : Nat) : (s.bumpReg k n).jobs = s.jobs := rfl
@[simp] theorem State.bumpReg_parts (s : State) (k n : Nat) : (s.bumpReg k n).parts = s.parts := rfl
@[simp] theorem State.bumpReg_sec (s : State) (k n : Nat) : (s.bumpReg k n).sec = s.sec := rfl
@[simp] theorem State.bumpReg_mgmt (s : State) (k n : Nat) : (s.bumpReg k n).mgmt = s.mgmt := rfl
@[simp] theorem State.bumpReg_fw (s : State) (k n : Nat) : (s.bumpReg k n).fw = s.fw := rfl

/-! ### `State.setRegBit` -/

@[simp] theorem State.setRegBit_pending (s : State) (k i : Nat) (b : Bool) : (s.setRegBit k i b).pending = s.pending := rfl
@[simp] theorem State.setRegBit_freeCount (s : State) (k i : Nat) (b : Bool) : (s.setRegBit k i b).freeCount = s.freeCount := rfl
@[simp] theorem State.setRegBit_now (s : State) (k i : Nat) (b : Bool) : (s.setRegBit k i b).now = s.now := rfl
@[simp] theorem State.setRegBit_staged (s : State) (k i : Nat) (b : Bool) : (s.setRegBit k i b).staged = s.staged := rfl
@[simp] theorem State.setRegBit_locks (s : State) (k i : Nat) (b : Bool) : (s.setRegBit k i b).locks = s.locks := rfl
@[simp] theorem State.setRegBit_owed (s : State) (k i : Nat) (b : Bool) : (s.setRegBit k i b).owed = s.owed := rfl
@[simp] theorem State.setRegBit_expert (s : State) (k i : Nat) (b : Bool) : (s.setRegBit k i b).expert = s.expert := rfl
@[simp] theorem State.setRegBit_mbox (s : State) (k i : Nat) (b : Bool) : (s.setRegBit k i b).mbox = s.mbox := rfl
@[simp] theorem State.setRegBit_views (s : State) (k i : Nat) (b : Bool) : (s.setRegBit k i b).views = s.views := rfl
@[simp] theorem State.setRegBit_msix (s : State) (k i : Nat) (b : Bool) : (s.setRegBit k i b).msix = s.msix := rfl
@[simp] theorem State.setRegBit_vectors (s : State) (k i : Nat) (b : Bool) : (s.setRegBit k i b).vectors = s.vectors := rfl
@[simp] theorem State.setRegBit_completed (s : State) (k i : Nat) (b : Bool) : (s.setRegBit k i b).completed = s.completed := rfl
@[simp] theorem State.setRegBit_power (s : State) (k i : Nat) (b : Bool) : (s.setRegBit k i b).power = s.power := rfl
@[simp] theorem State.setRegBit_objs (s : State) (k i : Nat) (b : Bool) : (s.setRegBit k i b).objs = s.objs := rfl
@[simp] theorem State.setRegBit_mem (s : State) (k i : Nat) (b : Bool) : (s.setRegBit k i b).mem = s.mem := rfl
@[simp] theorem State.setRegBit_tier (s : State) (k i : Nat) (b : Bool) : (s.setRegBit k i b).tier = s.tier := rfl
@[simp] theorem State.setRegBit_enc (s : State) (k i : Nat) (b : Bool) : (s.setRegBit k i b).enc = s.enc := rfl
@[simp] theorem State.setRegBit_held (s : State) (k i : Nat) (b : Bool) : (s.setRegBit k i b).held = s.held := rfl
@[simp] theorem State.setRegBit_slots (s : State) (k i : Nat) (b : Bool) : (s.setRegBit k i b).slots = s.slots := rfl
@[simp] theorem State.setRegBit_bindings (s : State) (k i : Nat) (b : Bool) : (s.setRegBit k i b).bindings = s.bindings := rfl
@[simp] theorem State.setRegBit_running (s : State) (k i : Nat) (b : Bool) : (s.setRegBit k i b).running = s.running := rfl
@[simp] theorem State.setRegBit_stalled (s : State) (k i : Nat) (b : Bool) : (s.setRegBit k i b).stalled = s.stalled := rfl
@[simp] theorem State.setRegBit_transfers (s : State) (k i : Nat) (b : Bool) : (s.setRegBit k i b).transfers = s.transfers := rfl
@[simp] theorem State.setRegBit_grids (s : State) (k i : Nat) (b : Bool) : (s.setRegBit k i b).grids = s.grids := rfl
@[simp] theorem State.setRegBit_fabric (s : State) (k i : Nat) (b : Bool) : (s.setRegBit k i b).fabric = s.fabric := rfl
@[simp] theorem State.setRegBit_coll (s : State) (k i : Nat) (b : Bool) : (s.setRegBit k i b).coll = s.coll := rfl
@[simp] theorem State.setRegBit_jobs (s : State) (k i : Nat) (b : Bool) : (s.setRegBit k i b).jobs = s.jobs := rfl
@[simp] theorem State.setRegBit_parts (s : State) (k i : Nat) (b : Bool) : (s.setRegBit k i b).parts = s.parts := rfl
@[simp] theorem State.setRegBit_sec (s : State) (k i : Nat) (b : Bool) : (s.setRegBit k i b).sec = s.sec := rfl
@[simp] theorem State.setRegBit_mgmt (s : State) (k i : Nat) (b : Bool) : (s.setRegBit k i b).mgmt = s.mgmt := rfl
@[simp] theorem State.setRegBit_fw (s : State) (k i : Nat) (b : Bool) : (s.setRegBit k i b).fw = s.fw := rfl

end Sys2Proof.Machine
end

