-- ==== Sys2Proof/Laws/Tables.lean ====
section
/-! SUPPORT. Reading after writing in tables, byte memories and registers, and that every operation on a
byte memory keeps its canonical form. -/

namespace Sys2Proof.Machine

/-! ### Tables -/

theorem tabGet_tabSet_self {α : Type} (t : Tab α) (k : Nat) (v d : α) : tabGet (tabSet t k v) k d = v := by
  induction t with
  | nil => simp [tabSet, tabGet]
  | cons e r ih =>
    obtain ⟨i, x⟩ := e
    simp only [tabSet]
    split
    · simp [tabGet]
    · split
      · simp [tabGet]
      · rename_i h; simp [tabGet, h, ih]

theorem tabGet_tabSet_ne {α : Type} (t : Tab α) (k j : Nat) (v d : α) (h : j ≠ k) :
    tabGet (tabSet t k v) j d = tabGet t j d := by
  induction t with
  | nil => simp [tabSet, tabGet, Ne.symm h]
  | cons e r ih =>
    obtain ⟨i, x⟩ := e
    simp only [tabSet]
    split
    · simp [tabGet, Ne.symm h]
    · split
      · rename_i h2; subst h2; simp [tabGet, Ne.symm h]
      · simp only [tabGet, ih]

/-- What a table holds after one entry is set. -/
theorem tabGet_tabSet {α : Type} (t : Tab α) (k j : Nat) (v d : α) :
    tabGet (tabSet t k v) j d = if j = k then v else tabGet t j d := by
  split
  · rename_i h; subst h; exact tabGet_tabSet_self t _ v d
  · rename_i h; exact tabGet_tabSet_ne t k j v d h

/-! ### Byte memories -/

/-- Every address of a list lies above `a`. -/
def above (a : Nat) (m : Mem) : Prop := ∀ c ∈ m, a < c.1

theorem memWf_cons (d : Byte) (a : Nat) (v : Byte) (m : Mem) :
    memWf d ((a, v) :: m) = true ↔ v ≠ d ∧ above a m ∧ memWf d m = true := by
  induction m generalizing a v with
  | nil => simp [memWf, above]
  | cons e r ih =>
    obtain ⟨b, w⟩ := e
    have hb := ih b w
    simp only [memWf, Bool.and_eq_true, bne_iff_ne, decide_eq_true_eq, above, List.mem_cons, forall_eq_or_imp]
    constructor
    · rintro ⟨⟨h1, h2⟩, h3⟩
      refine ⟨h1, ⟨h2, fun c hc => ?_⟩, h3⟩
      exact Nat.lt_trans h2 ((hb.mp h3).2.1 c hc)
    · rintro ⟨h1, ⟨h2, _⟩, h3⟩
      exact ⟨⟨h1, h2⟩, h3⟩

theorem memWf_tail (d : Byte) (c : Host.Cell) (m : Mem) (h : memWf d (c :: m) = true) : memWf d m = true :=
  ((memWf_cons d c.1 c.2 m).mp h).2.2

theorem memSet_above (d : Byte) (m : Mem) (a b : Nat) (v : Byte) (hb : b < a) (h : above b m) :
    above b (memSet d m a v) := by
  induction m with
  | nil => intro c hc; simp only [memSet] at hc; split at hc <;> simp_all
  | cons e r ih =>
    obtain ⟨i, x⟩ := e
    have hr : above b r := fun c hc => h c (List.mem_cons_of_mem _ hc)
    have hi : b < i := h (i, x) List.mem_cons_self
    intro c hc
    simp only [memSet] at hc
    split at hc
    · split at hc
      · exact h c hc
      · rcases List.mem_cons.mp hc with rfl | hc
        · exact hb
        · exact h c hc
    · split at hc
      · split at hc
        · exact hr c hc
        · rcases List.mem_cons.mp hc with rfl | hc
          · exact hb
          · exact hr c hc
      · rcases List.mem_cons.mp hc with rfl | hc
        · exact hi
        · exact ih hr c hc

/-- Writing a byte keeps the canonical form. -/
theorem memSet_wf (d : Byte) (m : Mem) (a : Nat) (v : Byte) (h : memWf d m = true) :
    memWf d (memSet d m a v) = true := by
  induction m with
  | nil => simp only [memSet]; split <;> simp_all [memWf]
  | cons e r ih =>
    obtain ⟨i, x⟩ := e
    obtain ⟨hx, ha, hr⟩ := (memWf_cons d i x r).mp h
    simp only [memSet]
    split
    · split
      · exact h
      · rename_i h1 h2
        refine (memWf_cons d a v _).mpr ⟨h2, fun c hc => ?_, h⟩
        rcases List.mem_cons.mp hc with rfl | hc
        · exact h1
        · exact Nat.lt_trans h1 (ha c hc)
    · split
      · rename_i h2; subst h2
        split
        · exact hr
        · rename_i h3; exact (memWf_cons d i v r).mpr ⟨h3, ha, hr⟩
      · rename_i h1 h2
        exact (memWf_cons d i x _).mpr ⟨hx, memSet_above d r a i v (by omega) ha, ih hr⟩

/-- Writing bytes keeps the canonical form. -/
theorem memWrite_wf (d : Byte) (m : Mem) (a : Nat) (l : List Byte) (h : memWf d m = true) :
    memWf d (memWrite d m a l) = true := by
  induction l generalizing m a with
  | nil => exact h
  | cons b r ih => exact ih _ _ (memSet_wf d m a b h)

/-- Leaving cells out keeps the canonical form. -/
theorem memFilter_wf (d : Byte) (f : Host.Cell → Bool) (m : Mem) (h : memWf d m = true) :
    memWf d (m.filter f) = true := by
  induction m with
  | nil => rfl
  | cons e r ih =>
    obtain ⟨i, x⟩ := e
    obtain ⟨hx, ha, hr⟩ := (memWf_cons d i x r).mp h
    rw [List.filter_cons]
    split
    · exact (memWf_cons d i x _).mpr ⟨hx, fun c hc => ha c (List.mem_filter.mp hc).1, ih hr⟩
    · exact ih hr

theorem memForget_wf (d : Byte) (m : Mem) (lo hi : Nat) (h : memWf d m = true) :
    memWf d (memForget m lo hi) = true := memFilter_wf d _ m h

theorem memGet_above (d : Byte) (m : Mem) (a : Nat) (h : above a m) : memGet d m a = d := by
  induction m with
  | nil => rfl
  | cons e r ih =>
    obtain ⟨i, x⟩ := e
    have hi : a < i := h (i, x) List.mem_cons_self
    have : ¬ i = a := by omega
    simp only [memGet, tabGet, if_neg this]
    exact ih (fun c hc => h c (List.mem_cons_of_mem _ hc))

/-- A byte read after a byte was written. -/
theorem memGet_memSet (d : Byte) (m : Mem) (a b : Nat) (v : Byte) (h : memWf d m = true) :
    memGet d (memSet d m a v) b = if b = a then v else memGet d m b := by
  induction m with
  | nil =>
    simp only [memSet]
    by_cases hb : b = a
    · subst hb; split <;> simp_all [memGet, tabGet]
    · split <;> simp [memGet, tabGet, Ne.symm hb]
  | cons e r ih =>
    obtain ⟨i, x⟩ := e
    obtain ⟨hx, ha, hr⟩ := (memWf_cons d i x r).mp h
    have ih := ih hr
    simp only [memSet]
    split
    · rename_i h1
      by_cases hb : b = a
      · subst hb
        have hab : above b ((i, x) :: r) := by
          intro c hc
          rcases List.mem_cons.mp hc with rfl | hc
          · exact h1
          · exact Nat.lt_trans h1 (ha c hc)
        split
        · rename_i hv; subst hv; simpa using memGet_above v _ b hab
        · simp [memGet, tabGet]
      · split <;> simp [memGet, tabGet, Ne.symm hb]
    · split
      · rename_i h1 h2; subst h2
        by_cases hb : b = i
        · subst hb
          split
          · rename_i hv; subst hv; simpa using memGet_above v _ b ha
          · simp [memGet, tabGet]
        · split <;> simp [memGet, tabGet, Ne.symm hb]
      · rename_i h1 h2
        by_cases hi : i = b
        · subst hi; simp [memGet, tabGet, h2]
        · simp only [memGet, tabGet, if_neg hi] at ih ⊢; exact ih

/-- A byte read after bytes were written, outside them. -/
theorem memGet_memWrite_out (d : Byte) (m : Mem) (a b : Nat) (l : List Byte) (h : memWf d m = true)
    (hb : b < a ∨ a + l.length ≤ b) : memGet d (memWrite d m a l) b = memGet d m b := by
  induction l generalizing m a with
  | nil => rfl
  | cons v r ih =>
    simp only [List.length_cons] at hb
    rw [memWrite, ih _ _ (memSet_wf d m a v h) (by omega), memGet_memSet d m a b v h, if_neg (by omega)]

/-- A byte read after bytes were written, among them. -/
theorem memGet_memWrite_in (d : Byte) (m : Mem) (a : Nat) (l : List Byte) (i : Nat) (h : memWf d m = true)
    (hi : i < l.length) : memGet d (memWrite d m a l) (a + i) = l[i] := by
  induction l generalizing m a i with
  | nil => simp at hi
  | cons v r ih =>
    rw [memWrite]
    cases i with
    | zero =>
      rw [memGet_memWrite_out d _ _ _ _ (memSet_wf d m a v h) (by omega), memGet_memSet d m a _ v h]
      simp
    | succ j =>
      have := ih (memSet d m a v) (a + 1) j (memSet_wf d m a v h) (by simpa using hi)
      rw [show a + (j + 1) = a + 1 + j by omega, this]
      simp

/-! ### Registers -/

/-- A register read after one was written: the value reduced to the width of the register. -/
theorem State.reg_setReg (s : State) (k j v : Nat) :
    (s.setReg k v).reg j = if j = k then v % 2 ^ keyBits k else s.reg j := by
  simp only [State.reg, State.setReg]
  rw [tabGet_tabSet]

@[simp] theorem State.reg_setReg_self (s : State) (k v : Nat) : (s.setReg k v).reg k = v % 2 ^ keyBits k := by
  rw [State.reg_setReg, if_pos rfl]

theorem State.reg_setReg_ne (s : State) (k j v : Nat) (h : j ≠ k) : (s.setReg k v).reg j = s.reg j := by
  rw [State.reg_setReg, if_neg h]

/-- Registers stand in the dictionary alone. -/
theorem State.reg_of_dict (s t : State) (k : Nat) (h : t.dict = s.dict) : t.reg k = s.reg k := by
  simp only [State.reg, h]

@[simp] theorem State.grid_setGrid_self (s : State) (p : Nat) (g : Grid) : (s.setGrid p g).grid p = g :=
  tabGet_tabSet_self _ _ _ _

@[simp] theorem State.part_setPart_self (s : State) (p : Nat) (x : Part) : (s.setPart p x).part p = x :=
  tabGet_tabSet_self _ _ _ _

@[simp] theorem State.view_setView_self (s : State) (i : Nat) (v : View) : (s.setView i v).view i = v :=
  tabGet_tabSet_self _ _ _ _

@[simp] theorem State.keySlot_setKeySlot_self (s : State) (i : Nat) (k : KeySlot) :
    (s.setKeySlot i k).keySlot i = k := tabGet_tabSet_self _ _ _ _

end Sys2Proof.Machine
end

