-- ==== Sys2Proof/Laws/Ops.lean ====
section
/-! SUPPORT. What each shared operation of Machine/Ops.lean leaves: one lemma that names the parts of the state
that it may touch (putting those back gives the state again), and one lemma per other field. -/

namespace Sys2Proof.Machine

/-- A fold keeps whatever each of its steps keeps. -/
theorem foldl_same {α β γ : Type} (v : β → γ) (f : β → α → β) (h : ∀ s a, v (f s a) = v s) (l : List α) (s : β) :
    v (l.foldl f s) = v s := by
  induction l generalizing s with
  | nil => rfl
  | cons a r ih => rw [List.foldl_cons, ih, h]

/-- A fold of steps that touch only what `v` puts back. -/
theorem foldl_frame {α : Type} (v : State → State) (f : State → α → State) (h : ∀ s a, v (f s a) = v s) (l : List α)
    (s : State) {u : State} (hu : v s = u) : v (l.foldl f s) = u :=
  (foldl_same v f h l s).trans hu

/-! ### `State.queueEmcy` -/

theorem State.queueEmcy_frame (s : State) (c : EventCode) :
    { s.queueEmcy c with dict := s.dict, mgmt := s.mgmt } = s := by
  unfold State.queueEmcy; dsimp only; split; · rfl
  · split <;> rfl

@[simp] theorem State.queueEmcy_pending (s : State) (c : EventCode) : (s.queueEmcy c).pending = s.pending :=
  (congrArg State.pending (State.queueEmcy_frame s c) :)
@[simp] theorem State.queueEmcy_freeCount (s : State) (c : EventCode) : (s.queueEmcy c).freeCount = s.freeCount :=
  (congrArg State.freeCount (State.queueEmcy_frame s c) :)
@[simp] theorem State.queueEmcy_now (s : State) (c : EventCode) : (s.queueEmcy c).now = s.now :=
  (congrArg State.now (State.queueEmcy_frame s c) :)
@[simp] theorem State.queueEmcy_staged (s : State) (c : EventCode) : (s.queueEmcy c).staged = s.staged :=
  (congrArg State.staged (State.queueEmcy_frame s c) :)
@[simp] theorem State.queueEmcy_locks (s : State) (c : EventCode) : (s.queueEmcy c).locks = s.locks :=
  (congrArg State.locks (State.queueEmcy_frame s c) :)
@[simp] theorem State.queueEmcy_owed (s : State) (c : EventCode) : (s.queueEmcy c).owed = s.owed :=
  (congrArg State.owed (State.queueEmcy_frame s c) :)
@[simp] theorem State.queueEmcy_expert (s : State) (c : EventCode) : (s.queueEmcy c).expert = s.expert :=
  (congrArg State.expert (State.queueEmcy_frame s c) :)
@[simp] theorem State.queueEmcy_mbox (s : State) (c : EventCode) : (s.queueEmcy c).mbox = s.mbox :=
  (congrArg State.mbox (State.queueEmcy_frame s c) :)
@[simp] theorem State.queueEmcy_views (s : State) (c : EventCode) : (s.queueEmcy c).views = s.views :=
  (congrArg State.views (State.queueEmcy_frame s c) :)
@[simp] theorem State.queueEmcy_msix (s : State) (c : EventCode) : (s.queueEmcy c).msix = s.msix :=
  (congrArg State.msix (State.queueEmcy_frame s c) :)
@[simp] theorem State.queueEmcy_vectors (s : State) (c : EventCode) : (s.queueEmcy c).vectors = s.vectors :=
  (congrArg State.vectors (State.queueEmcy_frame s c) :)
@[simp] theorem State.queueEmcy_completed (s : State) (c : EventCode) : (s.queueEmcy c).completed = s.completed :=
  (congrArg State.completed (State.queueEmcy_frame s c) :)
@[simp] theorem State.queueEmcy_power (s : State) (c : EventCode) : (s.queueEmcy c).power = s.power :=
  (congrArg State.power (State.queueEmcy_frame s c) :)
@[simp] theorem State.queueEmcy_objs (s : State) (c : EventCode) : (s.queueEmcy c).objs = s.objs :=
  (congrArg State.objs (State.queueEmcy_frame s c) :)
@[simp] theorem State.queueEmcy_mem (s : State) (c : EventCode) : (s.queueEmcy c).mem = s.mem :=
  (congrArg State.mem (State.queueEmcy_frame s c) :)
@[simp] theorem State.queueEmcy_tier (s : State) (c : EventCode) : (s.queueEmcy c).tier = s.tier :=
  (congrArg State.tier (State.queueEmcy_frame s c) :)
@[simp] theorem State.queueEmcy_enc (s : State) (c : EventCode) : (s.queueEmcy c).enc = s.enc :=
  (congrArg State.enc (State.queueEmcy_frame s c) :)
@[simp] theorem State.queueEmcy_held (s : State) (c : EventCode) : (s.queueEmcy c).held = s.held :=
  (congrArg State.held (State.queueEmcy_frame s c) :)
@[simp] theorem State.queueEmcy_slots (s : State) (c : EventCode) : (s.queueEmcy c).slots = s.slots :=
  (congrArg State.slots (State.queueEmcy_frame s c) :)
@[simp] theorem State.queueEmcy_bindings (s : State) (c : EventCode) : (s.queueEmcy c).bindings = s.bindings :=
  (congrArg State.bindings (State.queueEmcy_frame s c) :)
@[simp] theorem State.queueEmcy_running (s : State) (c : EventCode) : (s.queueEmcy c).running = s.running :=
  (congrArg State.running (State.queueEmcy_frame s c) :)
@[simp] theorem State.queueEmcy_stalled (s : State) (c : EventCode) : (s.queueEmcy c).stalled = s.stalled :=
  (congrArg State.stalled (State.queueEmcy_frame s c) :)
@[simp] theorem State.queueEmcy_transfers (s : State) (c : EventCode) : (s.queueEmcy c).transfers = s.transfers :=
  (congrArg State.transfers (State.queueEmcy_frame s c) :)
@[simp] theorem State.queueEmcy_grids (s : State) (c : EventCode) : (s.queueEmcy c).grids = s.grids :=
  (congrArg State.grids (State.queueEmcy_frame s c) :)
@[simp] theorem State.queueEmcy_fabric (s : State) (c : EventCode) : (s.queueEmcy c).fabric = s.fabric :=
  (congrArg State.fabric (State.queueEmcy_frame s c) :)
@[simp] theorem State.queueEmcy_coll (s : State) (c : EventCode) : (s.queueEmcy c).coll = s.coll :=
  (congrArg State.coll (State.queueEmcy_frame s c) :)
@[simp] theorem State.queueEmcy_jobs (s : State) (c : EventCode) : (s.queueEmcy c).jobs = s.jobs :=
  (congrArg State.jobs (State.queueEmcy_frame s c) :)
@[simp] theorem State.queueEmcy_parts (s : State) (c : EventCode) : (s.queueEmcy c).parts = s.parts :=
  (congrArg State.parts (State.queueEmcy_frame s c) :)
@[simp] theorem State.queueEmcy_sec (s : State) (c : EventCode) : (s.queueEmcy c).sec = s.sec :=
  (congrArg State.sec (State.queueEmcy_frame s c) :)
@[simp] theorem State.queueEmcy_fw (s : State) (c : EventCode) : (s.queueEmcy c).fw = s.fw :=
  (congrArg State.fw (State.queueEmcy_frame s c) :)

/-! ### `State.event` -/

theorem State.event_frame (s : State) (c : EventCode) (r n : Nat) :
    { s.event c r n with dict := s.dict, mgmt := s.mgmt } = s := by
  unfold State.event; dsimp only
  generalize (if _ = s.now / nsPerS then _ else _ : Nat) = k
  split
  · exact congrArg (fun t : State => { t with dict := s.dict, mgmt := s.mgmt }) (State.queueEmcy_frame _ c)
  · exact congrArg (fun t : State => { t with dict := s.dict, mgmt := s.mgmt }) (State.queueEmcy_frame _ c)

@[simp] theorem State.event_pending (s : State) (c : EventCode) (r n : Nat) : (s.event c r n).pending = s.pending :=
  (congrArg State.pending (State.event_frame s c r n) :)
@[simp] theorem State.event_freeCount (s : State) (c : EventCode) (r n : Nat) : (s.event c r n).freeCount = s.freeCount :=
  (congrArg State.freeCount (State.event_frame s c r n) :)
@[simp] theorem State.event_now (s : State) (c : EventCode) (r n : Nat) : (s.event c r n).now = s.now :=
  (congrArg State.now (State.event_frame s c r n) :)
@[simp] theorem State.event_staged (s : State) (c : EventCode) (r n : Nat) : (s.event c r n).staged = s.staged :=
  (congrArg State.staged (State.event_frame s c r n) :)
@[simp] theorem State.event_locks (s : State) (c : EventCode) (r n : Nat) : (s.event c r n).locks = s.locks :=
  (congrArg State.locks (State.event_frame s c r n) :)
@[simp] theorem State.event_owed (s : State) (c : EventCode) (r n : Nat) : (s.event c r n).owed = s.owed :=
  (congrArg State.owed (State.event_frame s c r n) :)
@[simp] theorem State.event_expert (s : State) (c : EventCode) (r n : Nat) : (s.event c r n).expert = s.expert :=
  (congrArg State.expert (State.event_frame s c r n) :)
@[simp] theorem State.event_mbox (s : State) (c : EventCode) (r n : Nat) : (s.event c r n).mbox = s.mbox :=
  (congrArg State.mbox (State.event_frame s c r n) :)
@[simp] theorem State.event_views (s : State) (c : EventCode) (r n : Nat) : (s.event c r n).views = s.views :=
  (congrArg State.views (State.event_frame s c r n) :)
@[simp] theorem State.event_msix (s : State) (c : EventCode) (r n : Nat) : (s.event c r n).msix = s.msix :=
  (congrArg State.msix (State.event_frame s c r n) :)
@[simp] theorem State.event_vectors (s : State) (c : EventCode) (r n : Nat) : (s.event c r n).vectors = s.vectors :=
  (congrArg State.vectors (State.event_frame s c r n) :)
@[simp] theorem State.event_completed (s : State) (c : EventCode) (r n : Nat) : (s.event c r n).completed = s.completed :=
  (congrArg State.completed (State.event_frame s c r n) :)
@[simp] theorem State.event_power (s : State) (c : EventCode) (r n : Nat) : (s.event c r n).power = s.power :=
  (congrArg State.power (State.event_frame s c r n) :)
@[simp] theorem State.event_objs (s : State) (c : EventCode) (r n : Nat) : (s.event c r n).objs = s.objs :=
  (congrArg State.objs (State.event_frame s c r n) :)
@[simp] theorem State.event_mem (s : State) (c : EventCode) (r n : Nat) : (s.event c r n).mem = s.mem :=
  (congrArg State.mem (State.event_frame s c r n) :)
@[simp] theorem State.event_tier (s : State) (c : EventCode) (r n : Nat) : (s.event c r n).tier = s.tier :=
  (congrArg State.tier (State.event_frame s c r n) :)
@[simp] theorem State.event_enc (s : State) (c : EventCode) (r n : Nat) : (s.event c r n).enc = s.enc :=
  (congrArg State.enc (State.event_frame s c r n) :)
@[simp] theorem State.event_held (s : State) (c : EventCode) (r n : Nat) : (s.event c r n).held = s.held :=
  (congrArg State.held (State.event_frame s c r n) :)
@[simp] theorem State.event_slots (s : State) (c : EventCode) (r n : Nat) : (s.event c r n).slots = s.slots :=
  (congrArg State.slots (State.event_frame s c r n) :)
@[simp] theorem State.event_bindings (s : State) (c : EventCode) (r n : Nat) : (s.event c r n).bindings = s.bindings :=
  (congrArg State.bindings (State.event_frame s c r n) :)
@[simp] theorem State.event_running (s : State) (c : EventCode) (r n : Nat) : (s.event c r n).running = s.running :=
  (congrArg State.running (State.event_frame s c r n) :)
@[simp] theorem State.event_stalled (s : State) (c : EventCode) (r n : Nat) : (s.event c r n).stalled = s.stalled :=
  (congrArg State.stalled (State.event_frame s c r n) :)
@[simp] theorem State.event_transfers (s : State) (c : EventCode) (r n : Nat) : (s.event c r n).transfers = s.transfers :=
  (congrArg State.transfers (State.event_frame s c r n) :)
@[simp] theorem State.event_grids (s : State) (c : EventCode) (r n : Nat) : (s.event c r n).grids = s.grids :=
  (congrArg State.grids (State.event_frame s c r n) :)
@[simp] theorem State.event_fabric (s : State) (c : EventCode) (r n : Nat) : (s.event c r n).fabric = s.fabric :=
  (congrArg State.fabric (State.event_frame s c r n) :)
@[simp] theorem State.event_coll (s : State) (c : EventCode) (r n : Nat) : (s.event c r n).coll = s.coll :=
  (congrArg State.coll (State.event_frame s c r n) :)
@[simp] theorem State.event_jobs (s : State) (c : EventCode) (r n : Nat) : (s.event c r n).jobs = s.jobs :=
  (congrArg State.jobs (State.event_frame s c r n) :)
@[simp] theorem State.event_parts (s : State) (c : EventCode) (r n : Nat) : (s.event c r n).parts = s.parts :=
  (congrArg State.parts (State.event_frame s c r n) :)
@[simp] theorem State.event_sec (s : State) (c : EventCode) (r n : Nat) : (s.event c r n).sec = s.sec :=
  (congrArg State.sec (State.event_frame s c r n) :)
@[simp] theorem State.event_fw (s : State) (c : EventCode) (r n : Nat) : (s.event c r n).fw = s.fw :=
  (congrArg State.fw (State.event_frame s c r n) :)

/-! ### `State.latch` -/

theorem State.latch_frame (s : State) (h : Handle) (r : Reason) (b : Bool) :
    { s.latch h r b with objs := s.objs, msix := s.msix } = s := by
  unfold State.latch fenceErrIrq; split; · rfl
  · split; · rfl
    · split <;> rfl

@[simp] theorem State.latch_pending (s : State) (h : Handle) (r : Reason) (b : Bool) : (s.latch h r b).pending = s.pending :=
  (congrArg State.pending (State.latch_frame s h r b) :)
@[simp] theorem State.latch_freeCount (s : State) (h : Handle) (r : Reason) (b : Bool) : (s.latch h r b).freeCount = s.freeCount :=
  (congrArg State.freeCount (State.latch_frame s h r b) :)
@[simp] theorem State.latch_now (s : State) (h : Handle) (r : Reason) (b : Bool) : (s.latch h r b).now = s.now :=
  (congrArg State.now (State.latch_frame s h r b) :)
@[simp] theorem State.latch_dict (s : State) (h : Handle) (r : Reason) (b : Bool) : (s.latch h r b).dict = s.dict :=
  (congrArg State.dict (State.latch_frame s h r b) :)
@[simp] theorem State.latch_staged (s : State) (h : Handle) (r : Reason) (b : Bool) : (s.latch h r b).staged = s.staged :=
  (congrArg State.staged (State.latch_frame s h r b) :)
@[simp] theorem State.latch_locks (s : State) (h : Handle) (r : Reason) (b : Bool) : (s.latch h r b).locks = s.locks :=
  (congrArg State.locks (State.latch_frame s h r b) :)
@[simp] theorem State.latch_owed (s : State) (h : Handle) (r : Reason) (b : Bool) : (s.latch h r b).owed = s.owed :=
  (congrArg State.owed (State.latch_frame s h r b) :)
@[simp] theorem State.latch_expert (s : State) (h : Handle) (r : Reason) (b : Bool) : (s.latch h r b).expert = s.expert :=
  (congrArg State.expert (State.latch_frame s h r b) :)
@[simp] theorem State.latch_mbox (s : State) (h : Handle) (r : Reason) (b : Bool) : (s.latch h r b).mbox = s.mbox :=
  (congrArg State.mbox (State.latch_frame s h r b) :)
@[simp] theorem State.latch_views (s : State) (h : Handle) (r : Reason) (b : Bool) : (s.latch h r b).views = s.views :=
  (congrArg State.views (State.latch_frame s h r b) :)
@[simp] theorem State.latch_vectors (s : State) (h : Handle) (r : Reason) (b : Bool) : (s.latch h r b).vectors = s.vectors :=
  (congrArg State.vectors (State.latch_frame s h r b) :)
@[simp] theorem State.latch_completed (s : State) (h : Handle) (r : Reason) (b : Bool) : (s.latch h r b).completed = s.completed :=
  (congrArg State.completed (State.latch_frame s h r b) :)
@[simp] theorem State.latch_power (s : State) (h : Handle) (r : Reason) (b : Bool) : (s.latch h r b).power = s.power :=
  (congrArg State.power (State.latch_frame s h r b) :)
@[simp] theorem State.latch_mem (s : State) (h : Handle) (r : Reason) (b : Bool) : (s.latch h r b).mem = s.mem :=
  (congrArg State.mem (State.latch_frame s h r b) :)
@[simp] theorem State.latch_tier (s : State) (h : Handle) (r : Reason) (b : Bool) : (s.latch h r b).tier = s.tier :=
  (congrArg State.tier (State.latch_frame s h r b) :)
@[simp] theorem State.latch_enc (s : State) (h : Handle) (r : Reason) (b : Bool) : (s.latch h r b).enc = s.enc :=
  (congrArg State.enc (State.latch_frame s h r b) :)
@[simp] theorem State.latch_held (s : State) (h : Handle) (r : Reason) (b : Bool) : (s.latch h r b).held = s.held :=
  (congrArg State.held (State.latch_frame s h r b) :)
@[simp] theorem State.latch_slots (s : State) (h : Handle) (r : Reason) (b : Bool) : (s.latch h r b).slots = s.slots :=
  (congrArg State.slots (State.latch_frame s h r b) :)
@[simp] theorem State.latch_bindings (s : State) (h : Handle) (r : Reason) (b : Bool) : (s.latch h r b).bindings = s.bindings :=
  (congrArg State.bindings (State.latch_frame s h r b) :)
@[simp] theorem State.latch_running (s : State) (h : Handle) (r : Reason) (b : Bool) : (s.latch h r b).running = s.running :=
  (congrArg State.running (State.latch_frame s h r b) :)
@[simp] theorem State.latch_stalled (s : State) (h : Handle) (r : Reason) (b : Bool) : (s.latch h r b).stalled = s.stalled :=
  (congrArg State.stalled (State.latch_frame s h r b) :)
@[simp] theorem State.latch_transfers (s : State) (h : Handle) (r : Reason) (b : Bool) : (s.latch h r b).transfers = s.transfers :=
  (congrArg State.transfers (State.latch_frame s h r b) :)
@[simp] theorem State.latch_grids (s : State) (h : Handle) (r : Reason) (b : Bool) : (s.latch h r b).grids = s.grids :=
  (congrArg State.grids (State.latch_frame s h r b) :)
@[simp] theorem State.latch_fabric (s : State) (h : Handle) (r : Reason) (b : Bool) : (s.latch h r b).fabric = s.fabric :=
  (congrArg State.fabric (State.latch_frame s h r b) :)
@[simp] theorem State.latch_coll (s : State) (h : Handle) (r : Reason) (b : Bool) : (s.latch h r b).coll = s.coll :=
  (congrArg State.coll (State.latch_frame s h r b) :)
@[simp] theorem State.latch_jobs (s : State) (h : Handle) (r : Reason) (b : Bool) : (s.latch h r b).jobs = s.jobs :=
  (congrArg State.jobs (State.latch_frame s h r b) :)
@[simp] theorem State.latch_parts (s : State) (h : Handle) (r : Reason) (b : Bool) : (s.latch h r b).parts = s.parts :=
  (congrArg State.parts (State.latch_frame s h r b) :)
@[simp] theorem State.latch_sec (s : State) (h : Handle) (r : Reason) (b : Bool) : (s.latch h r b).sec = s.sec :=
  (congrArg State.sec (State.latch_frame s h r b) :)
@[simp] theorem State.latch_mgmt (s : State) (h : Handle) (r : Reason) (b : Bool) : (s.latch h r b).mgmt = s.mgmt :=
  (congrArg State.mgmt (State.latch_frame s h r b) :)
@[simp] theorem State.latch_fw (s : State) (h : Handle) (r : Reason) (b : Bool) : (s.latch h r b).fw = s.fw :=
  (congrArg State.fw (State.latch_frame s h r b) :)

/-! ### `State.poisonFence` -/

theorem State.poisonFence_frame (s : State) (h : Handle) :
    { s.poisonFence h with objs := s.objs } = s := by
  unfold State.poisonFence; split <;> rfl

@[simp] theorem State.poisonFence_pending (s : State) (h : Handle) : (s.poisonFence h).pending = s.pending :=
  (congrArg State.pending (State.poisonFence_frame s h) :)
@[simp] theorem State.poisonFence_freeCount (s : State) (h : Handle) : (s.poisonFence h).freeCount = s.freeCount :=
  (congrArg State.freeCount (State.poisonFence_frame s h) :)
@[simp] theorem State.poisonFence_now (s : State) (h : Handle) : (s.poisonFence h).now = s.now :=
  (congrArg State.now (State.poisonFence_frame s h) :)
@[simp] theorem State.poisonFence_dict (s : State) (h : Handle) : (s.poisonFence h).dict = s.dict :=
  (congrArg State.dict (State.poisonFence_frame s h) :)
@[simp] theorem State.poisonFence_staged (s : State) (h : Handle) : (s.poisonFence h).staged = s.staged :=
  (congrArg State.staged (State.poisonFence_frame s h) :)
@[simp] theorem State.poisonFence_locks (s : State) (h : Handle) : (s.poisonFence h).locks = s.locks :=
  (congrArg State.locks (State.poisonFence_frame s h) :)
@[simp] theorem State.poisonFence_owed (s : State) (h : Handle) : (s.poisonFence h).owed = s.owed :=
  (congrArg State.owed (State.poisonFence_frame s h) :)
@[simp] theorem State.poisonFence_expert (s : State) (h : Handle) : (s.poisonFence h).expert = s.expert :=
  (congrArg State.expert (State.poisonFence_frame s h) :)
@[simp] theorem State.poisonFence_mbox (s : State) (h : Handle) : (s.poisonFence h).mbox = s.mbox :=
  (congrArg State.mbox (State.poisonFence_frame s h) :)
@[simp] theorem State.poisonFence_views (s : State) (h : Handle) : (s.poisonFence h).views = s.views :=
  (congrArg State.views (State.poisonFence_frame s h) :)
@[simp] theorem State.poisonFence_msix (s : State) (h : Handle) : (s.poisonFence h).msix = s.msix :=
  (congrArg State.msix (State.poisonFence_frame s h) :)
@[simp] theorem State.poisonFence_vectors (s : State) (h : Handle) : (s.poisonFence h).vectors = s.vectors :=
  (congrArg State.vectors (State.poisonFence_frame s h) :)
@[simp] theorem State.poisonFence_completed (s : State) (h : Handle) : (s.poisonFence h).completed = s.completed :=
  (congrArg State.completed (State.poisonFence_frame s h) :)
@[simp] theorem State.poisonFence_power (s : State) (h : Handle) : (s.poisonFence h).power = s.power :=
  (congrArg State.power (State.poisonFence_frame s h) :)
@[simp] theorem State.poisonFence_mem (s : State) (h : Handle) : (s.poisonFence h).mem = s.mem :=
  (congrArg State.mem (State.poisonFence_frame s h) :)
@[simp] theorem State.poisonFence_tier (s : State) (h : Handle) : (s.poisonFence h).tier = s.tier :=
  (congrArg State.tier (State.poisonFence_frame s h) :)
@[simp] theorem State.poisonFence_enc (s : State) (h : Handle) : (s.poisonFence h).enc = s.enc :=
  (congrArg State.enc (State.poisonFence_frame s h) :)
@[simp] theorem State.poisonFence_held (s : State) (h : Handle) : (s.poisonFence h).held = s.held :=
  (congrArg State.held (State.poisonFence_frame s h) :)
@[simp] theorem State.poisonFence_slots (s : State) (h : Handle) : (s.poisonFence h).slots = s.slots :=
  (congrArg State.slots (State.poisonFence_frame s h) :)
@[simp] theorem State.poisonFence_bindings (s : State) (h : Handle) : (s.poisonFence h).bindings = s.bindings :=
  (congrArg State.bindings (State.poisonFence_frame s h) :)
@[simp] theorem State.poisonFence_running (s : State) (h : Handle) : (s.poisonFence h).running = s.running :=
  (congrArg State.running (State.poisonFence_frame s h) :)
@[simp] theorem State.poisonFence_stalled (s : State) (h : Handle) : (s.poisonFence h).stalled = s.stalled :=
  (congrArg State.stalled (State.poisonFence_frame s h) :)
@[simp] theorem State.poisonFence_transfers (s : State) (h : Handle) : (s.poisonFence h).transfers = s.transfers :=
  (congrArg State.transfers (State.poisonFence_frame s h) :)
@[simp] theorem State.poisonFence_grids (s : State) (h : Handle) : (s.poisonFence h).grids = s.grids :=
  (congrArg State.grids (State.poisonFence_frame s h) :)
@[simp] theorem State.poisonFence_fabric (s : State) (h : Handle) : (s.poisonFence h).fabric = s.fabric :=
  (congrArg State.fabric (State.poisonFence_frame s h) :)
@[simp] theorem State.poisonFence_coll (s : State) (h : Handle) : (s.poisonFence h).coll = s.coll :=
  (congrArg State.coll (State.poisonFence_frame s h) :)
@[simp] theorem State.poisonFence_jobs (s : State) (h : Handle) : (s.poisonFence h).jobs = s.jobs :=
  (congrArg State.jobs (State.poisonFence_frame s h) :)
@[simp] theorem State.poisonFence_parts (s : State) (h : Handle) : (s.poisonFence h).parts = s.parts :=
  (congrArg State.parts (State.poisonFence_frame s h) :)
@[simp] theorem State.poisonFence_sec (s : State) (h : Handle) : (s.poisonFence h).sec = s.sec :=
  (congrArg State.sec (State.poisonFence_frame s h) :)
@[simp] theorem State.poisonFence_mgmt (s : State) (h : Handle) : (s.poisonFence h).mgmt = s.mgmt :=
  (congrArg State.mgmt (State.poisonFence_frame s h) :)
@[simp] theorem State.poisonFence_fw (s : State) (h : Handle) : (s.poisonFence h).fw = s.fw :=
  (congrArg State.fw (State.poisonFence_frame s h) :)

/-! ### `State.signal` -/

theorem State.signal_frame (s : State) (h : Handle) (n : Nat) :
    { s.signal h n with objs := s.objs, msix := s.msix } = s := by
  unfold State.signal fenceValueIrq; split; · rfl
  · split; · rfl
    · split <;> rfl

@[simp] theorem State.signal_pending (s : State) (h : Handle) (n : Nat) : (s.signal h n).pending = s.pending :=
  (congrArg State.pending (State.signal_frame s h n) :)
@[simp] theorem State.signal_freeCount (s : State) (h : Handle) (n : Nat) : (s.signal h n).freeCount = s.freeCount :=
  (congrArg State.freeCount (State.signal_frame s h n) :)
@[simp] theorem State.signal_now (s : State) (h : Handle) (n : Nat) : (s.signal h n).now = s.now :=
  (congrArg State.now (State.signal_frame s h n) :)
@[simp] theorem State.signal_dict (s : State) (h : Handle) (n : Nat) : (s.signal h n).dict = s.dict :=
  (congrArg State.dict (State.signal_frame s h n) :)
@[simp] theorem State.signal_staged (s : State) (h : Handle) (n : Nat) : (s.signal h n).staged = s.staged :=
  (congrArg State.staged (State.signal_frame s h n) :)
@[simp] theorem State.signal_locks (s : State) (h : Handle) (n : Nat) : (s.signal h n).locks = s.locks :=
  (congrArg State.locks (State.signal_frame s h n) :)
@[simp] theorem State.signal_owed (s : State) (h : Handle) (n : Nat) : (s.signal h n).owed = s.owed :=
  (congrArg State.owed (State.signal_frame s h n) :)
@[simp] theorem State.signal_expert (s : State) (h : Handle) (n : Nat) : (s.signal h n).expert = s.expert :=
  (congrArg State.expert (State.signal_frame s h n) :)
@[simp] theorem State.signal_mbox (s : State) (h : Handle) (n : Nat) : (s.signal h n).mbox = s.mbox :=
  (congrArg State.mbox (State.signal_frame s h n) :)
@[simp] theorem State.signal_views (s : State) (h : Handle) (n : Nat) : (s.signal h n).views = s.views :=
  (congrArg State.views (State.signal_frame s h n) :)
@[simp] theorem State.signal_vectors (s : State) (h : Handle) (n : Nat) : (s.signal h n).vectors = s.vectors :=
  (congrArg State.vectors (State.signal_frame s h n) :)
@[simp] theorem State.signal_completed (s : State) (h : Handle) (n : Nat) : (s.signal h n).completed = s.completed :=
  (congrArg State.completed (State.signal_frame s h n) :)
@[simp] theorem State.signal_power (s : State) (h : Handle) (n : Nat) : (s.signal h n).power = s.power :=
  (congrArg State.power (State.signal_frame s h n) :)
@[simp] theorem State.signal_mem (s : State) (h : Handle) (n : Nat) : (s.signal h n).mem = s.mem :=
  (congrArg State.mem (State.signal_frame s h n) :)
@[simp] theorem State.signal_tier (s : State) (h : Handle) (n : Nat) : (s.signal h n).tier = s.tier :=
  (congrArg State.tier (State.signal_frame s h n) :)
@[simp] theorem State.signal_enc (s : State) (h : Handle) (n : Nat) : (s.signal h n).enc = s.enc :=
  (congrArg State.enc (State.signal_frame s h n) :)
@[simp] theorem State.signal_held (s : State) (h : Handle) (n : Nat) : (s.signal h n).held = s.held :=
  (congrArg State.held (State.signal_frame s h n) :)
@[simp] theorem State.signal_slots (s : State) (h : Handle) (n : Nat) : (s.signal h n).slots = s.slots :=
  (congrArg State.slots (State.signal_frame s h n) :)
@[simp] theorem State.signal_bindings (s : State) (h : Handle) (n : Nat) : (s.signal h n).bindings = s.bindings :=
  (congrArg State.bindings (State.signal_frame s h n) :)
@[simp] theorem State.signal_running (s : State) (h : Handle) (n : Nat) : (s.signal h n).running = s.running :=
  (congrArg State.running (State.signal_frame s h n) :)
@[simp] theorem State.signal_stalled (s : State) (h : Handle) (n : Nat) : (s.signal h n).stalled = s.stalled :=
  (congrArg State.stalled (State.signal_frame s h n) :)
@[simp] theorem State.signal_transfers (s : State) (h : Handle) (n : Nat) : (s.signal h n).transfers = s.transfers :=
  (congrArg State.transfers (State.signal_frame s h n) :)
@[simp] theorem State.signal_grids (s : State) (h : Handle) (n : Nat) : (s.signal h n).grids = s.grids :=
  (congrArg State.grids (State.signal_frame s h n) :)
@[simp] theorem State.signal_fabric (s : State) (h : Handle) (n : Nat) : (s.signal h n).fabric = s.fabric :=
  (congrArg State.fabric (State.signal_frame s h n) :)
@[simp] theorem State.signal_coll (s : State) (h : Handle) (n : Nat) : (s.signal h n).coll = s.coll :=
  (congrArg State.coll (State.signal_frame s h n) :)
@[simp] theorem State.signal_jobs (s : State) (h : Handle) (n : Nat) : (s.signal h n).jobs = s.jobs :=
  (congrArg State.jobs (State.signal_frame s h n) :)
@[simp] theorem State.signal_parts (s : State) (h : Handle) (n : Nat) : (s.signal h n).parts = s.parts :=
  (congrArg State.parts (State.signal_frame s h n) :)
@[simp] theorem State.signal_sec (s : State) (h : Handle) (n : Nat) : (s.signal h n).sec = s.sec :=
  (congrArg State.sec (State.signal_frame s h n) :)
@[simp] theorem State.signal_mgmt (s : State) (h : Handle) (n : Nat) : (s.signal h n).mgmt = s.mgmt :=
  (congrArg State.mgmt (State.signal_frame s h n) :)
@[simp] theorem State.signal_fw (s : State) (h : Handle) (n : Nat) : (s.signal h n).fw = s.fw :=
  (congrArg State.fw (State.signal_frame s h n) :)

/-! ### `State.mirror` -/

theorem State.mirror_frame (s : State) (p : Nat) : { s.mirror p with views := s.views, dict := s.dict } = s := rfl

@[simp] theorem State.mirror_pending (s : State) (p : Nat) : (s.mirror p).pending = s.pending :=
  (congrArg State.pending (State.mirror_frame s p) :)
@[simp] theorem State.mirror_freeCount (s : State) (p : Nat) : (s.mirror p).freeCount = s.freeCount :=
  (congrArg State.freeCount (State.mirror_frame s p) :)
@[simp] theorem State.mirror_now (s : State) (p : Nat) : (s.mirror p).now = s.now :=
  (congrArg State.now (State.mirror_frame s p) :)
@[simp] theorem State.mirror_staged (s : State) (p : Nat) : (s.mirror p).staged = s.staged :=
  (congrArg State.staged (State.mirror_frame s p) :)
@[simp] theorem State.mirror_locks (s : State) (p : Nat) : (s.mirror p).locks = s.locks :=
  (congrArg State.locks (State.mirror_frame s p) :)
@[simp] theorem State.mirror_owed (s : State) (p : Nat) : (s.mirror p).owed = s.owed :=
  (congrArg State.owed (State.mirror_frame s p) :)
@[simp] theorem State.mirror_expert (s : State) (p : Nat) : (s.mirror p).expert = s.expert :=
  (congrArg State.expert (State.mirror_frame s p) :)
@[simp] theorem State.mirror_mbox (s : State) (p : Nat) : (s.mirror p).mbox = s.mbox :=
  (congrArg State.mbox (State.mirror_frame s p) :)
@[simp] theorem State.mirror_msix (s : State) (p : Nat) : (s.mirror p).msix = s.msix :=
  (congrArg State.msix (State.mirror_frame s p) :)
@[simp] theorem State.mirror_vectors (s : State) (p : Nat) : (s.mirror p).vectors = s.vectors :=
  (congrArg State.vectors (State.mirror_frame s p) :)
@[simp] theorem State.mirror_completed (s : State) (p : Nat) : (s.mirror p).completed = s.completed :=
  (congrArg State.completed (State.mirror_frame s p) :)
@[simp] theorem State.mirror_power (s : State) (p : Nat) : (s.mirror p).power = s.power :=
  (congrArg State.power (State.mirror_frame s p) :)
@[simp] theorem State.mirror_objs (s : State) (p : Nat) : (s.mirror p).objs = s.objs :=
  (congrArg State.objs (State.mirror_frame s p) :)
@[simp] theorem State.mirror_mem (s : State) (p : Nat) : (s.mirror p).mem = s.mem :=
  (congrArg State.mem (State.mirror_frame s p) :)
@[simp] theorem State.mirror_tier (s : State) (p : Nat) : (s.mirror p).tier = s.tier :=
  (congrArg State.tier (State.mirror_frame s p) :)
@[simp] theorem State.mirror_enc (s : State) (p : Nat) : (s.mirror p).enc = s.enc :=
  (congrArg State.enc (State.mirror_frame s p) :)
@[simp] theorem State.mirror_held (s : State) (p : Nat) : (s.mirror p).held = s.held :=
  (congrArg State.held (State.mirror_frame s p) :)
@[simp] theorem State.mirror_slots (s : State) (p : Nat) : (s.mirror p).slots = s.slots :=
  (congrArg State.slots (State.mirror_frame s p) :)
@[simp] theorem State.mirror_bindings (s : State) (p : Nat) : (s.mirror p).bindings = s.bindings :=
  (congrArg State.bindings (State.mirror_frame s p) :)
@[simp] theorem State.mirror_running (s : State) (p : Nat) : (s.mirror p).running = s.running :=
  (congrArg State.running (State.mirror_frame s p) :)
@[simp] theorem State.mirror_stalled (s : State) (p : Nat) : (s.mirror p).stalled = s.stalled :=
  (congrArg State.stalled (State.mirror_frame s p) :)
@[simp] theorem State.mirror_transfers (s : State) (p : Nat) : (s.mirror p).transfers = s.transfers :=
  (congrArg State.transfers (State.mirror_frame s p) :)
@[simp] theorem State.mirror_grids (s : State) (p : Nat) : (s.mirror p).grids = s.grids :=
  (congrArg State.grids (State.mirror_frame s p) :)
@[simp] theorem State.mirror_fabric (s : State) (p : Nat) : (s.mirror p).fabric = s.fabric :=
  (congrArg State.fabric (State.mirror_frame s p) :)
@[simp] theorem State.mirror_coll (s : State) (p : Nat) : (s.mirror p).coll = s.coll :=
  (congrArg State.coll (State.mirror_frame s p) :)
@[simp] theorem State.mirror_jobs (s : State) (p : Nat) : (s.mirror p).jobs = s.jobs :=
  (congrArg State.jobs (State.mirror_frame s p) :)
@[simp] theorem State.mirror_parts (s : State) (p : Nat) : (s.mirror p).parts = s.parts :=
  (congrArg State.parts (State.mirror_frame s p) :)
@[simp] theorem State.mirror_sec (s : State) (p : Nat) : (s.mirror p).sec = s.sec :=
  (congrArg State.sec (State.mirror_frame s p) :)
@[simp] theorem State.mirror_mgmt (s : State) (p : Nat) : (s.mirror p).mgmt = s.mgmt :=
  (congrArg State.mgmt (State.mirror_frame s p) :)
@[simp] theorem State.mirror_fw (s : State) (p : Nat) : (s.mirror p).fw = s.fw :=
  (congrArg State.fw (State.mirror_frame s p) :)

/-! ### `State.riseGen` -/

theorem State.riseGen_frame (s : State) (p : Nat) : { s.riseGen p with parts := s.parts, views := s.views, dict := s.dict } = s := rfl

@[simp] theorem State.riseGen_pending (s : State) (p : Nat) : (s.riseGen p).pending = s.pending :=
  (congrArg State.pending (State.riseGen_frame s p) :)
@[simp] theorem State.riseGen_freeCount (s : State) (p : Nat) : (s.riseGen p).freeCount = s.freeCount :=
  (congrArg State.freeCount (State.riseGen_frame s p) :)
@[simp] theorem State.riseGen_now (s : State) (p : Nat) : (s.riseGen p).now = s.now :=
  (congrArg State.now (State.riseGen_frame s p) :)
@[simp] theorem State.riseGen_staged (s : State) (p : Nat) : (s.riseGen p).staged = s.staged :=
  (congrArg State.staged (State.riseGen_frame s p) :)
@[simp] theorem State.riseGen_locks (s : State) (p : Nat) : (s.riseGen p).locks = s.locks :=
  (congrArg State.locks (State.riseGen_frame s p) :)
@[simp] theorem State.riseGen_owed (s : State) (p : Nat) : (s.riseGen p).owed = s.owed :=
  (congrArg State.owed (State.riseGen_frame s p) :)
@[simp] theorem State.riseGen_expert (s : State) (p : Nat) : (s.riseGen p).expert = s.expert :=
  (congrArg State.expert (State.riseGen_frame s p) :)
@[simp] theorem State.riseGen_mbox (s : State) (p : Nat) : (s.riseGen p).mbox = s.mbox :=
  (congrArg State.mbox (State.riseGen_frame s p) :)
@[simp] theorem State.riseGen_msix (s : State) (p : Nat) : (s.riseGen p).msix = s.msix :=
  (congrArg State.msix (State.riseGen_frame s p) :)
@[simp] theorem State.riseGen_vectors (s : State) (p : Nat) : (s.riseGen p).vectors = s.vectors :=
  (congrArg State.vectors (State.riseGen_frame s p) :)
@[simp] theorem State.riseGen_completed (s : State) (p : Nat) : (s.riseGen p).completed = s.completed :=
  (congrArg State.completed (State.riseGen_frame s p) :)
@[simp] theorem State.riseGen_power (s : State) (p : Nat) : (s.riseGen p).power = s.power :=
  (congrArg State.power (State.riseGen_frame s p) :)
@[simp] theorem State.riseGen_objs (s : State) (p : Nat) : (s.riseGen p).objs = s.objs :=
  (congrArg State.objs (State.riseGen_frame s p) :)
@[simp] theorem State.riseGen_mem (s : State) (p : Nat) : (s.riseGen p).mem = s.mem :=
  (congrArg State.mem (State.riseGen_frame s p) :)
@[simp] theorem State.riseGen_tier (s : State) (p : Nat) : (s.riseGen p).tier = s.tier :=
  (congrArg State.tier (State.riseGen_frame s p) :)
@[simp] theorem State.riseGen_enc (s : State) (p : Nat) : (s.riseGen p).enc = s.enc :=
  (congrArg State.enc (State.riseGen_frame s p) :)
@[simp] theorem State.riseGen_held (s : State) (p : Nat) : (s.riseGen p).held = s.held :=
  (congrArg State.held (State.riseGen_frame s p) :)
@[simp] theorem State.riseGen_slots (s : State) (p : Nat) : (s.riseGen p).slots = s.slots :=
  (congrArg State.slots (State.riseGen_frame s p) :)
@[simp] theorem State.riseGen_bindings (s : State) (p : Nat) : (s.riseGen p).bindings = s.bindings :=
  (congrArg State.bindings (State.riseGen_frame s p) :)
@[simp] theorem State.riseGen_running (s : State) (p : Nat) : (s.riseGen p).running = s.running :=
  (congrArg State.running (State.riseGen_frame s p) :)
@[simp] theorem State.riseGen_stalled (s : State) (p : Nat) : (s.riseGen p).stalled = s.stalled :=
  (congrArg State.stalled (State.riseGen_frame s p) :)
@[simp] theorem State.riseGen_transfers (s : State) (p : Nat) : (s.riseGen p).transfers = s.transfers :=
  (congrArg State.transfers (State.riseGen_frame s p) :)
@[simp] theorem State.riseGen_grids (s : State) (p : Nat) : (s.riseGen p).grids = s.grids :=
  (congrArg State.grids (State.riseGen_frame s p) :)
@[simp] theorem State.riseGen_fabric (s : State) (p : Nat) : (s.riseGen p).fabric = s.fabric :=
  (congrArg State.fabric (State.riseGen_frame s p) :)
@[simp] theorem State.riseGen_coll (s : State) (p : Nat) : (s.riseGen p).coll = s.coll :=
  (congrArg State.coll (State.riseGen_frame s p) :)
@[simp] theorem State.riseGen_jobs (s : State) (p : Nat) : (s.riseGen p).jobs = s.jobs :=
  (congrArg State.jobs (State.riseGen_frame s p) :)
@[simp] theorem State.riseGen_sec (s : State) (p : Nat) : (s.riseGen p).sec = s.sec :=
  (congrArg State.sec (State.riseGen_frame s p) :)
@[simp] theorem State.riseGen_mgmt (s : State) (p : Nat) : (s.riseGen p).mgmt = s.mgmt :=
  (congrArg State.mgmt (State.riseGen_frame s p) :)
@[simp] theorem State.riseGen_fw (s : State) (p : Nat) : (s.riseGen p).fw = s.fw :=
  (congrArg State.fw (State.riseGen_frame s p) :)

/-! ### `State.errorBit` -/

theorem State.errorBit_frame (s : State)  : { s.errorBit with dict := s.dict } = s := rfl

@[simp] theorem State.errorBit_pending (s : State) : (s.errorBit).pending = s.pending :=
  (congrArg State.pending (State.errorBit_frame s ) :)
@[simp] theorem State.errorBit_freeCount (s : State) : (s.errorBit).freeCount = s.freeCount :=
  (congrArg State.freeCount (State.errorBit_frame s ) :)
@[simp] theorem State.errorBit_now (s : State) : (s.errorBit).now = s.now :=
  (congrArg State.now (State.errorBit_frame s ) :)
@[simp] theorem State.errorBit_staged (s : State) : (s.errorBit).staged = s.staged :=
  (congrArg State.staged (State.errorBit_frame s ) :)
@[simp] theorem State.errorBit_locks (s : State) : (s.errorBit).locks = s.locks :=
  (congrArg State.locks (State.errorBit_frame s ) :)
@[simp] theorem State.errorBit_owed (s : State) : (s.errorBit).owed = s.owed :=
  (congrArg State.owed (State.errorBit_frame s ) :)
@[simp] theorem State.errorBit_expert (s : State) : (s.errorBit).expert = s.expert :=
  (congrArg State.expert (State.errorBit_frame s ) :)
@[simp] theorem State.errorBit_mbox (s : State) : (s.errorBit).mbox = s.mbox :=
  (congrArg State.mbox (State.errorBit_frame s ) :)
@[simp] theorem State.errorBit_views (s : State) : (s.errorBit).views = s.views :=
  (congrArg State.views (State.errorBit_frame s ) :)
@[simp] theorem State.errorBit_msix (s : State) : (s.errorBit).msix = s.msix :=
  (congrArg State.msix (State.errorBit_frame s ) :)
@[simp] theorem State.errorBit_vectors (s : State) : (s.errorBit).vectors = s.vectors :=
  (congrArg State.vectors (State.errorBit_frame s ) :)
@[simp] theorem State.errorBit_completed (s : State) : (s.errorBit).completed = s.completed :=
  (congrArg State.completed (State.errorBit_frame s ) :)
@[simp] theorem State.errorBit_power (s : State) : (s.errorBit).power = s.power :=
  (congrArg State.power (State.errorBit_frame s ) :)
@[simp] theorem State.errorBit_objs (s : State) : (s.errorBit).objs = s.objs :=
  (congrArg State.objs (State.errorBit_frame s ) :)
@[simp] theorem State.errorBit_mem (s : State) : (s.errorBit).mem = s.mem :=
  (congrArg State.mem (State.errorBit_frame s ) :)
@[simp] theorem State.errorBit_tier (s : State) : (s.errorBit).tier = s.tier :=
  (congrArg State.tier (State.errorBit_frame s ) :)
@[simp] theorem State.errorBit_enc (s : State) : (s.errorBit).enc = s.enc :=
  (congrArg State.enc (State.errorBit_frame s ) :)
@[simp] theorem State.errorBit_held (s : State) : (s.errorBit).held = s.held :=
  (congrArg State.held (State.errorBit_frame s ) :)
@[simp] theorem State.errorBit_slots (s : State) : (s.errorBit).slots = s.slots :=
  (congrArg State.slots (State.errorBit_frame s ) :)
@[simp] theorem State.errorBit_bindings (s : State) : (s.errorBit).bindings = s.bindings :=
  (congrArg State.bindings (State.errorBit_frame s ) :)
@[simp] theorem State.errorBit_running (s : State) : (s.errorBit).running = s.running :=
  (congrArg State.running (State.errorBit_frame s ) :)
@[simp] theorem State.errorBit_stalled (s : State) : (s.errorBit).stalled = s.stalled :=
  (congrArg State.stalled (State.errorBit_frame s ) :)
@[simp] theorem State.errorBit_transfers (s : State) : (s.errorBit).transfers = s.transfers :=
  (congrArg State.transfers (State.errorBit_frame s ) :)
@[simp] theorem State.errorBit_grids (s : State) : (s.errorBit).grids = s.grids :=
  (congrArg State.grids (State.errorBit_frame s ) :)
@[simp] theorem State.errorBit_fabric (s : State) : (s.errorBit).fabric = s.fabric :=
  (congrArg State.fabric (State.errorBit_frame s ) :)
@[simp] theorem State.errorBit_coll (s : State) : (s.errorBit).coll = s.coll :=
  (congrArg State.coll (State.errorBit_frame s ) :)
@[simp] theorem State.errorBit_jobs (s : State) : (s.errorBit).jobs = s.jobs :=
  (congrArg State.jobs (State.errorBit_frame s ) :)
@[simp] theorem State.errorBit_parts (s : State) : (s.errorBit).parts = s.parts :=
  (congrArg State.parts (State.errorBit_frame s ) :)
@[simp] theorem State.errorBit_sec (s : State) : (s.errorBit).sec = s.sec :=
  (congrArg State.sec (State.errorBit_frame s ) :)
@[simp] theorem State.errorBit_mgmt (s : State) : (s.errorBit).mgmt = s.mgmt :=
  (congrArg State.mgmt (State.errorBit_frame s ) :)
@[simp] theorem State.errorBit_fw (s : State) : (s.errorBit).fw = s.fw :=
  (congrArg State.fw (State.errorBit_frame s ) :)

/-! ### `State.setPartState` -/

theorem State.setPartState_frame (s : State) (p st : Nat) :
    { s.setPartState p st with parts := s.parts, views := s.views, dict := s.dict, mgmt := s.mgmt } = s := by
  exact congrArg (fun t : State => { t with parts := s.parts, views := s.views, dict := s.dict, mgmt := s.mgmt }) (State.event_frame _ 0x0B000041 0 p)

@[simp] theorem State.setPartState_pending (s : State) (p st : Nat) : (s.setPartState p st).pending = s.pending :=
  (congrArg State.pending (State.setPartState_frame s p st) :)
@[simp] theorem State.setPartState_freeCount (s : State) (p st : Nat) : (s.setPartState p st).freeCount = s.freeCount :=
  (congrArg State.freeCount (State.setPartState_frame s p st) :)
@[simp] theorem State.setPartState_now (s : State) (p st : Nat) : (s.setPartState p st).now = s.now :=
  (congrArg State.now (State.setPartState_frame s p st) :)
@[simp] theorem State.setPartState_staged (s : State) (p st : Nat) : (s.setPartState p st).staged = s.staged :=
  (congrArg State.staged (State.setPartState_frame s p st) :)
@[simp] theorem State.setPartState_locks (s : State) (p st : Nat) : (s.setPartState p st).locks = s.locks :=
  (congrArg State.locks (State.setPartState_frame s p st) :)
@[simp] theorem State.setPartState_owed (s : State) (p st : Nat) : (s.setPartState p st).owed = s.owed :=
  (congrArg State.owed (State.setPartState_frame s p st) :)
@[simp] theorem State.setPartState_expert (s : State) (p st : Nat) : (s.setPartState p st).expert = s.expert :=
  (congrArg State.expert (State.setPartState_frame s p st) :)
@[simp] theorem State.setPartState_mbox (s : State) (p st : Nat) : (s.setPartState p st).mbox = s.mbox :=
  (congrArg State.mbox (State.setPartState_frame s p st) :)
@[simp] theorem State.setPartState_msix (s : State) (p st : Nat) : (s.setPartState p st).msix = s.msix :=
  (congrArg State.msix (State.setPartState_frame s p st) :)
@[simp] theorem State.setPartState_vectors (s : State) (p st : Nat) : (s.setPartState p st).vectors = s.vectors :=
  (congrArg State.vectors (State.setPartState_frame s p st) :)
@[simp] theorem State.setPartState_completed (s : State) (p st : Nat) : (s.setPartState p st).completed = s.completed :=
  (congrArg State.completed (State.setPartState_frame s p st) :)
@[simp] theorem State.setPartState_power (s : State) (p st : Nat) : (s.setPartState p st).power = s.power :=
  (congrArg State.power (State.setPartState_frame s p st) :)
@[simp] theorem State.setPartState_objs (s : State) (p st : Nat) : (s.setPartState p st).objs = s.objs :=
  (congrArg State.objs (State.setPartState_frame s p st) :)
@[simp] theorem State.setPartState_mem (s : State) (p st : Nat) : (s.setPartState p st).mem = s.mem :=
  (congrArg State.mem (State.setPartState_frame s p st) :)
@[simp] theorem State.setPartState_tier (s : State) (p st : Nat) : (s.setPartState p st).tier = s.tier :=
  (congrArg State.tier (State.setPartState_frame s p st) :)
@[simp] theorem State.setPartState_enc (s : State) (p st : Nat) : (s.setPartState p st).enc = s.enc :=
  (congrArg State.enc (State.setPartState_frame s p st) :)
@[simp] theorem State.setPartState_held (s : State) (p st : Nat) : (s.setPartState p st).held = s.held :=
  (congrArg State.held (State.setPartState_frame s p st) :)
@[simp] theorem State.setPartState_slots (s : State) (p st : Nat) : (s.setPartState p st).slots = s.slots :=
  (congrArg State.slots (State.setPartState_frame s p st) :)
@[simp] theorem State.setPartState_bindings (s : State) (p st : Nat) : (s.setPartState p st).bindings = s.bindings :=
  (congrArg State.bindings (State.setPartState_frame s p st) :)
@[simp] theorem State.setPartState_running (s : State) (p st : Nat) : (s.setPartState p st).running = s.running :=
  (congrArg State.running (State.setPartState_frame s p st) :)
@[simp] theorem State.setPartState_stalled (s : State) (p st : Nat) : (s.setPartState p st).stalled = s.stalled :=
  (congrArg State.stalled (State.setPartState_frame s p st) :)
@[simp] theorem State.setPartState_transfers (s : State) (p st : Nat) : (s.setPartState p st).transfers = s.transfers :=
  (congrArg State.transfers (State.setPartState_frame s p st) :)
@[simp] theorem State.setPartState_grids (s : State) (p st : Nat) : (s.setPartState p st).grids = s.grids :=
  (congrArg State.grids (State.setPartState_frame s p st) :)
@[simp] theorem State.setPartState_fabric (s : State) (p st : Nat) : (s.setPartState p st).fabric = s.fabric :=
  (congrArg State.fabric (State.setPartState_frame s p st) :)
@[simp] theorem State.setPartState_coll (s : State) (p st : Nat) : (s.setPartState p st).coll = s.coll :=
  (congrArg State.coll (State.setPartState_frame s p st) :)
@[simp] theorem State.setPartState_jobs (s : State) (p st : Nat) : (s.setPartState p st).jobs = s.jobs :=
  (congrArg State.jobs (State.setPartState_frame s p st) :)
@[simp] theorem State.setPartState_sec (s : State) (p st : Nat) : (s.setPartState p st).sec = s.sec :=
  (congrArg State.sec (State.setPartState_frame s p st) :)
@[simp] theorem State.setPartState_fw (s : State) (p st : Nat) : (s.setPartState p st).fw = s.fw :=
  (congrArg State.fw (State.setPartState_frame s p st) :)

/-! ### `State.setGenSource` -/

theorem State.setGenSource_frame (s : State) (p : Nat) (b : Bool) :
    { s.setGenSource p b with dict := s.dict, mgmt := s.mgmt } = s := by
  unfold State.setGenSource; split; · rfl
  · exact congrArg (fun t : State => { t with dict := s.dict, mgmt := s.mgmt }) (State.event_frame _ 0x02010002 0 p)

@[simp] theorem State.setGenSource_pending (s : State) (p : Nat) (b : Bool) : (s.setGenSource p b).pending = s.pending :=
  (congrArg State.pending (State.setGenSource_frame s p b) :)
@[simp] theorem State.setGenSource_freeCount (s : State) (p : Nat) (b : Bool) : (s.setGenSource p b).freeCount = s.freeCount :=
  (congrArg State.freeCount (State.setGenSource_frame s p b) :)
@[simp] theorem State.setGenSource_now (s : State) (p : Nat) (b : Bool) : (s.setGenSource p b).now = s.now :=
  (congrArg State.now (State.setGenSource_frame s p b) :)
@[simp] theorem State.setGenSource_staged (s : State) (p : Nat) (b : Bool) : (s.setGenSource p b).staged = s.staged :=
  (congrArg State.staged (State.setGenSource_frame s p b) :)
@[simp] theorem State.setGenSource_locks (s : State) (p : Nat) (b : Bool) : (s.setGenSource p b).locks = s.locks :=
  (congrArg State.locks (State.setGenSource_frame s p b) :)
@[simp] theorem State.setGenSource_owed (s : State) (p : Nat) (b : Bool) : (s.setGenSource p b).owed = s.owed :=
  (congrArg State.owed (State.setGenSource_frame s p b) :)
@[simp] theorem State.setGenSource_expert (s : State) (p : Nat) (b : Bool) : (s.setGenSource p b).expert = s.expert :=
  (congrArg State.expert (State.setGenSource_frame s p b) :)
@[simp] theorem State.setGenSource_mbox (s : State) (p : Nat) (b : Bool) : (s.setGenSource p b).mbox = s.mbox :=
  (congrArg State.mbox (State.setGenSource_frame s p b) :)
@[simp] theorem State.setGenSource_views (s : State) (p : Nat) (b : Bool) : (s.setGenSource p b).views = s.views :=
  (congrArg State.views (State.setGenSource_frame s p b) :)
@[simp] theorem State.setGenSource_msix (s : State) (p : Nat) (b : Bool) : (s.setGenSource p b).msix = s.msix :=
  (congrArg State.msix (State.setGenSource_frame s p b) :)
@[simp] theorem State.setGenSource_vectors (s : State) (p : Nat) (b : Bool) : (s.setGenSource p b).vectors = s.vectors :=
  (congrArg State.vectors (State.setGenSource_frame s p b) :)
@[simp] theorem State.setGenSource_completed (s : State) (p : Nat) (b : Bool) : (s.setGenSource p b).completed = s.completed :=
  (congrArg State.completed (State.setGenSource_frame s p b) :)
@[simp] theorem State.setGenSource_power (s : State) (p : Nat) (b : Bool) : (s.setGenSource p b).power = s.power :=
  (congrArg State.power (State.setGenSource_frame s p b) :)
@[simp] theorem State.setGenSource_objs (s : State) (p : Nat) (b : Bool) : (s.setGenSource p b).objs = s.objs :=
  (congrArg State.objs (State.setGenSource_frame s p b) :)
@[simp] theorem State.setGenSource_mem (s : State) (p : Nat) (b : Bool) : (s.setGenSource p b).mem = s.mem :=
  (congrArg State.mem (State.setGenSource_frame s p b) :)
@[simp] theorem State.setGenSource_tier (s : State) (p : Nat) (b : Bool) : (s.setGenSource p b).tier = s.tier :=
  (congrArg State.tier (State.setGenSource_frame s p b) :)
@[simp] theorem State.setGenSource_enc (s : State) (p : Nat) (b : Bool) : (s.setGenSource p b).enc = s.enc :=
  (congrArg State.enc (State.setGenSource_frame s p b) :)
@[simp] theorem State.setGenSource_held (s : State) (p : Nat) (b : Bool) : (s.setGenSource p b).held = s.held :=
  (congrArg State.held (State.setGenSource_frame s p b) :)
@[simp] theorem State.setGenSource_slots (s : State) (p : Nat) (b : Bool) : (s.setGenSource p b).slots = s.slots :=
  (congrArg State.slots (State.setGenSource_frame s p b) :)
@[simp] theorem State.setGenSource_bindings (s : State) (p : Nat) (b : Bool) : (s.setGenSource p b).bindings = s.bindings :=
  (congrArg State.bindings (State.setGenSource_frame s p b) :)
@[simp] theorem State.setGenSource_running (s : State) (p : Nat) (b : Bool) : (s.setGenSource p b).running = s.running :=
  (congrArg State.running (State.setGenSource_frame s p b) :)
@[simp] theorem State.setGenSource_stalled (s : State) (p : Nat) (b : Bool) : (s.setGenSource p b).stalled = s.stalled :=
  (congrArg State.stalled (State.setGenSource_frame s p b) :)
@[simp] theorem State.setGenSource_transfers (s : State) (p : Nat) (b : Bool) : (s.setGenSource p b).transfers = s.transfers :=
  (congrArg State.transfers (State.setGenSource_frame s p b) :)
@[simp] theorem State.setGenSource_grids (s : State) (p : Nat) (b : Bool) : (s.setGenSource p b).grids = s.grids :=
  (congrArg State.grids (State.setGenSource_frame s p b) :)
@[simp] theorem State.setGenSource_fabric (s : State) (p : Nat) (b : Bool) : (s.setGenSource p b).fabric = s.fabric :=
  (congrArg State.fabric (State.setGenSource_frame s p b) :)
@[simp] theorem State.setGenSource_coll (s : State) (p : Nat) (b : Bool) : (s.setGenSource p b).coll = s.coll :=
  (congrArg State.coll (State.setGenSource_frame s p b) :)
@[simp] theorem State.setGenSource_jobs (s : State) (p : Nat) (b : Bool) : (s.setGenSource p b).jobs = s.jobs :=
  (congrArg State.jobs (State.setGenSource_frame s p b) :)
@[simp] theorem State.setGenSource_parts (s : State) (p : Nat) (b : Bool) : (s.setGenSource p b).parts = s.parts :=
  (congrArg State.parts (State.setGenSource_frame s p b) :)
@[simp] theorem State.setGenSource_sec (s : State) (p : Nat) (b : Bool) : (s.setGenSource p b).sec = s.sec :=
  (congrArg State.sec (State.setGenSource_frame s p b) :)
@[simp] theorem State.setGenSource_fw (s : State) (p : Nat) (b : Bool) : (s.setGenSource p b).fw = s.fw :=
  (congrArg State.fw (State.setGenSource_frame s p b) :)

/-! ### `State.sendNotice` -/

theorem State.sendNotice_frame (s : State) (p m : Nat) (k : Option Nat) :
    { s.sendNotice p m k with fabric := s.fabric } = s := by
  exact foldl_frame (fun t => { t with fabric := s.fabric }) (fun t n => t.sendTiming n m) (fun _ _ => rfl) _ s rfl

@[simp] theorem State.sendNotice_pending (s : State) (p m : Nat) (k : Option Nat) : (s.sendNotice p m k).pending = s.pending :=
  (congrArg State.pending (State.sendNotice_frame s p m k) :)
@[simp] theorem State.sendNotice_freeCount (s : State) (p m : Nat) (k : Option Nat) : (s.sendNotice p m k).freeCount = s.freeCount :=
  (congrArg State.freeCount (State.sendNotice_frame s p m k) :)
@[simp] theorem State.sendNotice_now (s : State) (p m : Nat) (k : Option Nat) : (s.sendNotice p m k).now = s.now :=
  (congrArg State.now (State.sendNotice_frame s p m k) :)
@[simp] theorem State.sendNotice_dict (s : State) (p m : Nat) (k : Option Nat) : (s.sendNotice p m k).dict = s.dict :=
  (congrArg State.dict (State.sendNotice_frame s p m k) :)
@[simp] theorem State.sendNotice_staged (s : State) (p m : Nat) (k : Option Nat) : (s.sendNotice p m k).staged = s.staged :=
  (congrArg State.staged (State.sendNotice_frame s p m k) :)
@[simp] theorem State.sendNotice_locks (s : State) (p m : Nat) (k : Option Nat) : (s.sendNotice p m k).locks = s.locks :=
  (congrArg State.locks (State.sendNotice_frame s p m k) :)
@[simp] theorem State.sendNotice_owed (s : State) (p m : Nat) (k : Option Nat) : (s.sendNotice p m k).owed = s.owed :=
  (congrArg State.owed (State.sendNotice_frame s p m k) :)
@[simp] theorem State.sendNotice_expert (s : State) (p m : Nat) (k : Option Nat) : (s.sendNotice p m k).expert = s.expert :=
  (congrArg State.expert (State.sendNotice_frame s p m k) :)
@[simp] theorem State.sendNotice_mbox (s : State) (p m : Nat) (k : Option Nat) : (s.sendNotice p m k).mbox = s.mbox :=
  (congrArg State.mbox (State.sendNotice_frame s p m k) :)
@[simp] theorem State.sendNotice_views (s : State) (p m : Nat) (k : Option Nat) : (s.sendNotice p m k).views = s.views :=
  (congrArg State.views (State.sendNotice_frame s p m k) :)
@[simp] theorem State.sendNotice_msix (s : State) (p m : Nat) (k : Option Nat) : (s.sendNotice p m k).msix = s.msix :=
  (congrArg State.msix (State.sendNotice_frame s p m k) :)
@[simp] theorem State.sendNotice_vectors (s : State) (p m : Nat) (k : Option Nat) : (s.sendNotice p m k).vectors = s.vectors :=
  (congrArg State.vectors (State.sendNotice_frame s p m k) :)
@[simp] theorem State.sendNotice_completed (s : State) (p m : Nat) (k : Option Nat) : (s.sendNotice p m k).completed = s.completed :=
  (congrArg State.completed (State.sendNotice_frame s p m k) :)
@[simp] theorem State.sendNotice_power (s : State) (p m : Nat) (k : Option Nat) : (s.sendNotice p m k).power = s.power :=
  (congrArg State.power (State.sendNotice_frame s p m k) :)
@[simp] theorem State.sendNotice_objs (s : State) (p m : Nat) (k : Option Nat) : (s.sendNotice p m k).objs = s.objs :=
  (congrArg State.objs (State.sendNotice_frame s p m k) :)
@[simp] theorem State.sendNotice_mem (s : State) (p m : Nat) (k : Option Nat) : (s.sendNotice p m k).mem = s.mem :=
  (congrArg State.mem (State.sendNotice_frame s p m k) :)
@[simp] theorem State.sendNotice_tier (s : State) (p m : Nat) (k : Option Nat) : (s.sendNotice p m k).tier = s.tier :=
  (congrArg State.tier (State.sendNotice_frame s p m k) :)
@[simp] theorem State.sendNotice_enc (s : State) (p m : Nat) (k : Option Nat) : (s.sendNotice p m k).enc = s.enc :=
  (congrArg State.enc (State.sendNotice_frame s p m k) :)
@[simp] theorem State.sendNotice_held (s : State) (p m : Nat) (k : Option Nat) : (s.sendNotice p m k).held = s.held :=
  (congrArg State.held (State.sendNotice_frame s p m k) :)
@[simp] theorem State.sendNotice_slots (s : State) (p m : Nat) (k : Option Nat) : (s.sendNotice p m k).slots = s.slots :=
  (congrArg State.slots (State.sendNotice_frame s p m k) :)
@[simp] theorem State.sendNotice_bindings (s : State) (p m : Nat) (k : Option Nat) : (s.sendNotice p m k).bindings = s.bindings :=
  (congrArg State.bindings (State.sendNotice_frame s p m k) :)
@[simp] theorem State.sendNotice_running (s : State) (p m : Nat) (k : Option Nat) : (s.sendNotice p m k).running = s.running :=
  (congrArg State.running (State.sendNotice_frame s p m k) :)
@[simp] theorem State.sendNotice_stalled (s : State) (p m : Nat) (k : Option Nat) : (s.sendNotice p m k).stalled = s.stalled :=
  (congrArg State.stalled (State.sendNotice_frame s p m k) :)
@[simp] theorem State.sendNotice_transfers (s : State) (p m : Nat) (k : Option Nat) : (s.sendNotice p m k).transfers = s.transfers :=
  (congrArg State.transfers (State.sendNotice_frame s p m k) :)
@[simp] theorem State.sendNotice_grids (s : State) (p m : Nat) (k : Option Nat) : (s.sendNotice p m k).grids = s.grids :=
  (congrArg State.grids (State.sendNotice_frame s p m k) :)
@[simp] theorem State.sendNotice_coll (s : State) (p m : Nat) (k : Option Nat) : (s.sendNotice p m k).coll = s.coll :=
  (congrArg State.coll (State.sendNotice_frame s p m k) :)
@[simp] theorem State.sendNotice_jobs (s : State) (p m : Nat) (k : Option Nat) : (s.sendNotice p m k).jobs = s.jobs :=
  (congrArg State.jobs (State.sendNotice_frame s p m k) :)
@[simp] theorem State.sendNotice_parts (s : State) (p m : Nat) (k : Option Nat) : (s.sendNotice p m k).parts = s.parts :=
  (congrArg State.parts (State.sendNotice_frame s p m k) :)
@[simp] theorem State.sendNotice_sec (s : State) (p m : Nat) (k : Option Nat) : (s.sendNotice p m k).sec = s.sec :=
  (congrArg State.sec (State.sendNotice_frame s p m k) :)
@[simp] theorem State.sendNotice_mgmt (s : State) (p m : Nat) (k : Option Nat) : (s.sendNotice p m k).mgmt = s.mgmt :=
  (congrArg State.mgmt (State.sendNotice_frame s p m k) :)
@[simp] theorem State.sendNotice_fw (s : State) (p m : Nat) (k : Option Nat) : (s.sendNotice p m k).fw = s.fw :=
  (congrArg State.fw (State.sendNotice_frame s p m k) :)

/-! ### `State.pauseRequest` -/

theorem State.pauseRequest_frame (s : State) (p : Nat) :
    { s.pauseRequest p with fabric := s.fabric, grids := s.grids } = s := by
  unfold State.pauseRequest; dsimp only; split; · rfl
  · exact congrArg (fun t : State => { t with fabric := s.fabric, grids := s.grids }) (State.sendNotice_frame _ p _ none)

@[simp] theorem State.pauseRequest_pending (s : State) (p : Nat) : (s.pauseRequest p).pending = s.pending :=
  (congrArg State.pending (State.pauseRequest_frame s p) :)
@[simp] theorem State.pauseRequest_freeCount (s : State) (p : Nat) : (s.pauseRequest p).freeCount = s.freeCount :=
  (congrArg State.freeCount (State.pauseRequest_frame s p) :)
@[simp] theorem State.pauseRequest_now (s : State) (p : Nat) : (s.pauseRequest p).now = s.now :=
  (congrArg State.now (State.pauseRequest_frame s p) :)
@[simp] theorem State.pauseRequest_dict (s : State) (p : Nat) : (s.pauseRequest p).dict = s.dict :=
  (congrArg State.dict (State.pauseRequest_frame s p) :)
@[simp] theorem State.pauseRequest_staged (s : State) (p : Nat) : (s.pauseRequest p).staged = s.staged :=
  (congrArg State.staged (State.pauseRequest_frame s p) :)
@[simp] theorem State.pauseRequest_locks (s : State) (p : Nat) : (s.pauseRequest p).locks = s.locks :=
  (congrArg State.locks (State.pauseRequest_frame s p) :)
@[simp] theorem State.pauseRequest_owed (s : State) (p : Nat) : (s.pauseRequest p).owed = s.owed :=
  (congrArg State.owed (State.pauseRequest_frame s p) :)
@[simp] theorem State.pauseRequest_expert (s : State) (p : Nat) : (s.pauseRequest p).expert = s.expert :=
  (congrArg State.expert (State.pauseRequest_frame s p) :)
@[simp] theorem State.pauseRequest_mbox (s : State) (p : Nat) : (s.pauseRequest p).mbox = s.mbox :=
  (congrArg State.mbox (State.pauseRequest_frame s p) :)
@[simp] theorem State.pauseRequest_views (s : State) (p : Nat) : (s.pauseRequest p).views = s.views :=
  (congrArg State.views (State.pauseRequest_frame s p) :)
@[simp] theorem State.pauseRequest_msix (s : State) (p : Nat) : (s.pauseRequest p).msix = s.msix :=
  (congrArg State.msix (State.pauseRequest_frame s p) :)
@[simp] theorem State.pauseRequest_vectors (s : State) (p : Nat) : (s.pauseRequest p).vectors = s.vectors :=
  (congrArg State.vectors (State.pauseRequest_frame s p) :)
@[simp] theorem State.pauseRequest_completed (s : State) (p : Nat) : (s.pauseRequest p).completed = s.completed :=
  (congrArg State.completed (State.pauseRequest_frame s p) :)
@[simp] theorem State.pauseRequest_power (s : State) (p : Nat) : (s.pauseRequest p).power = s.power :=
  (congrArg State.power (State.pauseRequest_frame s p) :)
@[simp] theorem State.pauseRequest_objs (s : State) (p : Nat) : (s.pauseRequest p).objs = s.objs :=
  (congrArg State.objs (State.pauseRequest_frame s p) :)
@[simp] theorem State.pauseRequest_mem (s : State) (p : Nat) : (s.pauseRequest p).mem = s.mem :=
  (congrArg State.mem (State.pauseRequest_frame s p) :)
@[simp] theorem State.pauseRequest_tier (s : State) (p : Nat) : (s.pauseRequest p).tier = s.tier :=
  (congrArg State.tier (State.pauseRequest_frame s p) :)
@[simp] theorem State.pauseRequest_enc (s : State) (p : Nat) : (s.pauseRequest p).enc = s.enc :=
  (congrArg State.enc (State.pauseRequest_frame s p) :)
@[simp] theorem State.pauseRequest_held (s : State) (p : Nat) : (s.pauseRequest p).held = s.held :=
  (congrArg State.held (State.pauseRequest_frame s p) :)
@[simp] theorem State.pauseRequest_slots (s : State) (p : Nat) : (s.pauseRequest p).slots = s.slots :=
  (congrArg State.slots (State.pauseRequest_frame s p) :)
@[simp] theorem State.pauseRequest_bindings (s : State) (p : Nat) : (s.pauseRequest p).bindings = s.bindings :=
  (congrArg State.bindings (State.pauseRequest_frame s p) :)
@[simp] theorem State.pauseRequest_running (s : State) (p : Nat) : (s.pauseRequest p).running = s.running :=
  (congrArg State.running (State.pauseRequest_frame s p) :)
@[simp] theorem State.pauseRequest_stalled (s : State) (p : Nat) : (s.pauseRequest p).stalled = s.stalled :=
  (congrArg State.stalled (State.pauseRequest_frame s p) :)
@[simp] theorem State.pauseRequest_transfers (s : State) (p : Nat) : (s.pauseRequest p).transfers = s.transfers :=
  (congrArg State.transfers (State.pauseRequest_frame s p) :)
@[simp] theorem State.pauseRequest_coll (s : State) (p : Nat) : (s.pauseRequest p).coll = s.coll :=
  (congrArg State.coll (State.pauseRequest_frame s p) :)
@[simp] theorem State.pauseRequest_jobs (s : State) (p : Nat) : (s.pauseRequest p).jobs = s.jobs :=
  (congrArg State.jobs (State.pauseRequest_frame s p) :)
@[simp] theorem State.pauseRequest_parts (s : State) (p : Nat) : (s.pauseRequest p).parts = s.parts :=
  (congrArg State.parts (State.pauseRequest_frame s p) :)
@[simp] theorem State.pauseRequest_sec (s : State) (p : Nat) : (s.pauseRequest p).sec = s.sec :=
  (congrArg State.sec (State.pauseRequest_frame s p) :)
@[simp] theorem State.pauseRequest_mgmt (s : State) (p : Nat) : (s.pauseRequest p).mgmt = s.mgmt :=
  (congrArg State.mgmt (State.pauseRequest_frame s p) :)
@[simp] theorem State.pauseRequest_fw (s : State) (p : Nat) : (s.pauseRequest p).fw = s.fw :=
  (congrArg State.fw (State.pauseRequest_frame s p) :)

/-! ### `State.dropHeld` -/

theorem State.dropHeld_frame (s : State) (p : Nat) : { s.dropHeld p with held := s.held } = s := rfl

@[simp] theorem State.dropHeld_pending (s : State) (p : Nat) : (s.dropHeld p).pending = s.pending :=
  (congrArg State.pending (State.dropHeld_frame s p) :)
@[simp] theorem State.dropHeld_freeCount (s : State) (p : Nat) : (s.dropHeld p).freeCount = s.freeCount :=
  (congrArg State.freeCount (State.dropHeld_frame s p) :)
@[simp] theorem State.dropHeld_now (s : State) (p : Nat) : (s.dropHeld p).now = s.now :=
  (congrArg State.now (State.dropHeld_frame s p) :)
@[simp] theorem State.dropHeld_dict (s : State) (p : Nat) : (s.dropHeld p).dict = s.dict :=
  (congrArg State.dict (State.dropHeld_frame s p) :)
@[simp] theorem State.dropHeld_staged (s : State) (p : Nat) : (s.dropHeld p).staged = s.staged :=
  (congrArg State.staged (State.dropHeld_frame s p) :)
@[simp] theorem State.dropHeld_locks (s : State) (p : Nat) : (s.dropHeld p).locks = s.locks :=
  (congrArg State.locks (State.dropHeld_frame s p) :)
@[simp] theorem State.dropHeld_owed (s : State) (p : Nat) : (s.dropHeld p).owed = s.owed :=
  (congrArg State.owed (State.dropHeld_frame s p) :)
@[simp] theorem State.dropHeld_expert (s : State) (p : Nat) : (s.dropHeld p).expert = s.expert :=
  (congrArg State.expert (State.dropHeld_frame s p) :)
@[simp] theorem State.dropHeld_mbox (s : State) (p : Nat) : (s.dropHeld p).mbox = s.mbox :=
  (congrArg State.mbox (State.dropHeld_frame s p) :)
@[simp] theorem State.dropHeld_views (s : State) (p : Nat) : (s.dropHeld p).views = s.views :=
  (congrArg State.views (State.dropHeld_frame s p) :)
@[simp] theorem State.dropHeld_msix (s : State) (p : Nat) : (s.dropHeld p).msix = s.msix :=
  (congrArg State.msix (State.dropHeld_frame s p) :)
@[simp] theorem State.dropHeld_vectors (s : State) (p : Nat) : (s.dropHeld p).vectors = s.vectors :=
  (congrArg State.vectors (State.dropHeld_frame s p) :)
@[simp] theorem State.dropHeld_completed (s : State) (p : Nat) : (s.dropHeld p).completed = s.completed :=
  (congrArg State.completed (State.dropHeld_frame s p) :)
@[simp] theorem State.dropHeld_power (s : State) (p : Nat) : (s.dropHeld p).power = s.power :=
  (congrArg State.power (State.dropHeld_frame s p) :)
@[simp] theorem State.dropHeld_objs (s : State) (p : Nat) : (s.dropHeld p).objs = s.objs :=
  (congrArg State.objs (State.dropHeld_frame s p) :)
@[simp] theorem State.dropHeld_mem (s : State) (p : Nat) : (s.dropHeld p).mem = s.mem :=
  (congrArg State.mem (State.dropHeld_frame s p) :)
@[simp] theorem State.dropHeld_tier (s : State) (p : Nat) : (s.dropHeld p).tier = s.tier :=
  (congrArg State.tier (State.dropHeld_frame s p) :)
@[simp] theorem State.dropHeld_enc (s : State) (p : Nat) : (s.dropHeld p).enc = s.enc :=
  (congrArg State.enc (State.dropHeld_frame s p) :)
@[simp] theorem State.dropHeld_slots (s : State) (p : Nat) : (s.dropHeld p).slots = s.slots :=
  (congrArg State.slots (State.dropHeld_frame s p) :)
@[simp] theorem State.dropHeld_bindings (s : State) (p : Nat) : (s.dropHeld p).bindings = s.bindings :=
  (congrArg State.bindings (State.dropHeld_frame s p) :)
@[simp] theorem State.dropHeld_running (s : State) (p : Nat) : (s.dropHeld p).running = s.running :=
  (congrArg State.running (State.dropHeld_frame s p) :)
@[simp] theorem State.dropHeld_stalled (s : State) (p : Nat) : (s.dropHeld p).stalled = s.stalled :=
  (congrArg State.stalled (State.dropHeld_frame s p) :)
@[simp] theorem State.dropHeld_transfers (s : State) (p : Nat) : (s.dropHeld p).transfers = s.transfers :=
  (congrArg State.transfers (State.dropHeld_frame s p) :)
@[simp] theorem State.dropHeld_grids (s : State) (p : Nat) : (s.dropHeld p).grids = s.grids :=
  (congrArg State.grids (State.dropHeld_frame s p) :)
@[simp] theorem State.dropHeld_fabric (s : State) (p : Nat) : (s.dropHeld p).fabric = s.fabric :=
  (congrArg State.fabric (State.dropHeld_frame s p) :)
@[simp] theorem State.dropHeld_coll (s : State) (p : Nat) : (s.dropHeld p).coll = s.coll :=
  (congrArg State.coll (State.dropHeld_frame s p) :)
@[simp] theorem State.dropHeld_jobs (s : State) (p : Nat) : (s.dropHeld p).jobs = s.jobs :=
  (congrArg State.jobs (State.dropHeld_frame s p) :)
@[simp] theorem State.dropHeld_parts (s : State) (p : Nat) : (s.dropHeld p).parts = s.parts :=
  (congrArg State.parts (State.dropHeld_frame s p) :)
@[simp] theorem State.dropHeld_sec (s : State) (p : Nat) : (s.dropHeld p).sec = s.sec :=
  (congrArg State.sec (State.dropHeld_frame s p) :)
@[simp] theorem State.dropHeld_mgmt (s : State) (p : Nat) : (s.dropHeld p).mgmt = s.mgmt :=
  (congrArg State.mgmt (State.dropHeld_frame s p) :)
@[simp] theorem State.dropHeld_fw (s : State) (p : Nat) : (s.dropHeld p).fw = s.fw :=
  (congrArg State.fw (State.dropHeld_frame s p) :)

/-! ### `State.dropTransfers` -/

theorem State.dropTransfers_frame (s : State) (p : Nat) (r : Reason) :
    { s.dropTransfers p r with objs := s.objs, msix := s.msix, transfers := s.transfers, fabric := s.fabric } = s := by
  exact foldl_frame (fun t => { t with objs := s.objs, msix := s.msix, transfers := s.transfers, fabric := s.fabric }) _ (fun t x => congrArg (fun t : State => { t with objs := s.objs, msix := s.msix, transfers := s.transfers, fabric := s.fabric }) (State.latch_frame t x.fence r false)) _ s rfl

@[simp] theorem State.dropTransfers_pending (s : State) (p : Nat) (r : Reason) : (s.dropTransfers p r).pending = s.pending :=
  (congrArg State.pending (State.dropTransfers_frame s p r) :)
@[simp] theorem State.dropTransfers_freeCount (s : State) (p : Nat) (r : Reason) : (s.dropTransfers p r).freeCount = s.freeCount :=
  (congrArg State.freeCount (State.dropTransfers_frame s p r) :)
@[simp] theorem State.dropTransfers_now (s : State) (p : Nat) (r : Reason) : (s.dropTransfers p r).now = s.now :=
  (congrArg State.now (State.dropTransfers_frame s p r) :)
@[simp] theorem State.dropTransfers_dict (s : State) (p : Nat) (r : Reason) : (s.dropTransfers p r).dict = s.dict :=
  (congrArg State.dict (State.dropTransfers_frame s p r) :)
@[simp] theorem State.dropTransfers_staged (s : State) (p : Nat) (r : Reason) : (s.dropTransfers p r).staged = s.staged :=
  (congrArg State.staged (State.dropTransfers_frame s p r) :)
@[simp] theorem State.dropTransfers_locks (s : State) (p : Nat) (r : Reason) : (s.dropTransfers p r).locks = s.locks :=
  (congrArg State.locks (State.dropTransfers_frame s p r) :)
@[simp] theorem State.dropTransfers_owed (s : State) (p : Nat) (r : Reason) : (s.dropTransfers p r).owed = s.owed :=
  (congrArg State.owed (State.dropTransfers_frame s p r) :)
@[simp] theorem State.dropTransfers_expert (s : State) (p : Nat) (r : Reason) : (s.dropTransfers p r).expert = s.expert :=
  (congrArg State.expert (State.dropTransfers_frame s p r) :)
@[simp] theorem State.dropTransfers_mbox (s : State) (p : Nat) (r : Reason) : (s.dropTransfers p r).mbox = s.mbox :=
  (congrArg State.mbox (State.dropTransfers_frame s p r) :)
@[simp] theorem State.dropTransfers_views (s : State) (p : Nat) (r : Reason) : (s.dropTransfers p r).views = s.views :=
  (congrArg State.views (State.dropTransfers_frame s p r) :)
@[simp] theorem State.dropTransfers_vectors (s : State) (p : Nat) (r : Reason) : (s.dropTransfers p r).vectors = s.vectors :=
  (congrArg State.vectors (State.dropTransfers_frame s p r) :)
@[simp] theorem State.dropTransfers_completed (s : State) (p : Nat) (r : Reason) : (s.dropTransfers p r).completed = s.completed :=
  (congrArg State.completed (State.dropTransfers_frame s p r) :)
@[simp] theorem State.dropTransfers_power (s : State) (p : Nat) (r : Reason) : (s.dropTransfers p r).power = s.power :=
  (congrArg State.power (State.dropTransfers_frame s p r) :)
@[simp] theorem State.dropTransfers_mem (s : State) (p : Nat) (r : Reason) : (s.dropTransfers p r).mem = s.mem :=
  (congrArg State.mem (State.dropTransfers_frame s p r) :)
@[simp] theorem State.dropTransfers_tier (s : State) (p : Nat) (r : Reason) : (s.dropTransfers p r).tier = s.tier :=
  (congrArg State.tier (State.dropTransfers_frame s p r) :)
@[simp] theorem State.dropTransfers_enc (s : State) (p : Nat) (r : Reason) : (s.dropTransfers p r).enc = s.enc :=
  (congrArg State.enc (State.dropTransfers_frame s p r) :)
@[simp] theorem State.dropTransfers_held (s : State) (p : Nat) (r : Reason) : (s.dropTransfers p r).held = s.held :=
  (congrArg State.held (State.dropTransfers_frame s p r) :)
@[simp] theorem State.dropTransfers_slots (s : State) (p : Nat) (r : Reason) : (s.dropTransfers p r).slots = s.slots :=
  (congrArg State.slots (State.dropTransfers_frame s p r) :)
@[simp] theorem State.dropTransfers_bindings (s : State) (p : Nat) (r : Reason) : (s.dropTransfers p r).bindings = s.bindings :=
  (congrArg State.bindings (State.dropTransfers_frame s p r) :)
@[simp] theorem State.dropTransfers_running (s : State) (p : Nat) (r : Reason) : (s.dropTransfers p r).running = s.running :=
  (congrArg State.running (State.dropTransfers_frame s p r) :)
@[simp] theorem State.dropTransfers_stalled (s : State) (p : Nat) (r : Reason) : (s.dropTransfers p r).stalled = s.stalled :=
  (congrArg State.stalled (State.dropTransfers_frame s p r) :)
@[simp] theorem State.dropTransfers_grids (s : State) (p : Nat) (r : Reason) : (s.dropTransfers p r).grids = s.grids :=
  (congrArg State.grids (State.dropTransfers_frame s p r) :)
@[simp] theorem State.dropTransfers_coll (s : State) (p : Nat) (r : Reason) : (s.dropTransfers p r).coll = s.coll :=
  (congrArg State.coll (State.dropTransfers_frame s p r) :)
@[simp] theorem State.dropTransfers_jobs (s : State) (p : Nat) (r : Reason) : (s.dropTransfers p r).jobs = s.jobs :=
  (congrArg State.jobs (State.dropTransfers_frame s p r) :)
@[simp] theorem State.dropTransfers_parts (s : State) (p : Nat) (r : Reason) : (s.dropTransfers p r).parts = s.parts :=
  (congrArg State.parts (State.dropTransfers_frame s p r) :)
@[simp] theorem State.dropTransfers_sec (s : State) (p : Nat) (r : Reason) : (s.dropTransfers p r).sec = s.sec :=
  (congrArg State.sec (State.dropTransfers_frame s p r) :)
@[simp] theorem State.dropTransfers_mgmt (s : State) (p : Nat) (r : Reason) : (s.dropTransfers p r).mgmt = s.mgmt :=
  (congrArg State.mgmt (State.dropTransfers_frame s p r) :)
@[simp] theorem State.dropTransfers_fw (s : State) (p : Nat) (r : Reason) : (s.dropTransfers p r).fw = s.fw :=
  (congrArg State.fw (State.dropTransfers_frame s p r) :)

/-! ### `State.dropColl` -/

theorem State.dropColl_frame (s : State) (p : Nat) : { s.dropColl p with coll := s.coll, dict := s.dict } = s := rfl

@[simp] theorem State.dropColl_pending (s : State) (p : Nat) : (s.dropColl p).pending = s.pending :=
  (congrArg State.pending (State.dropColl_frame s p) :)
@[simp] theorem State.dropColl_freeCount (s : State) (p : Nat) : (s.dropColl p).freeCount = s.freeCount :=
  (congrArg State.freeCount (State.dropColl_frame s p) :)
@[simp] theorem State.dropColl_now (s : State) (p : Nat) : (s.dropColl p).now = s.now :=
  (congrArg State.now (State.dropColl_frame s p) :)
@[simp] theorem State.dropColl_staged (s : State) (p : Nat) : (s.dropColl p).staged = s.staged :=
  (congrArg State.staged (State.dropColl_frame s p) :)
@[simp] theorem State.dropColl_locks (s : State) (p : Nat) : (s.dropColl p).locks = s.locks :=
  (congrArg State.locks (State.dropColl_frame s p) :)
@[simp] theorem State.dropColl_owed (s : State) (p : Nat) : (s.dropColl p).owed = s.owed :=
  (congrArg State.owed (State.dropColl_frame s p) :)
@[simp] theorem State.dropColl_expert (s : State) (p : Nat) : (s.dropColl p).expert = s.expert :=
  (congrArg State.expert (State.dropColl_frame s p) :)
@[simp] theorem State.dropColl_mbox (s : State) (p : Nat) : (s.dropColl p).mbox = s.mbox :=
  (congrArg State.mbox (State.dropColl_frame s p) :)
@[simp] theorem State.dropColl_views (s : State) (p : Nat) : (s.dropColl p).views = s.views :=
  (congrArg State.views (State.dropColl_frame s p) :)
@[simp] theorem State.dropColl_msix (s : State) (p : Nat) : (s.dropColl p).msix = s.msix :=
  (congrArg State.msix (State.dropColl_frame s p) :)
@[simp] theorem State.dropColl_vectors (s : State) (p : Nat) : (s.dropColl p).vectors = s.vectors :=
  (congrArg State.vectors (State.dropColl_frame s p) :)
@[simp] theorem State.dropColl_completed (s : State) (p : Nat) : (s.dropColl p).completed = s.completed :=
  (congrArg State.completed (State.dropColl_frame s p) :)
@[simp] theorem State.dropColl_power (s : State) (p : Nat) : (s.dropColl p).power = s.power :=
  (congrArg State.power (State.dropColl_frame s p) :)
@[simp] theorem State.dropColl_objs (s : State) (p : Nat) : (s.dropColl p).objs = s.objs :=
  (congrArg State.objs (State.dropColl_frame s p) :)
@[simp] theorem State.dropColl_mem (s : State) (p : Nat) : (s.dropColl p).mem = s.mem :=
  (congrArg State.mem (State.dropColl_frame s p) :)
@[simp] theorem State.dropColl_tier (s : State) (p : Nat) : (s.dropColl p).tier = s.tier :=
  (congrArg State.tier (State.dropColl_frame s p) :)
@[simp] theorem State.dropColl_enc (s : State) (p : Nat) : (s.dropColl p).enc = s.enc :=
  (congrArg State.enc (State.dropColl_frame s p) :)
@[simp] theorem State.dropColl_held (s : State) (p : Nat) : (s.dropColl p).held = s.held :=
  (congrArg State.held (State.dropColl_frame s p) :)
@[simp] theorem State.dropColl_slots (s : State) (p : Nat) : (s.dropColl p).slots = s.slots :=
  (congrArg State.slots (State.dropColl_frame s p) :)
@[simp] theorem State.dropColl_bindings (s : State) (p : Nat) : (s.dropColl p).bindings = s.bindings :=
  (congrArg State.bindings (State.dropColl_frame s p) :)
@[simp] theorem State.dropColl_running (s : State) (p : Nat) : (s.dropColl p).running = s.running :=
  (congrArg State.running (State.dropColl_frame s p) :)
@[simp] theorem State.dropColl_stalled (s : State) (p : Nat) : (s.dropColl p).stalled = s.stalled :=
  (congrArg State.stalled (State.dropColl_frame s p) :)
@[simp] theorem State.dropColl_transfers (s : State) (p : Nat) : (s.dropColl p).transfers = s.transfers :=
  (congrArg State.transfers (State.dropColl_frame s p) :)
@[simp] theorem State.dropColl_grids (s : State) (p : Nat) : (s.dropColl p).grids = s.grids :=
  (congrArg State.grids (State.dropColl_frame s p) :)
@[simp] theorem State.dropColl_fabric (s : State) (p : Nat) : (s.dropColl p).fabric = s.fabric :=
  (congrArg State.fabric (State.dropColl_frame s p) :)
@[simp] theorem State.dropColl_jobs (s : State) (p : Nat) : (s.dropColl p).jobs = s.jobs :=
  (congrArg State.jobs (State.dropColl_frame s p) :)
@[simp] theorem State.dropColl_parts (s : State) (p : Nat) : (s.dropColl p).parts = s.parts :=
  (congrArg State.parts (State.dropColl_frame s p) :)
@[simp] theorem State.dropColl_sec (s : State) (p : Nat) : (s.dropColl p).sec = s.sec :=
  (congrArg State.sec (State.dropColl_frame s p) :)
@[simp] theorem State.dropColl_mgmt (s : State) (p : Nat) : (s.dropColl p).mgmt = s.mgmt :=
  (congrArg State.mgmt (State.dropColl_frame s p) :)
@[simp] theorem State.dropColl_fw (s : State) (p : Nat) : (s.dropColl p).fw = s.fw :=
  (congrArg State.fw (State.dropColl_frame s p) :)

/-! ### `State.voidSnapshot` -/

theorem State.voidSnapshot_frame (s : State) (p : Nat) :
    { s.voidSnapshot p with jobs := s.jobs, dict := s.dict } = s := by
  unfold State.voidSnapshot; split <;> rfl

@[simp] theorem State.voidSnapshot_pending (s : State) (p : Nat) : (s.voidSnapshot p).pending = s.pending :=
  (congrArg State.pending (State.voidSnapshot_frame s p) :)
@[simp] theorem State.voidSnapshot_freeCount (s : State) (p : Nat) : (s.voidSnapshot p).freeCount = s.freeCount :=
  (congrArg State.freeCount (State.voidSnapshot_frame s p) :)
@[simp] theorem State.voidSnapshot_now (s : State) (p : Nat) : (s.voidSnapshot p).now = s.now :=
  (congrArg State.now (State.voidSnapshot_frame s p) :)
@[simp] theorem State.voidSnapshot_staged (s : State) (p : Nat) : (s.voidSnapshot p).staged = s.staged :=
  (congrArg State.staged (State.voidSnapshot_frame s p) :)
@[simp] theorem State.voidSnapshot_locks (s : State) (p : Nat) : (s.voidSnapshot p).locks = s.locks :=
  (congrArg State.locks (State.voidSnapshot_frame s p) :)
@[simp] theorem State.voidSnapshot_owed (s : State) (p : Nat) : (s.voidSnapshot p).owed = s.owed :=
  (congrArg State.owed (State.voidSnapshot_frame s p) :)
@[simp] theorem State.voidSnapshot_expert (s : State) (p : Nat) : (s.voidSnapshot p).expert = s.expert :=
  (congrArg State.expert (State.voidSnapshot_frame s p) :)
@[simp] theorem State.voidSnapshot_mbox (s : State) (p : Nat) : (s.voidSnapshot p).mbox = s.mbox :=
  (congrArg State.mbox (State.voidSnapshot_frame s p) :)
@[simp] theorem State.voidSnapshot_views (s : State) (p : Nat) : (s.voidSnapshot p).views = s.views :=
  (congrArg State.views (State.voidSnapshot_frame s p) :)
@[simp] theorem State.voidSnapshot_msix (s : State) (p : Nat) : (s.voidSnapshot p).msix = s.msix :=
  (congrArg State.msix (State.voidSnapshot_frame s p) :)
@[simp] theorem State.voidSnapshot_vectors (s : State) (p : Nat) : (s.voidSnapshot p).vectors = s.vectors :=
  (congrArg State.vectors (State.voidSnapshot_frame s p) :)
@[simp] theorem State.voidSnapshot_completed (s : State) (p : Nat) : (s.voidSnapshot p).completed = s.completed :=
  (congrArg State.completed (State.voidSnapshot_frame s p) :)
@[simp] theorem State.voidSnapshot_power (s : State) (p : Nat) : (s.voidSnapshot p).power = s.power :=
  (congrArg State.power (State.voidSnapshot_frame s p) :)
@[simp] theorem State.voidSnapshot_objs (s : State) (p : Nat) : (s.voidSnapshot p).objs = s.objs :=
  (congrArg State.objs (State.voidSnapshot_frame s p) :)
@[simp] theorem State.voidSnapshot_mem (s : State) (p : Nat) : (s.voidSnapshot p).mem = s.mem :=
  (congrArg State.mem (State.voidSnapshot_frame s p) :)
@[simp] theorem State.voidSnapshot_tier (s : State) (p : Nat) : (s.voidSnapshot p).tier = s.tier :=
  (congrArg State.tier (State.voidSnapshot_frame s p) :)
@[simp] theorem State.voidSnapshot_enc (s : State) (p : Nat) : (s.voidSnapshot p).enc = s.enc :=
  (congrArg State.enc (State.voidSnapshot_frame s p) :)
@[simp] theorem State.voidSnapshot_held (s : State) (p : Nat) : (s.voidSnapshot p).held = s.held :=
  (congrArg State.held (State.voidSnapshot_frame s p) :)
@[simp] theorem State.voidSnapshot_slots (s : State) (p : Nat) : (s.voidSnapshot p).slots = s.slots :=
  (congrArg State.slots (State.voidSnapshot_frame s p) :)
@[simp] theorem State.voidSnapshot_bindings (s : State) (p : Nat) : (s.voidSnapshot p).bindings = s.bindings :=
  (congrArg State.bindings (State.voidSnapshot_frame s p) :)
@[simp] theorem State.voidSnapshot_running (s : State) (p : Nat) : (s.voidSnapshot p).running = s.running :=
  (congrArg State.running (State.voidSnapshot_frame s p) :)
@[simp] theorem State.voidSnapshot_stalled (s : State) (p : Nat) : (s.voidSnapshot p).stalled = s.stalled :=
  (congrArg State.stalled (State.voidSnapshot_frame s p) :)
@[simp] theorem State.voidSnapshot_transfers (s : State) (p : Nat) : (s.voidSnapshot p).transfers = s.transfers :=
  (congrArg State.transfers (State.voidSnapshot_frame s p) :)
@[simp] theorem State.voidSnapshot_grids (s : State) (p : Nat) : (s.voidSnapshot p).grids = s.grids :=
  (congrArg State.grids (State.voidSnapshot_frame s p) :)
@[simp] theorem State.voidSnapshot_fabric (s : State) (p : Nat) : (s.voidSnapshot p).fabric = s.fabric :=
  (congrArg State.fabric (State.voidSnapshot_frame s p) :)
@[simp] theorem State.voidSnapshot_coll (s : State) (p : Nat) : (s.voidSnapshot p).coll = s.coll :=
  (congrArg State.coll (State.voidSnapshot_frame s p) :)
@[simp] theorem State.voidSnapshot_parts (s : State) (p : Nat) : (s.voidSnapshot p).parts = s.parts :=
  (congrArg State.parts (State.voidSnapshot_frame s p) :)
@[simp] theorem State.voidSnapshot_sec (s : State) (p : Nat) : (s.voidSnapshot p).sec = s.sec :=
  (congrArg State.sec (State.voidSnapshot_frame s p) :)
@[simp] theorem State.voidSnapshot_mgmt (s : State) (p : Nat) : (s.voidSnapshot p).mgmt = s.mgmt :=
  (congrArg State.mgmt (State.voidSnapshot_frame s p) :)
@[simp] theorem State.voidSnapshot_fw (s : State) (p : Nat) : (s.voidSnapshot p).fw = s.fw :=
  (congrArg State.fw (State.voidSnapshot_frame s p) :)

/-! ### `State.shrinkFrom` -/

theorem State.shrinkFrom_frame (s : State) (p t : Nat) :
    { s.shrinkFrom p t with jobs := s.jobs, dict := s.dict, grids := s.grids, fabric := s.fabric } = s := by
  unfold State.shrinkFrom; dsimp only; split
  · exact congrArg (fun t : State => { t with jobs := s.jobs, dict := s.dict, grids := s.grids, fabric := s.fabric }) (State.voidSnapshot_frame s p)
  · exact congrArg (fun t : State => { t with jobs := s.jobs, dict := s.dict, grids := s.grids, fabric := s.fabric }) (State.voidSnapshot_frame s p)

@[simp] theorem State.shrinkFrom_pending (s : State) (p t : Nat) : (s.shrinkFrom p t).pending = s.pending :=
  (congrArg State.pending (State.shrinkFrom_frame s p t) :)
@[simp] theorem State.shrinkFrom_freeCount (s : State) (p t : Nat) : (s.shrinkFrom p t).freeCount = s.freeCount :=
  (congrArg State.freeCount (State.shrinkFrom_frame s p t) :)
@[simp] theorem State.shrinkFrom_now (s : State) (p t : Nat) : (s.shrinkFrom p t).now = s.now :=
  (congrArg State.now (State.shrinkFrom_frame s p t) :)
@[simp] theorem State.shrinkFrom_staged (s : State) (p t : Nat) : (s.shrinkFrom p t).staged = s.staged :=
  (congrArg State.staged (State.shrinkFrom_frame s p t) :)
@[simp] theorem State.shrinkFrom_locks (s : State) (p t : Nat) : (s.shrinkFrom p t).locks = s.locks :=
  (congrArg State.locks (State.shrinkFrom_frame s p t) :)
@[simp] theorem State.shrinkFrom_owed (s : State) (p t : Nat) : (s.shrinkFrom p t).owed = s.owed :=
  (congrArg State.owed (State.shrinkFrom_frame s p t) :)
@[simp] theorem State.shrinkFrom_expert (s : State) (p t : Nat) : (s.shrinkFrom p t).expert = s.expert :=
  (congrArg State.expert (State.shrinkFrom_frame s p t) :)
@[simp] theorem State.shrinkFrom_mbox (s : State) (p t : Nat) : (s.shrinkFrom p t).mbox = s.mbox :=
  (congrArg State.mbox (State.shrinkFrom_frame s p t) :)
@[simp] theorem State.shrinkFrom_views (s : State) (p t : Nat) : (s.shrinkFrom p t).views = s.views :=
  (congrArg State.views (State.shrinkFrom_frame s p t) :)
@[simp] theorem State.shrinkFrom_msix (s : State) (p t : Nat) : (s.shrinkFrom p t).msix = s.msix :=
  (congrArg State.msix (State.shrinkFrom_frame s p t) :)
@[simp] theorem State.shrinkFrom_vectors (s : State) (p t : Nat) : (s.shrinkFrom p t).vectors = s.vectors :=
  (congrArg State.vectors (State.shrinkFrom_frame s p t) :)
@[simp] theorem State.shrinkFrom_completed (s : State) (p t : Nat) : (s.shrinkFrom p t).completed = s.completed :=
  (congrArg State.completed (State.shrinkFrom_frame s p t) :)
@[simp] theorem State.shrinkFrom_power (s : State) (p t : Nat) : (s.shrinkFrom p t).power = s.power :=
  (congrArg State.power (State.shrinkFrom_frame s p t) :)
@[simp] theorem State.shrinkFrom_objs (s : State) (p t : Nat) : (s.shrinkFrom p t).objs = s.objs :=
  (congrArg State.objs (State.shrinkFrom_frame s p t) :)
@[simp] theorem State.shrinkFrom_mem (s : State) (p t : Nat) : (s.shrinkFrom p t).mem = s.mem :=
  (congrArg State.mem (State.shrinkFrom_frame s p t) :)
@[simp] theorem State.shrinkFrom_tier (s : State) (p t : Nat) : (s.shrinkFrom p t).tier = s.tier :=
  (congrArg State.tier (State.shrinkFrom_frame s p t) :)
@[simp] theorem State.shrinkFrom_enc (s : State) (p t : Nat) : (s.shrinkFrom p t).enc = s.enc :=
  (congrArg State.enc (State.shrinkFrom_frame s p t) :)
@[simp] theorem State.shrinkFrom_held (s : State) (p t : Nat) : (s.shrinkFrom p t).held = s.held :=
  (congrArg State.held (State.shrinkFrom_frame s p t) :)
@[simp] theorem State.shrinkFrom_slots (s : State) (p t : Nat) : (s.shrinkFrom p t).slots = s.slots :=
  (congrArg State.slots (State.shrinkFrom_frame s p t) :)
@[simp] theorem State.shrinkFrom_bindings (s : State) (p t : Nat) : (s.shrinkFrom p t).bindings = s.bindings :=
  (congrArg State.bindings (State.shrinkFrom_frame s p t) :)
@[simp] theorem State.shrinkFrom_running (s : State) (p t : Nat) : (s.shrinkFrom p t).running = s.running :=
  (congrArg State.running (State.shrinkFrom_frame s p t) :)
@[simp] theorem State.shrinkFrom_stalled (s : State) (p t : Nat) : (s.shrinkFrom p t).stalled = s.stalled :=
  (congrArg State.stalled (State.shrinkFrom_frame s p t) :)
@[simp] theorem State.shrinkFrom_transfers (s : State) (p t : Nat) : (s.shrinkFrom p t).transfers = s.transfers :=
  (congrArg State.transfers (State.shrinkFrom_frame s p t) :)
@[simp] theorem State.shrinkFrom_coll (s : State) (p t : Nat) : (s.shrinkFrom p t).coll = s.coll :=
  (congrArg State.coll (State.shrinkFrom_frame s p t) :)
@[simp] theorem State.shrinkFrom_parts (s : State) (p t : Nat) : (s.shrinkFrom p t).parts = s.parts :=
  (congrArg State.parts (State.shrinkFrom_frame s p t) :)
@[simp] theorem State.shrinkFrom_sec (s : State) (p t : Nat) : (s.shrinkFrom p t).sec = s.sec :=
  (congrArg State.sec (State.shrinkFrom_frame s p t) :)
@[simp] theorem State.shrinkFrom_mgmt (s : State) (p t : Nat) : (s.shrinkFrom p t).mgmt = s.mgmt :=
  (congrArg State.mgmt (State.shrinkFrom_frame s p t) :)
@[simp] theorem State.shrinkFrom_fw (s : State) (p t : Nat) : (s.shrinkFrom p t).fw = s.fw :=
  (congrArg State.fw (State.shrinkFrom_frame s p t) :)

/-! ### `State.lateFor` -/

theorem State.lateFor_frame (s : State) (p u n : Nat) :
    { s.lateFor p u n with grids := s.grids, dict := s.dict, mgmt := s.mgmt } = s := by
  unfold State.lateFor; dsimp only; split; · rfl
  · split
    · rfl
    · exact congrArg (fun t : State => { t with grids := s.grids, dict := s.dict, mgmt := s.mgmt }) (State.event_frame _ 0x01020011 0 p)

@[simp] theorem State.lateFor_pending (s : State) (p u n : Nat) : (s.lateFor p u n).pending = s.pending :=
  (congrArg State.pending (State.lateFor_frame s p u n) :)
@[simp] theorem State.lateFor_freeCount (s : State) (p u n : Nat) : (s.lateFor p u n).freeCount = s.freeCount :=
  (congrArg State.freeCount (State.lateFor_frame s p u n) :)
@[simp] theorem State.lateFor_now (s : State) (p u n : Nat) : (s.lateFor p u n).now = s.now :=
  (congrArg State.now (State.lateFor_frame s p u n) :)
@[simp] theorem State.lateFor_staged (s : State) (p u n : Nat) : (s.lateFor p u n).staged = s.staged :=
  (congrArg State.staged (State.lateFor_frame s p u n) :)
@[simp] theorem State.lateFor_locks (s : State) (p u n : Nat) : (s.lateFor p u n).locks = s.locks :=
  (congrArg State.locks (State.lateFor_frame s p u n) :)
@[simp] theorem State.lateFor_owed (s : State) (p u n : Nat) : (s.lateFor p u n).owed = s.owed :=
  (congrArg State.owed (State.lateFor_frame s p u n) :)
@[simp] theorem State.lateFor_expert (s : State) (p u n : Nat) : (s.lateFor p u n).expert = s.expert :=
  (congrArg State.expert (State.lateFor_frame s p u n) :)
@[simp] theorem State.lateFor_mbox (s : State) (p u n : Nat) : (s.lateFor p u n).mbox = s.mbox :=
  (congrArg State.mbox (State.lateFor_frame s p u n) :)
@[simp] theorem State.lateFor_views (s : State) (p u n : Nat) : (s.lateFor p u n).views = s.views :=
  (congrArg State.views (State.lateFor_frame s p u n) :)
@[simp] theorem State.lateFor_msix (s : State) (p u n : Nat) : (s.lateFor p u n).msix = s.msix :=
  (congrArg State.msix (State.lateFor_frame s p u n) :)
@[simp] theorem State.lateFor_vectors (s : State) (p u n : Nat) : (s.lateFor p u n).vectors = s.vectors :=
  (congrArg State.vectors (State.lateFor_frame s p u n) :)
@[simp] theorem State.lateFor_completed (s : State) (p u n : Nat) : (s.lateFor p u n).completed = s.completed :=
  (congrArg State.completed (State.lateFor_frame s p u n) :)
@[simp] theorem State.lateFor_power (s : State) (p u n : Nat) : (s.lateFor p u n).power = s.power :=
  (congrArg State.power (State.lateFor_frame s p u n) :)
@[simp] theorem State.lateFor_objs (s : State) (p u n : Nat) : (s.lateFor p u n).objs = s.objs :=
  (congrArg State.objs (State.lateFor_frame s p u n) :)
@[simp] theorem State.lateFor_mem (s : State) (p u n : Nat) : (s.lateFor p u n).mem = s.mem :=
  (congrArg State.mem (State.lateFor_frame s p u n) :)
@[simp] theorem State.lateFor_tier (s : State) (p u n : Nat) : (s.lateFor p u n).tier = s.tier :=
  (congrArg State.tier (State.lateFor_frame s p u n) :)
@[simp] theorem State.lateFor_enc (s : State) (p u n : Nat) : (s.lateFor p u n).enc = s.enc :=
  (congrArg State.enc (State.lateFor_frame s p u n) :)
@[simp] theorem State.lateFor_held (s : State) (p u n : Nat) : (s.lateFor p u n).held = s.held :=
  (congrArg State.held (State.lateFor_frame s p u n) :)
@[simp] theorem State.lateFor_slots (s : State) (p u n : Nat) : (s.lateFor p u n).slots = s.slots :=
  (congrArg State.slots (State.lateFor_frame s p u n) :)
@[simp] theorem State.lateFor_bindings (s : State) (p u n : Nat) : (s.lateFor p u n).bindings = s.bindings :=
  (congrArg State.bindings (State.lateFor_frame s p u n) :)
@[simp] theorem State.lateFor_running (s : State) (p u n : Nat) : (s.lateFor p u n).running = s.running :=
  (congrArg State.running (State.lateFor_frame s p u n) :)
@[simp] theorem State.lateFor_stalled (s : State) (p u n : Nat) : (s.lateFor p u n).stalled = s.stalled :=
  (congrArg State.stalled (State.lateFor_frame s p u n) :)
@[simp] theorem State.lateFor_transfers (s : State) (p u n : Nat) : (s.lateFor p u n).transfers = s.transfers :=
  (congrArg State.transfers (State.lateFor_frame s p u n) :)
@[simp] theorem State.lateFor_fabric (s : State) (p u n : Nat) : (s.lateFor p u n).fabric = s.fabric :=
  (congrArg State.fabric (State.lateFor_frame s p u n) :)
@[simp] theorem State.lateFor_coll (s : State) (p u n : Nat) : (s.lateFor p u n).coll = s.coll :=
  (congrArg State.coll (State.lateFor_frame s p u n) :)
@[simp] theorem State.lateFor_jobs (s : State) (p u n : Nat) : (s.lateFor p u n).jobs = s.jobs :=
  (congrArg State.jobs (State.lateFor_frame s p u n) :)
@[simp] theorem State.lateFor_parts (s : State) (p u n : Nat) : (s.lateFor p u n).parts = s.parts :=
  (congrArg State.parts (State.lateFor_frame s p u n) :)
@[simp] theorem State.lateFor_sec (s : State) (p u n : Nat) : (s.lateFor p u n).sec = s.sec :=
  (congrArg State.sec (State.lateFor_frame s p u n) :)
@[simp] theorem State.lateFor_fw (s : State) (p u n : Nat) : (s.lateFor p u n).fw = s.fw :=
  (congrArg State.fw (State.lateFor_frame s p u n) :)

/-! ### `State.dropStalls` -/

theorem State.dropStalls_frame (s : State) (p : Nat) :
    { s.dropStalls p with stalled := s.stalled, grids := s.grids, dict := s.dict, mgmt := s.mgmt } = s := by
  exact foldl_frame (fun t => { t with stalled := s.stalled, grids := s.grids, dict := s.dict, mgmt := s.mgmt }) _ (fun t x => congrArg (fun t : State => { t with stalled := s.stalled, grids := s.grids, dict := s.dict, mgmt := s.mgmt }) (State.lateFor_frame t p x.unitId _)) _ s rfl

@[simp] theorem State.dropStalls_pending (s : State) (p : Nat) : (s.dropStalls p).pending = s.pending :=
  (congrArg State.pending (State.dropStalls_frame s p) :)
@[simp] theorem State.dropStalls_freeCount (s : State) (p : Nat) : (s.dropStalls p).freeCount = s.freeCount :=
  (congrArg State.freeCount (State.dropStalls_frame s p) :)
@[simp] theorem State.dropStalls_now (s : State) (p : Nat) : (s.dropStalls p).now = s.now :=
  (congrArg State.now (State.dropStalls_frame s p) :)
@[simp] theorem State.dropStalls_staged (s : State) (p : Nat) : (s.dropStalls p).staged = s.staged :=
  (congrArg State.staged (State.dropStalls_frame s p) :)
@[simp] theorem State.dropStalls_locks (s : State) (p : Nat) : (s.dropStalls p).locks = s.locks :=
  (congrArg State.locks (State.dropStalls_frame s p) :)
@[simp] theorem State.dropStalls_owed (s : State) (p : Nat) : (s.dropStalls p).owed = s.owed :=
  (congrArg State.owed (State.dropStalls_frame s p) :)
@[simp] theorem State.dropStalls_expert (s : State) (p : Nat) : (s.dropStalls p).expert = s.expert :=
  (congrArg State.expert (State.dropStalls_frame s p) :)
@[simp] theorem State.dropStalls_mbox (s : State) (p : Nat) : (s.dropStalls p).mbox = s.mbox :=
  (congrArg State.mbox (State.dropStalls_frame s p) :)
@[simp] theorem State.dropStalls_views (s : State) (p : Nat) : (s.dropStalls p).views = s.views :=
  (congrArg State.views (State.dropStalls_frame s p) :)
@[simp] theorem State.dropStalls_msix (s : State) (p : Nat) : (s.dropStalls p).msix = s.msix :=
  (congrArg State.msix (State.dropStalls_frame s p) :)
@[simp] theorem State.dropStalls_vectors (s : State) (p : Nat) : (s.dropStalls p).vectors = s.vectors :=
  (congrArg State.vectors (State.dropStalls_frame s p) :)
@[simp] theorem State.dropStalls_completed (s : State) (p : Nat) : (s.dropStalls p).completed = s.completed :=
  (congrArg State.completed (State.dropStalls_frame s p) :)
@[simp] theorem State.dropStalls_power (s : State) (p : Nat) : (s.dropStalls p).power = s.power :=
  (congrArg State.power (State.dropStalls_frame s p) :)
@[simp] theorem State.dropStalls_objs (s : State) (p : Nat) : (s.dropStalls p).objs = s.objs :=
  (congrArg State.objs (State.dropStalls_frame s p) :)
@[simp] theorem State.dropStalls_mem (s : State) (p : Nat) : (s.dropStalls p).mem = s.mem :=
  (congrArg State.mem (State.dropStalls_frame s p) :)
@[simp] theorem State.dropStalls_tier (s : State) (p : Nat) : (s.dropStalls p).tier = s.tier :=
  (congrArg State.tier (State.dropStalls_frame s p) :)
@[simp] theorem State.dropStalls_enc (s : State) (p : Nat) : (s.dropStalls p).enc = s.enc :=
  (congrArg State.enc (State.dropStalls_frame s p) :)
@[simp] theorem State.dropStalls_held (s : State) (p : Nat) : (s.dropStalls p).held = s.held :=
  (congrArg State.held (State.dropStalls_frame s p) :)
@[simp] theorem State.dropStalls_slots (s : State) (p : Nat) : (s.dropStalls p).slots = s.slots :=
  (congrArg State.slots (State.dropStalls_frame s p) :)
@[simp] theorem State.dropStalls_bindings (s : State) (p : Nat) : (s.dropStalls p).bindings = s.bindings :=
  (congrArg State.bindings (State.dropStalls_frame s p) :)
@[simp] theorem State.dropStalls_running (s : State) (p : Nat) : (s.dropStalls p).running = s.running :=
  (congrArg State.running (State.dropStalls_frame s p) :)
@[simp] theorem State.dropStalls_transfers (s : State) (p : Nat) : (s.dropStalls p).transfers = s.transfers :=
  (congrArg State.transfers (State.dropStalls_frame s p) :)
@[simp] theorem State.dropStalls_fabric (s : State) (p : Nat) : (s.dropStalls p).fabric = s.fabric :=
  (congrArg State.fabric (State.dropStalls_frame s p) :)
@[simp] theorem State.dropStalls_coll (s : State) (p : Nat) : (s.dropStalls p).coll = s.coll :=
  (congrArg State.coll (State.dropStalls_frame s p) :)
@[simp] theorem State.dropStalls_jobs (s : State) (p : Nat) : (s.dropStalls p).jobs = s.jobs :=
  (congrArg State.jobs (State.dropStalls_frame s p) :)
@[simp] theorem State.dropStalls_parts (s : State) (p : Nat) : (s.dropStalls p).parts = s.parts :=
  (congrArg State.parts (State.dropStalls_frame s p) :)
@[simp] theorem State.dropStalls_sec (s : State) (p : Nat) : (s.dropStalls p).sec = s.sec :=
  (congrArg State.sec (State.dropStalls_frame s p) :)
@[simp] theorem State.dropStalls_fw (s : State) (p : Nat) : (s.dropStalls p).fw = s.fw :=
  (congrArg State.fw (State.dropStalls_frame s p) :)

/-! ### `State.abortWith` -/

/-- What an abort leaves (R81): nothing but these parts of the state may change. -/
theorem State.abortWith_frame (s : State) (p : Nat) (r : Reason) (b : Bool) (t : Nat) (e : EventCode) :
    { s.abortWith p r b t e with grids := s.grids, running := s.running, stalled := s.stalled, held := s.held, objs := s.objs, msix := s.msix, transfers := s.transfers, coll := s.coll, dict := s.dict, jobs := s.jobs, mgmt := s.mgmt, parts := s.parts, views := s.views, fabric := s.fabric } = s := by
  unfold State.abortWith; dsimp only
  refine (congrArg (fun t : State => { t with grids := s.grids, running := s.running, stalled := s.stalled, held := s.held, objs := s.objs, msix := s.msix, transfers := s.transfers, coll := s.coll, dict := s.dict, jobs := s.jobs, mgmt := s.mgmt, parts := s.parts, views := s.views, fabric := s.fabric }) (State.setGenSource_frame _ p true)).trans ?_
  have hp : ∀ x : State, { x with grids := s.grids, running := s.running, stalled := s.stalled, held := s.held, objs := s.objs, msix := s.msix, transfers := s.transfers, coll := s.coll, dict := s.dict, jobs := s.jobs, mgmt := s.mgmt, parts := s.parts, views := s.views, fabric := s.fabric } = s → { (if (x.part p).state = stRunning then x.setPartState p stHeld else x) with grids := s.grids, running := s.running, stalled := s.stalled, held := s.held, objs := s.objs, msix := s.msix, transfers := s.transfers, coll := s.coll, dict := s.dict, jobs := s.jobs, mgmt := s.mgmt, parts := s.parts, views := s.views, fabric := s.fabric } = s := by
    intro x hx; split
    · exact (congrArg (fun t : State => { t with grids := s.grids, running := s.running, stalled := s.stalled, held := s.held, objs := s.objs, msix := s.msix, transfers := s.transfers, coll := s.coll, dict := s.dict, jobs := s.jobs, mgmt := s.mgmt, parts := s.parts, views := s.views, fabric := s.fabric }) (State.setPartState_frame x p stHeld)).trans hx
    · exact hx
  refine hp _ ?_
  have he : ∀ x : State, { x with grids := s.grids, running := s.running, stalled := s.stalled, held := s.held, objs := s.objs, msix := s.msix, transfers := s.transfers, coll := s.coll, dict := s.dict, jobs := s.jobs, mgmt := s.mgmt, parts := s.parts, views := s.views, fabric := s.fabric } = s → { (if ((s.dropStalls p).grid p).inGust then x.event e r p else x) with grids := s.grids, running := s.running, stalled := s.stalled, held := s.held, objs := s.objs, msix := s.msix, transfers := s.transfers, coll := s.coll, dict := s.dict, jobs := s.jobs, mgmt := s.mgmt, parts := s.parts, views := s.views, fabric := s.fabric } = s := by
    intro x hx; split
    · exact (congrArg (fun t : State => { t with grids := s.grids, running := s.running, stalled := s.stalled, held := s.held, objs := s.objs, msix := s.msix, transfers := s.transfers, coll := s.coll, dict := s.dict, jobs := s.jobs, mgmt := s.mgmt, parts := s.parts, views := s.views, fabric := s.fabric }) (State.event_frame x e r p)).trans hx
    · exact hx
  refine he _ ?_
  refine (congrArg (fun t : State => { t with grids := s.grids, running := s.running, stalled := s.stalled, held := s.held, objs := s.objs, msix := s.msix, transfers := s.transfers, coll := s.coll, dict := s.dict, jobs := s.jobs, mgmt := s.mgmt, parts := s.parts, views := s.views, fabric := s.fabric }) (State.shrinkFrom_frame _ p _)).trans ?_
  refine foldl_frame (fun t => { t with grids := s.grids, running := s.running, stalled := s.stalled, held := s.held, objs := s.objs, msix := s.msix, transfers := s.transfers, coll := s.coll, dict := s.dict, jobs := s.jobs, mgmt := s.mgmt, parts := s.parts, views := s.views, fabric := s.fabric }) _ (fun t h => congrArg (fun t : State => { t with grids := s.grids, running := s.running, stalled := s.stalled, held := s.held, objs := s.objs, msix := s.msix, transfers := s.transfers, coll := s.coll, dict := s.dict, jobs := s.jobs, mgmt := s.mgmt, parts := s.parts, views := s.views, fabric := s.fabric }) (State.latch_frame t h r b)) _ _ ?_
  refine (congrArg (fun t : State => { t with grids := s.grids, running := s.running, stalled := s.stalled, held := s.held, objs := s.objs, msix := s.msix, transfers := s.transfers, coll := s.coll, dict := s.dict, jobs := s.jobs, mgmt := s.mgmt, parts := s.parts, views := s.views, fabric := s.fabric }) (State.dropTransfers_frame _ p r)).trans ?_
  exact congrArg (fun t : State => { t with grids := s.grids, running := s.running, stalled := s.stalled, held := s.held, objs := s.objs, msix := s.msix, transfers := s.transfers, coll := s.coll, dict := s.dict, jobs := s.jobs, mgmt := s.mgmt, parts := s.parts, views := s.views, fabric := s.fabric }) (State.dropStalls_frame s p)

@[simp] theorem State.abortWith_pending (s : State) (p : Nat) (r : Reason) (b : Bool) (t : Nat) (e : EventCode) : (s.abortWith p r b t e).pending = s.pending :=
  (congrArg State.pending (State.abortWith_frame s p r b t e) :)
@[simp] theorem State.abortWith_freeCount (s : State) (p : Nat) (r : Reason) (b : Bool) (t : Nat) (e : EventCode) : (s.abortWith p r b t e).freeCount = s.freeCount :=
  (congrArg State.freeCount (State.abortWith_frame s p r b t e) :)
@[simp] theorem State.abortWith_now (s : State) (p : Nat) (r : Reason) (b : Bool) (t : Nat) (e : EventCode) : (s.abortWith p r b t e).now = s.now :=
  (congrArg State.now (State.abortWith_frame s p r b t e) :)
@[simp] theorem State.abortWith_staged (s : State) (p : Nat) (r : Reason) (b : Bool) (t : Nat) (e : EventCode) : (s.abortWith p r b t e).staged = s.staged :=
  (congrArg State.staged (State.abortWith_frame s p r b t e) :)
@[simp] theorem State.abortWith_locks (s : State) (p : Nat) (r : Reason) (b : Bool) (t : Nat) (e : EventCode) : (s.abortWith p r b t e).locks = s.locks :=
  (congrArg State.locks (State.abortWith_frame s p r b t e) :)
@[simp] theorem State.abortWith_owed (s : State) (p : Nat) (r : Reason) (b : Bool) (t : Nat) (e : EventCode) : (s.abortWith p r b t e).owed = s.owed :=
  (congrArg State.owed (State.abortWith_frame s p r b t e) :)
@[simp] theorem State.abortWith_expert (s : State) (p : Nat) (r : Reason) (b : Bool) (t : Nat) (e : EventCode) : (s.abortWith p r b t e).expert = s.expert :=
  (congrArg State.expert (State.abortWith_frame s p r b t e) :)
@[simp] theorem State.abortWith_mbox (s : State) (p : Nat) (r : Reason) (b : Bool) (t : Nat) (e : EventCode) : (s.abortWith p r b t e).mbox = s.mbox :=
  (congrArg State.mbox (State.abortWith_frame s p r b t e) :)
@[simp] theorem State.abortWith_vectors (s : State) (p : Nat) (r : Reason) (b : Bool) (t : Nat) (e : EventCode) : (s.abortWith p r b t e).vectors = s.vectors :=
  (congrArg State.vectors (State.abortWith_frame s p r b t e) :)
@[simp] theorem State.abortWith_completed (s : State) (p : Nat) (r : Reason) (b : Bool) (t : Nat) (e : EventCode) : (s.abortWith p r b t e).completed = s.completed :=
  (congrArg State.completed (State.abortWith_frame s p r b t e) :)
@[simp] theorem State.abortWith_power (s : State) (p : Nat) (r : Reason) (b : Bool) (t : Nat) (e : EventCode) : (s.abortWith p r b t e).power = s.power :=
  (congrArg State.power (State.abortWith_frame s p r b t e) :)
@[simp] theorem State.abortWith_mem (s : State) (p : Nat) (r : Reason) (b : Bool) (t : Nat) (e : EventCode) : (s.abortWith p r b t e).mem = s.mem :=
  (congrArg State.mem (State.abortWith_frame s p r b t e) :)
@[simp] theorem State.abortWith_tier (s : State) (p : Nat) (r : Reason) (b : Bool) (t : Nat) (e : EventCode) : (s.abortWith p r b t e).tier = s.tier :=
  (congrArg State.tier (State.abortWith_frame s p r b t e) :)
@[simp] theorem State.abortWith_enc (s : State) (p : Nat) (r : Reason) (b : Bool) (t : Nat) (e : EventCode) : (s.abortWith p r b t e).enc = s.enc :=
  (congrArg State.enc (State.abortWith_frame s p r b t e) :)
@[simp] theorem State.abortWith_slots (s : State) (p : Nat) (r : Reason) (b : Bool) (t : Nat) (e : EventCode) : (s.abortWith p r b t e).slots = s.slots :=
  (congrArg State.slots (State.abortWith_frame s p r b t e) :)
@[simp] theorem State.abortWith_bindings (s : State) (p : Nat) (r : Reason) (b : Bool) (t : Nat) (e : EventCode) : (s.abortWith p r b t e).bindings = s.bindings :=
  (congrArg State.bindings (State.abortWith_frame s p r b t e) :)
@[simp] theorem State.abortWith_sec (s : State) (p : Nat) (r : Reason) (b : Bool) (t : Nat) (e : EventCode) : (s.abortWith p r b t e).sec = s.sec :=
  (congrArg State.sec (State.abortWith_frame s p r b t e) :)
@[simp] theorem State.abortWith_fw (s : State) (p : Nat) (r : Reason) (b : Bool) (t : Nat) (e : EventCode) : (s.abortWith p r b t e).fw = s.fw :=
  (congrArg State.fw (State.abortWith_frame s p r b t e) :)

/-! ### `State.faultWith` -/

theorem State.faultWith_frame (s : State) (p : Nat) (r : Reason) (e : EventCode) :
    { s.faultWith p r e with grids := s.grids, running := s.running, stalled := s.stalled, held := s.held, objs := s.objs, msix := s.msix, transfers := s.transfers, coll := s.coll, dict := s.dict, jobs := s.jobs, mgmt := s.mgmt, parts := s.parts, views := s.views, fabric := s.fabric } = s := by
  unfold State.faultWith; split; · rfl
  · refine (congrArg (fun t : State => { t with grids := s.grids, running := s.running, stalled := s.stalled, held := s.held, objs := s.objs, msix := s.msix, transfers := s.transfers, coll := s.coll, dict := s.dict, jobs := s.jobs, mgmt := s.mgmt, parts := s.parts, views := s.views, fabric := s.fabric }) (State.sendNotice_frame _ p _ none)).trans ?_
    exact congrArg (fun t : State => { t with grids := s.grids, running := s.running, stalled := s.stalled, held := s.held, objs := s.objs, msix := s.msix, transfers := s.transfers, coll := s.coll, dict := s.dict, jobs := s.jobs, mgmt := s.mgmt, parts := s.parts, views := s.views, fabric := s.fabric }) (State.abortWith_frame _ p r false 0 e)

@[simp] theorem State.faultWith_pending (s : State) (p : Nat) (r : Reason) (e : EventCode) : (s.faultWith p r e).pending = s.pending :=
  (congrArg State.pending (State.faultWith_frame s p r e) :)
@[simp] theorem State.faultWith_freeCount (s : State) (p : Nat) (r : Reason) (e : EventCode) : (s.faultWith p r e).freeCount = s.freeCount :=
  (congrArg State.freeCount (State.faultWith_frame s p r e) :)
@[simp] theorem State.faultWith_now (s : State) (p : Nat) (r : Reason) (e : EventCode) : (s.faultWith p r e).now = s.now :=
  (congrArg State.now (State.faultWith_frame s p r e) :)
@[simp] theorem State.faultWith_staged (s : State) (p : Nat) (r : Reason) (e : EventCode) : (s.faultWith p r e).staged = s.staged :=
  (congrArg State.staged (State.faultWith_frame s p r e) :)
@[simp] theorem State.faultWith_locks (s : State) (p : Nat) (r : Reason) (e : EventCode) : (s.faultWith p r e).locks = s.locks :=
  (congrArg State.locks (State.faultWith_frame s p r e) :)
@[simp] theorem State.faultWith_owed (s : State) (p : Nat) (r : Reason) (e : EventCode) : (s.faultWith p r e).owed = s.owed :=
  (congrArg State.owed (State.faultWith_frame s p r e) :)
@[simp] theorem State.faultWith_expert (s : State) (p : Nat) (r : Reason) (e : EventCode) : (s.faultWith p r e).expert = s.expert :=
  (congrArg State.expert (State.faultWith_frame s p r e) :)
@[simp] theorem State.faultWith_mbox (s : State) (p : Nat) (r : Reason) (e : EventCode) : (s.faultWith p r e).mbox = s.mbox :=
  (congrArg State.mbox (State.faultWith_frame s p r e) :)
@[simp] theorem State.faultWith_vectors (s : State) (p : Nat) (r : Reason) (e : EventCode) : (s.faultWith p r e).vectors = s.vectors :=
  (congrArg State.vectors (State.faultWith_frame s p r e) :)
@[simp] theorem State.faultWith_completed (s : State) (p : Nat) (r : Reason) (e : EventCode) : (s.faultWith p r e).completed = s.completed :=
  (congrArg State.completed (State.faultWith_frame s p r e) :)
@[simp] theorem State.faultWith_power (s : State) (p : Nat) (r : Reason) (e : EventCode) : (s.faultWith p r e).power = s.power :=
  (congrArg State.power (State.faultWith_frame s p r e) :)
@[simp] theorem State.faultWith_mem (s : State) (p : Nat) (r : Reason) (e : EventCode) : (s.faultWith p r e).mem = s.mem :=
  (congrArg State.mem (State.faultWith_frame s p r e) :)
@[simp] theorem State.faultWith_tier (s : State) (p : Nat) (r : Reason) (e : EventCode) : (s.faultWith p r e).tier = s.tier :=
  (congrArg State.tier (State.faultWith_frame s p r e) :)
@[simp] theorem State.faultWith_enc (s : State) (p : Nat) (r : Reason) (e : EventCode) : (s.faultWith p r e).enc = s.enc :=
  (congrArg State.enc (State.faultWith_frame s p r e) :)
@[simp] theorem State.faultWith_slots (s : State) (p : Nat) (r : Reason) (e : EventCode) : (s.faultWith p r e).slots = s.slots :=
  (congrArg State.slots (State.faultWith_frame s p r e) :)
@[simp] theorem State.faultWith_bindings (s : State) (p : Nat) (r : Reason) (e : EventCode) : (s.faultWith p r e).bindings = s.bindings :=
  (congrArg State.bindings (State.faultWith_frame s p r e) :)
@[simp] theorem State.faultWith_sec (s : State) (p : Nat) (r : Reason) (e : EventCode) : (s.faultWith p r e).sec = s.sec :=
  (congrArg State.sec (State.faultWith_frame s p r e) :)
@[simp] theorem State.faultWith_fw (s : State) (p : Nat) (r : Reason) (e : EventCode) : (s.faultWith p r e).fw = s.fw :=
  (congrArg State.fw (State.faultWith_frame s p r e) :)

/-! ### `State.faultPart` -/

theorem State.faultPart_frame (s : State) (p : Nat) (r : Reason) :
    { s.faultPart p r with grids := s.grids, running := s.running, stalled := s.stalled, held := s.held, objs := s.objs, msix := s.msix, transfers := s.transfers, coll := s.coll, dict := s.dict, jobs := s.jobs, mgmt := s.mgmt, parts := s.parts, views := s.views, fabric := s.fabric } = s := by
  exact State.faultWith_frame s p r _

@[simp] theorem State.faultPart_pending (s : State) (p : Nat) (r : Reason) : (s.faultPart p r).pending = s.pending :=
  (congrArg State.pending (State.faultPart_frame s p r) :)
@[simp] theorem State.faultPart_freeCount (s : State) (p : Nat) (r : Reason) : (s.faultPart p r).freeCount = s.freeCount :=
  (congrArg State.freeCount (State.faultPart_frame s p r) :)
@[simp] theorem State.faultPart_now (s : State) (p : Nat) (r : Reason) : (s.faultPart p r).now = s.now :=
  (congrArg State.now (State.faultPart_frame s p r) :)
@[simp] theorem State.faultPart_staged (s : State) (p : Nat) (r : Reason) : (s.faultPart p r).staged = s.staged :=
  (congrArg State.staged (State.faultPart_frame s p r) :)
@[simp] theorem State.faultPart_locks (s : State) (p : Nat) (r : Reason) : (s.faultPart p r).locks = s.locks :=
  (congrArg State.locks (State.faultPart_frame s p r) :)
@[simp] theorem State.faultPart_owed (s : State) (p : Nat) (r : Reason) : (s.faultPart p r).owed = s.owed :=
  (congrArg State.owed (State.faultPart_frame s p r) :)
@[simp] theorem State.faultPart_expert (s : State) (p : Nat) (r : Reason) : (s.faultPart p r).expert = s.expert :=
  (congrArg State.expert (State.faultPart_frame s p r) :)
@[simp] theorem State.faultPart_mbox (s : State) (p : Nat) (r : Reason) : (s.faultPart p r).mbox = s.mbox :=
  (congrArg State.mbox (State.faultPart_frame s p r) :)
@[simp] theorem State.faultPart_vectors (s : State) (p : Nat) (r : Reason) : (s.faultPart p r).vectors = s.vectors :=
  (congrArg State.vectors (State.faultPart_frame s p r) :)
@[simp] theorem State.faultPart_completed (s : State) (p : Nat) (r : Reason) : (s.faultPart p r).completed = s.completed :=
  (congrArg State.completed (State.faultPart_frame s p r) :)
@[simp] theorem State.faultPart_power (s : State) (p : Nat) (r : Reason) : (s.faultPart p r).power = s.power :=
  (congrArg State.power (State.faultPart_frame s p r) :)
@[simp] theorem State.faultPart_mem (s : State) (p : Nat) (r : Reason) : (s.faultPart p r).mem = s.mem :=
  (congrArg State.mem (State.faultPart_frame s p r) :)
@[simp] theorem State.faultPart_tier (s : State) (p : Nat) (r : Reason) : (s.faultPart p r).tier = s.tier :=
  (congrArg State.tier (State.faultPart_frame s p r) :)
@[simp] theorem State.faultPart_enc (s : State) (p : Nat) (r : Reason) : (s.faultPart p r).enc = s.enc :=
  (congrArg State.enc (State.faultPart_frame s p r) :)
@[simp] theorem State.faultPart_slots (s : State) (p : Nat) (r : Reason) : (s.faultPart p r).slots = s.slots :=
  (congrArg State.slots (State.faultPart_frame s p r) :)
@[simp] theorem State.faultPart_bindings (s : State) (p : Nat) (r : Reason) : (s.faultPart p r).bindings = s.bindings :=
  (congrArg State.bindings (State.faultPart_frame s p r) :)
@[simp] theorem State.faultPart_sec (s : State) (p : Nat) (r : Reason) : (s.faultPart p r).sec = s.sec :=
  (congrArg State.sec (State.faultPart_frame s p r) :)
@[simp] theorem State.faultPart_fw (s : State) (p : Nat) (r : Reason) : (s.faultPart p r).fw = s.fw :=
  (congrArg State.fw (State.faultPart_frame s p r) :)

/-! ### `State.faultParts` -/

theorem State.faultParts_frame (s : State) (l : List Nat) (r : Reason) :
    { s.faultParts l r with grids := s.grids, running := s.running, stalled := s.stalled, held := s.held, objs := s.objs, msix := s.msix, transfers := s.transfers, coll := s.coll, dict := s.dict, jobs := s.jobs, mgmt := s.mgmt, parts := s.parts, views := s.views, fabric := s.fabric } = s := by
  exact foldl_frame (fun t => { t with grids := s.grids, running := s.running, stalled := s.stalled, held := s.held, objs := s.objs, msix := s.msix, transfers := s.transfers, coll := s.coll, dict := s.dict, jobs := s.jobs, mgmt := s.mgmt, parts := s.parts, views := s.views, fabric := s.fabric }) _ (fun t p => congrArg (fun t : State => { t with grids := s.grids, running := s.running, stalled := s.stalled, held := s.held, objs := s.objs, msix := s.msix, transfers := s.transfers, coll := s.coll, dict := s.dict, jobs := s.jobs, mgmt := s.mgmt, parts := s.parts, views := s.views, fabric := s.fabric }) (State.faultPart_frame t p r)) _ s rfl

@[simp] theorem State.faultParts_pending (s : State) (l : List Nat) (r : Reason) : (s.faultParts l r).pending = s.pending :=
  (congrArg State.pending (State.faultParts_frame s l r) :)
@[simp] theorem State.faultParts_freeCount (s : State) (l : List Nat) (r : Reason) : (s.faultParts l r).freeCount = s.freeCount :=
  (congrArg State.freeCount (State.faultParts_frame s l r) :)
@[simp] theorem State.faultParts_now (s : State) (l : List Nat) (r : Reason) : (s.faultParts l r).now = s.now :=
  (congrArg State.now (State.faultParts_frame s l r) :)
@[simp] theorem State.faultParts_staged (s : State) (l : List Nat) (r : Reason) : (s.faultParts l r).staged = s.staged :=
  (congrArg State.staged (State.faultParts_frame s l r) :)
@[simp] theorem State.faultParts_locks (s : State) (l : List Nat) (r : Reason) : (s.faultParts l r).locks = s.locks :=
  (congrArg State.locks (State.faultParts_frame s l r) :)
@[simp] theorem State.faultParts_owed (s : State) (l : List Nat) (r : Reason) : (s.faultParts l r).owed = s.owed :=
  (congrArg State.owed (State.faultParts_frame s l r) :)
@[simp] theorem State.faultParts_expert (s : State) (l : List Nat) (r : Reason) : (s.faultParts l r).expert = s.expert :=
  (congrArg State.expert (State.faultParts_frame s l r) :)
@[simp] theorem State.faultParts_mbox (s : State) (l : List Nat) (r : Reason) : (s.faultParts l r).mbox = s.mbox :=
  (congrArg State.mbox (State.faultParts_frame s l r) :)
@[simp] theorem State.faultParts_vectors (s : State) (l : List Nat) (r : Reason) : (s.faultParts l r).vectors = s.vectors :=
  (congrArg State.vectors (State.faultParts_frame s l r) :)
@[simp] theorem State.faultParts_completed (s : State) (l : List Nat) (r : Reason) : (s.faultParts l r).completed = s.completed :=
  (congrArg State.completed (State.faultParts_frame s l r) :)
@[simp] theorem State.faultParts_power (s : State) (l : List Nat) (r : Reason) : (s.faultParts l r).power = s.power :=
  (congrArg State.power (State.faultParts_frame s l r) :)
@[simp] theorem State.faultParts_mem (s : State) (l : List Nat) (r : Reason) : (s.faultParts l r).mem = s.mem :=
  (congrArg State.mem (State.faultParts_frame s l r) :)
@[simp] theorem State.faultParts_tier (s : State) (l : List Nat) (r : Reason) : (s.faultParts l r).tier = s.tier :=
  (congrArg State.tier (State.faultParts_frame s l r) :)
@[simp] theorem State.faultParts_enc (s : State) (l : List Nat) (r : Reason) : (s.faultParts l r).enc = s.enc :=
  (congrArg State.enc (State.faultParts_frame s l r) :)
@[simp] theorem State.faultParts_slots (s : State) (l : List Nat) (r : Reason) : (s.faultParts l r).slots = s.slots :=
  (congrArg State.slots (State.faultParts_frame s l r) :)
@[simp] theorem State.faultParts_bindings (s : State) (l : List Nat) (r : Reason) : (s.faultParts l r).bindings = s.bindings :=
  (congrArg State.bindings (State.faultParts_frame s l r) :)
@[simp] theorem State.faultParts_sec (s : State) (l : List Nat) (r : Reason) : (s.faultParts l r).sec = s.sec :=
  (congrArg State.sec (State.faultParts_frame s l r) :)
@[simp] theorem State.faultParts_fw (s : State) (l : List Nat) (r : Reason) : (s.faultParts l r).fw = s.fw :=
  (congrArg State.fw (State.faultParts_frame s l r) :)

end Sys2Proof.Machine
end

