-- ==== Sys2Proof/Laws/Access.lean ====
section
/-! SUPPORT. What a dictionary write does, once it is let through and when it is refused; what events and
changes of a partition's state do to the registers. -/

namespace Sys2Proof.Machine

/-- A write that is let through is its operation on the granted state. -/
theorem State.write_granted (s : State) (r : Requester) (index sub len : Nat) (commits : Bool)
    (op : State → Reason × State) (h : s.grants r index sub len = true) :
    s.write r index sub len commits op =
      let x := op (s.granted r index sub)
      if x.1 = 0 then (0, x.2.settled index sub commits) else (x.1, x.2.keepRefusal r index x.1) := by
  simp only [State.grants, Bool.and_eq_true, beq_iff_eq] at h
  obtain ⟨⟨⟨h1, h2⟩, h3⟩, h4⟩ := h
  unfold State.write
  simp only [h1, Bool.true_eq_false, if_false]
  rw [show (s.noteFrame r).touchExpert r = s.asked r from rfl]
  simp only [h2, ne_eq, not_true_eq_false, if_false]
  unfold State.granted State.settled at *
  cases hg : lockGroup index sub with
  | none => simp only [hg] at h4 ⊢; simp only [h4, not_true_eq_false, if_false]; split <;> simp_all
  | some g =>
    simp only [hg] at h3 h4 ⊢
    simp only [Option.all_some, Bool.not_eq_true'] at h3
    simp only [h3, Bool.false_eq_true, if_false, h4, not_true_eq_false]
    by_cases hc : (op ((s.asked r).takeLock r g)).1 = 0
    · simp only [hc, not_true_eq_false, if_false, if_true]
    · simp only [hc, not_false_eq_true, if_false, if_true]

/-- A write that is let through and whose operation accepts it. -/
theorem State.write_accepted (s : State) (r : Requester) (index sub len : Nat) (commits : Bool)
    (op : State → Reason × State) (h : s.grants r index sub len = true)
    (h0 : (op (s.granted r index sub)).1 = 0) :
    (s.write r index sub len commits op).2 = (op (s.granted r index sub)).2.settled index sub commits := by
  rw [State.write_granted s r index sub len commits op h]; simp [h0]

/-! ### Registers -/

theorem State.queueEmcy_reg (s : State) (c k : Nat) (h1 : k ≠ kEmcyDropped) (h2 : k ≠ kErrorRegister) :
    (s.queueEmcy c).reg k = s.reg k := by
  unfold State.queueEmcy
  dsimp only
  split
  · rfl
  · split
    · show (State.setReg _ _ _).reg k = _
      rw [State.reg_setReg_ne _ _ _ _ h2]; exact State.reg_setReg_ne _ _ _ _ h1
    · rfl

/-- An event writes the log's own registers alone. -/
theorem State.event_reg (s : State) (c r n k : Nat) (h : k ∉ logKeys) : (s.event c r n).reg k = s.reg k := by
  simp only [logKeys, List.mem_cons, List.not_mem_nil, or_false, not_or] at h
  obtain ⟨h1, h2, h3, h4⟩ := h
  unfold State.event
  dsimp only
  generalize (if _ = s.now / nsPerS then _ else _ : Nat) = q
  split
  · rw [State.queueEmcy_reg _ _ _ h3 h4]; exact State.reg_setReg_ne _ _ _ _ h2
  · rw [State.queueEmcy_reg _ _ _ h3 h4, State.reg_setReg_ne _ _ _ _ h1]; exact State.reg_of_dict s _ k rfl

theorem State.setRegBit_reg (s : State) (k i : Nat) (b : Bool) (j : Nat) (h : j ≠ k) :
    (s.setRegBit k i b).reg j = s.reg j := State.reg_setReg_ne _ _ _ _ h

/-- A change of a partition's state writes its two registers and the log's. -/
theorem State.setPartState_reg (s : State) (p st k : Nat) (h : k ∉ stateKeys p) :
    (s.setPartState p st).reg k = s.reg k := by
  simp only [stateKeys, List.cons_append, List.nil_append, List.mem_cons, not_or] at h
  obtain ⟨h1, h2, h3⟩ := h
  have h4 : k ≠ kErrorRegister := by
    simp only [logKeys, List.mem_cons, not_or] at h3; exact h3.2.2.2.1
  unfold State.setPartState
  rw [State.event_reg _ _ _ _ _ h3]
  show (State.setReg _ _ _).reg k = _
  rw [State.reg_setReg_ne _ _ _ _ h4]
  show (State.setReg _ _ _).reg k = _
  rw [State.reg_setReg_ne _ _ _ _ h2, State.reg_setReg_ne _ _ _ _ h1]
  rfl

theorem State.setGenSource_reg (s : State) (p : Nat) (b : Bool) (k : Nat) (h : k ∉ logKeys) (h2 : k ≠ kGenSource) :
    (s.setGenSource p b).reg k = s.reg k := by
  unfold State.setGenSource
  split
  · rfl
  · rw [State.event_reg _ _ _ _ _ h, State.setRegBit_reg _ _ _ _ _ h2]

end Sys2Proof.Machine
end

