-- ==== Sys2Proof/WellFormed.lean ====
section
/-! DEFINITION. Which commands are commands of the spec: payloads whose lengths the spec fixes have
them. A type of Syntax.lean already bounds every number that the spec bounds. -/

namespace Sys2Proof

/-- A tag is 16 bytes (R252), a frame seals 47 data flits and a timing flit of 256 bytes each, and its replay
reserve holds one more (R233). -/
def FrameIn.wf (f : FrameIn) : Bool :=
  f.tag.length == 16 && f.cipher.length == 48 * 256 &&
    match f.replay with
    | some r => r.cipher.length == 256
    | none => true

/-- A packet carries whole 64-byte units, at most sixteen of them (R242). -/
def Packet.wf (k : Packet) : Bool := k.data.length % 64 == 0 && decide (k.data.length ≤ 1024)

/-- A value is 1 to 4,096 bytes (R409). -/
def valueWf (l : List Byte) : Bool := decide (1 ≤ l.length) && decide (l.length ≤ 4096)

/-- The data of a USDO service. -/
def Usdo.wf : Usdo → Bool
  | .read _ _ => true
  | .write _ _ d => valueWf d
  | .writeFirst _ _ d => valueWf d
  | .writeNext d _ => valueWf d

/-- Every symbol of a line is named once, with a pattern that is not 0 (R163). -/
def errorsWf (l : List (Fin 72 × Byte)) : Bool :=
  decide ((l.map (·.1)).Nodup) && l.all (fun e => e.2 != 0)

/-- A BAR access is 1, 2, 4, 8 bytes or a larger power of two up to 64 (R382). -/
def BarAccess.wf (a : BarAccess) : Bool := decide (a.width ∈ [1, 2, 4, 8, 16, 32, 64])

/-- Whether a command is well formed. -/
def Instr.wf : Instr → Bool
  | .frameIn _ f => f.wf
  | .readRequest _ k => k.wf
  | .readResponse _ k => k.wf
  | .writeAcknowledged _ k => k.wf
  | .postedWrite _ k => k.wf
  | .writeAcknowledgement _ k => k.wf
  | .fetchAdd _ k => k.wf
  | .fetchMin _ k => k.wf
  | .fetchMax _ k => k.wf
  | .fetchOr _ k => k.wf
  | .fetchAnd _ k => k.wf
  | .swap _ k => k.wf
  | .cmpSwap _ k => k.wf
  | .atomicResponse _ k => k.wf
  | .failureNotice _ k => k.wf
  | .collectiveData _ k => k.wf
  | .lineArrival _ _ _ errs => errorsWf errs
  | .dictWrite _ _ _ d _ => valueWf d
  | .usdoRequest _ u _ => u.wf
  | .fwChunk _ d => valueWf d
  | .barRegisterAccess a _ => a.wf
  | _ => true

end Sys2Proof
end

