-- ==== Sys2Proof/Tests/Slice0.lean ====
section
/-! SUPPORT. Tests of one step each on small states, with the witnesses of the statements' hypotheses: for each
clause of a statement, operands and a state that meet it, and what the step then leaves. Expected values are
the spec's. -/

namespace Sys2Proof.Tests

open Sys2Proof.Machine

set_option Elab.async false

/-! ### The states that the tests start from -/

/-- The state after a command that goes on. -/
def nx (o : Host.Outcome State Fault Refusal) : State :=
  match o with
  | .next s => s
  | _ => State.reset

def run (c : Instr) (s : State) : State := nx (exec c s)

/-- Registers set. -/
def regs (s : State) (l : List (Nat × Nat)) : State := l.foldl (fun s e => s.setReg e.1 e.2) s

/-- A module that runs: every subsystem ready, node 5 on the bus, every group powered. -/
def up : State :=
  { regs State.reset [(kReadyMap, 0x1FFE), (kNodeId, 5), (kModuleId, 1)] with
    power := { State.reset.power with mode := .running, slotRead := true, cgDown := 0 } }

/-- The mailbox's expert unlock. -/
def unlocked (s : State) : State := { s with expert := [(0x100, 0, 10 ^ 9)] }

def job7 : Charter :=
  ⟨List.replicate 48 0, 7, 0, 0, false, false, 4, 1, 0, List.replicate 48 0, [⟨[], true, true, true, 2⟩], []⟩

/-- Partition 0 RUNNING with cluster group 0, stack 0, far group 0 and port 0, for job 7. -/
def partRun : Part := { Part.free with state := stRunning, cgMap := 1, stackMap := 1, fgMap := 1, portMap := 1, charter := some job7 }

def one : State := (regs up [(kPortOwner 0, 0), (kPortState 0, 3)]).setPart 0 partRun

/-- Its grid runs a gust that began at 1 ms and ends at 1.25 ms. -/
def gusty : State :=
  { one with now := 1100000 }.setGrid 0 { Grid.idle with on := true, inGust := true, boundary := 1000000, started := 1000000, nextPoint := 1250000 }

/-- Where descriptors lie. -/
def dva : BitVec 64 := BitVec.ofNat 64 (2 ^ 20 + 2 ^ 16)

/-- The plan of unit `u` of partition 0: entries of the UNITs of a list at `dva`, the first of them due just now. -/
def planOf (s : State) (u : Nat) (units : List Nat) : Binding :=
  ⟨0, u, 0, 64, 1500, 1000, 243, 0, units.map (fun x => s.planClock 0 u + x * 2 ^ 32 + dva.toNat * 2 ^ 64), false⟩

/-- A state where the plans of units come to entries of their lists. -/
def comes (s : State) (l : List (Nat × List Nat)) : State := { s with bindings := l.map (fun e => planOf s e.1 e.2) }

/-- A plan of cluster 0 that has not reached END. -/
def planned : State := comes gusty [(0, [3, 3])]

def boot : BootInput := ⟨[], true, false, true, true⟩
def around : Around := ⟨boot, false⟩

/-- A timing message of kind `k` for job 7 from module 3 that names time `a`, with `h` hops. -/
def msg (k h a : Nat) : BitVec 256 := BitVec.ofNat 256 (mkTiming k h 3 7 a 0 0)

/-- Values staged. -/
def staging (s : State) (l : List (Nat × Nat)) : State := l.foldl (fun s e => s.stage e.1 e.2) s

/-- Partition 0 of `planned` with fence 0, memory object 0 (its first page at the local address `t`, its second
in near memory), and a stream on context `x` of cluster 0. -/
def flow (t x : Nat) : State :=
  { regs (comes gusty [(0, List.replicate 2 (3 + x))]) [(kGenSource, 0)] with
    objs := { planned.objs with
      fences := [⟨mkHandle 4 0 1 0, 0, false, 0, false, false, false, 0, 0, 0, false, false, false, false⟩]
      memobjs := [⟨mkHandle 3 0 1 0, 0, false, false, false, 2 ^ 20, 2 ^ 17, [(0, 2 ^ 50 + t), (1, 2 ^ 50)]⟩]
      streams := [⟨mkHandle 5 0 1 0, 0, 0, x, false, 2, 0, mkHandle 4 0 1 0, mkHandle 3 0 1 0, 2 ^ 20, 0, 0⟩] } }

/-- Partition 0 CONFIGURED, the generator seeded, slot 0 a live data key and slot 1 a derivation key. -/
def keyed : State :=
  let s := up.setPart 0 { partRun with state := stConfigured }
  let s := (s.setKeySlot 0 ⟨true, List.replicate 32 1, 0, 0, 511, true, true⟩).setKeySlot 1 ⟨true, List.replicate 32 2, 3, 0, 1, true, false⟩
  { s with sec := { s.sec with drbg := some ⟨List.replicate 32 3, List.replicate 16 4, 5⟩, wrapKey := List.replicate 32 6 } }

/-- A range over stack 0's first 64 KB for partition 0, with a live key. -/
def ranged : State :=
  regs (gusty.setKeySlot 0 ⟨true, List.replicate 32 1, 0, 0, 1, true, false⟩)
    [(kRangeState 0, 1), (kOwner 0, 0), (kBase 0, 0), (kSize 0, 65536), (kKeySlot 0, mkHandle 8 0 1 0), (kRangeEpoch 0, 1)]

/-- `ranged` with partition 0's entry for module 3 (its partition 2, by port 0) and stack 0 scrubbed. -/
def linked : State :=
  { ranged with fabric := { ranged.fabric with fwd := [(3, 0x80 + 6 * 16 + 2 * 256)] }
                enc := { ranged.enc with scrubEpoch := [(0, 5)], scrubKey := some (List.replicate 32 9) }
                mem := { ranged.mem with scrubbed := [(0, List.replicate 32 9, 5)] } }

def hdr (kind a tag fence op poison : Nat) : Hdr := ⟨kind, 1, 2, 2, 0, 3, 0, 0, tag, 1, 0, 2 ^ 50 + a, fence, op, poison⟩
def pkt (h : Hdr) : Packet := ⟨BitVec.ofNat 256 (packHdr h), List.replicate (dataBytes h.kind h.len) 0⟩

/-- Partition 0 BUILDING under the mailbox's lock, with group 0, stack 0, far group 0 and port 0 staged; all
stand free, scrubbed and collapsed. -/
def building : State :=
  let s := regs up [(kNearReady, 1), (kFarReady, 1), (kNearScrubbed, 1), (kFarScrubbed, 1), (kCgCollapsed, 1)]
  let s := { s.setPart 0 { Part.free with state := stBuilding } with
    power := { s.power with cgDown := 0xFFFFFFFE }
    locks := [⟨0x3010, reqCode .mailbox, 0, 10 ^ 9, 0, s.epochOf 0⟩] }
  staging s [(kCgMap 0, 1), (kPartStackMap 0, 1), (kFargroupMap 0, 1), (kPortMap 0, 1), (kExpectGen 0, 1)]

/-! ### Well-formedness: an ill-formed term for each check -/

theorem test_ill_formed :
    (Instr.frameIn 0 ⟨[], List.replicate 15 0, false, [], none, []⟩).wf = false ∧
    (Instr.frameIn 0 ⟨List.replicate 33 0, List.replicate 16 0, false, [], none, []⟩).wf = false ∧
    (Instr.postedWrite 0 ⟨0, List.replicate 63 0⟩).wf = false ∧
    (Instr.lineArrival 0 0 0 [(1, 1), (1, 2)]).wf = false ∧ (Instr.lineArrival 0 0 0 [(1, 0)]).wf = false ∧
    (Instr.dictWrite .mailbox 0x1017 0 [] around).wf = false ∧ (Instr.usdoRequest 1 (.writeNext [] true) around).wf = false ∧
    (Instr.fwChunk .mailbox []).wf = false ∧
    (Instr.barRegisterAccess ⟨.pf, 0, 0, 3, false, 0, false⟩ around).wf = false := by decide

theorem test_well_formed :
    (Instr.dictWrite .mailbox 0x1017 0 [50, 0] around).wf = true ∧
    (Instr.barRegisterAccess ⟨.pf, 0, 0, 4, false, 0, false⟩ around).wf = true := by decide

/-- A frame of R233; its replay reserve holds one flit. -/
theorem test_frame_well_formed (c t : List Byte) (r : ReplayIn) (hc : c.length = 48 * 256) (ht : t.length = 16) :
    (Instr.frameIn 0 ⟨c, t, false, [], none, []⟩).wf = true ∧
    (Instr.frameIn 0 ⟨c, t, false, [], some { r with cipher := [] }, []⟩).wf = false := by
  simp [Instr.wf, FrameIn.wf, hc, ht]

/-! ### The queue -/

theorem test_step_takes_the_front :
    nx (step { up with pending := [.nmtStop, .nmtStart] }) = run .nmtStop { up with pending := [.nmtStart] } ∧
    nx (step up) = up := by decide +kernel

theorem test_memory_and_queue_witness : up.mem.wf = true ∧ up.pending = [] ∧ run .eventLogWrite up = up := by
  decide +kernel

/-! ### Timing and the grid -/

theorem test_beacons_witness :
    let s := regs one [(kBeaconRoot, 1), (kAlignState, 1)]
    (s.isRoot = true ∧ s.portsUp = [0] ∧ (run (.beaconSend 100000) s).fabric.timing =
      [⟨0, mkTiming 1 1 1 0 100000 0 0, []⟩]) ∧
    ((run (.echoTimer 100000) one).port 0).echoSent = some 100000 ∧ (run (.echoTimer 99999) one).now = 99999 ∧
    (fld (msg 2 0 0).toNat 0 4 = 2 ∧ (run (.echoRequest 0 (msg 2 0 0) 5) one).fabric.timing =
      [⟨0, mkTiming 3 0 1 0 5 5 0, []⟩]) ∧
    (fld (msg 3 0 0).toNat 0 4 = 3 ∧
      ((run (.echoResponse 0 (msg 3 0 0) 101000) (run (.echoTimer 100000) one)).port 0).delay = 500) := by decide +kernel

theorem test_following_witness :
    let s := regs { one with now := 90 } [(kBeaconRoot, 3), (kAlignState, 2)]
    (s.isRoot = false ∧ s.reg kBeaconRoot ≠ 0xFFFF ∧ fld (msg 1 2 130).toNat 8 14 = 3 ∧
      ((s.tick 90).chooseParent 0 (fld (msg 1 2 130).toNat 4 4)).1 = 0 ∧
      (run (.beacon 0 (msg 1 2 130) 90) s).reg kAlignState = 1 ∧ (run (.beacon 0 (msg 1 2 130) 90) s).now = 92) ∧
    (let t := regs one [(kAlignState, 1)]
     t.isRoot = false ∧ (run (.beaconLoss 300000) t).reg kAlignState = 2 ∧ (run (.beaconLoss 299999) t).reg kAlignState = 1) ∧
    ((unlocked up).grants .mailbox 0x2001 1 2 = true ∧
      (run (.beaconRootWrite .mailbox 1) (unlocked up)).reg kAlignState = 1) := by decide +kernel

/-- A single-module job of partition 0 whose grid is to start at 2 ms. -/
def staged0 : State :=
  { regs (up.setPart 0 { Part.free with state := stConfigured }) [] with
    staged := [(kJobHops 0, 0), (kStartTimeNs 0, 2000000)].foldl (fun t e => tabSet t e.1 e.2) [] }

theorem test_gust_enable_witness :
    staged0.grants .mailbox 0x2010 7 1 = true ∧ (staged0.granted .mailbox 0x2010 7).gustCheck 0 = 0 ∧
    ((run (.gustEnable .mailbox 0) staged0).grid 0).nextPoint = 2000000 ∧
    (run (.gustEnable .mailbox 0) staged0).reg (kJobHops 0) = 0 ∧
    (up.grants .mailbox 0x2010 7 1 = true ∧ (up.granted .mailbox 0x2010 7).gustCheck 0 = 0x1601 ∧
      (run (.gustEnable .mailbox 0) up).reg (kGustRefusal 0) = 0x1601) := by decide +kernel

theorem test_gust_disable_witness :
    let s := regs (gusty.setPart 0 { partRun with state := stConfigured }) [(kGustEnable 0, 1)]
    s.grants .mailbox 0x2010 7 1 = true ∧ (s.granted .mailbox 0x2010 7).reg (kGustEnable 0) = 1 ∧
    (s.grid 0).inGust = true ∧ ((run (.gustDisable .mailbox 0) s).grid 0).pauseAt = some 1250000 := by decide +kernel

theorem test_grid_point_witness :
    ((gusty.grid 0).nextPoint ≤ 1250000 ∧ ((run (.gridPoint 0 1250000) gusty).reg (kGustNumber 0) = 1)) ∧
    (let s := gusty.setGrid 0 { gusty.grid 0 with held := true, inGust := false }
     ((run (.gridPoint 0 1250000) s).grid 0).nextPoint = 1500000) ∧
    (let s := gusty.setGrid 0 { gusty.grid 0 with slip := true, inGust := false }
     (run (.gridPoint 0 1250000) s).reg (kSlipCount 0) = 1) := by decide +kernel

theorem test_check_point_witness :
    planned.short 0 = true ∧ planned.fabric.seen = [] ∧
    (run (.slipCheckPoint 0 1245000) planned).fabric.timing = [⟨0, mkTiming 4 1 1 7 1250000 0 0, []⟩] ∧
    ((run (.remask100MsMark 200000000) up).sec.lastMask = 2) ∧
    ((gusty.tick 1100000).calm 0 = false ∧ ({ gusty with now := 1001000 }.tick 0).calm 0 = true) ∧
    ((run (.preemptRequest 0 none) gusty).grid 0).pauseAt = some 1250000 ∧
    (let s := gusty.setGrid 0 { gusty.grid 0 with paused := true, inGust := false }
     s.futurePoint 0 1500000 = true ∧ ((run (.preemptRequest 0 (some 1500000)) s).grid 0).resumeAt = some 1500000) := by
  decide +kernel

theorem test_notices_witness :
    gusty.jobPart (msg 4 1 1250000).toNat = some 0 ∧
    ((run (.slipNotice 0 (msg 4 1 1250000) 0) gusty).grid 0).slip = true ∧
    ((run (.slipNotice 0 (msg 4 1 1000000) 0) gusty).part 0).state = stHeld ∧
    ((run (.abortNotice 0 (msg 5 1 1000000) 0) gusty).part 0).state = stHeld ∧
    ((run (.pauseNotice 0 (msg 6 1 1500000) 0) gusty).grid 0).pauseAt = some 1500000 := by decide +kernel

/-- A header of a plan of one END entry at cycle 100 for cluster 0, and its binding. -/
def plan : PlanIn :=
  ⟨BitVec.ofNat 128 (1 * 2 ^ 32), BitVec.ofNat 256 (2 + 1 * 2 ^ 16 + 64 * 2 ^ 24 + 1500 * 2 ^ 32 + 0x100 * 2 ^ 48 + 250 * 2 ^ 64 + 2 * 2 ^ 96 + 5 * 2 ^ 104 +
    364500 * 2 ^ 128 + 100 * 2 ^ 160 + 1 * 2 ^ 192), [BitVec.ofNat 128 (100 + 15 * 2 ^ 32)]⟩

theorem test_plan_binding_witness :
    (one.bindCheck 0 plan.binding.toNat plan.header.toNat (plan.entries.map BitVec.toNat) ≠ 0 ∧
      (run (.planBinding 0 plan) one).bindings = []) ∧
    (let s := regs one [(kClusterReady 1, 1)]
     s.bindCheck 0 plan.binding.toNat plan.header.toNat (plan.entries.map BitVec.toNat) = 0 ∧
       (run (.planBinding 0 plan) s).bindings =
         [⟨0, 0, 0, 64, 1500, 100, 243, 0, [100 + 15 * 2 ^ 32], false⟩]) := by decide +kernel

theorem test_calm_windows_witness :
    nCalm 20000 = 20 ∧ nCalm 250 = 1 ∧ (gusty.grid 0).on = true ∧ gusty.reg (kCalmLenUs 0) = 2 ∧
    { gusty with now := 1001999 }.calm 0 = true ∧ { gusty with now := 1002000 }.calm 0 = false := by decide +kernel

/-! ### Streams -/

/-- A transfer descriptor: DIR, SIGNAL, offset, and the lines of its one row, from cell line 7 on. -/
def xfer (dir offset lines : Nat) : Desc :=
  BitVec.ofNat 512 (5 + dir * 2 ^ 4 + 2 ^ 6 + 1 * 2 ^ 16 + mkHandle 5 0 1 0 * 2 ^ 32 + offset * 2 ^ 64 + lines * 2 ^ 128 +
    1 * 2 ^ 160 + 1 * 2 ^ 192 + 7 * 2 ^ 320)

theorem test_transfer_entries_witness :
    let s := flow 0 0
    let d := xfer 0 0 4
    s.clusterPart 0 = some 0 ∧ s.issues 0 0 = true ∧ s.stalled = [] ∧ s.busy 0 3 = false ∧
    s.xferCheck 0 0 0 dva.toNat { xferDesc d.toNat with dir := 0 } = 0 ∧ (xferDesc d.toNat).total = 4 ∧
    ((run (.updraft 0 0 dva d) s).transfer? 0 0).isSome = true ∧
    (let u := flow 0 4
     u.xferCheck 0 0 4 dva.toNat { xferDesc (xfer 1 0 4).toNat with dir := 1 } = 0 ∧
       ((run (.downdraft 0 0 dva (xfer 1 0 4)) u).transfer? 0 4).isSome = true) := by decide +kernel

/-- With the updraft running, and with its lines requested. -/
def rising (t : Nat) : State := run (.updraft 0 0 dva (xfer 0 0 1)) (flow t 0)
def asked (t : Nat) : State := run (.streamRequest 0 0) (rising t)

theorem test_busy_context_witness :
    (rising 0).busy 0 3 = true ∧
    (run (.updraft 0 0 dva (xfer 0 0 1)) (rising 0)).stalled.length = 1 := by decide +kernel

theorem test_requests_witness :
    ((rising hostBase).transfer? 0 0).any (fun t => (rising hostBase).inExtent t 0 && (rising hostBase).admitted t
      ((rising hostBase).nextReq t) && ((rising hostBase).nextReq t).target == .here hostBase) = true ∧
    ((asked hostBase).transfer? 0 0).map (fun t => (t.next, t.flights)) = some (1, [⟨0, 1, false⟩]) ∧
    (let s := run (.downdraft 0 0 dva (xfer 1 (2 ^ 17) 2)) (flow 0 4)
     (s.transfer? 0 4).any (fun t => !s.inExtent t 0) = true ∧
       (run (.streamRequest 0 4) s).reg kBufferOverruns = 1 ∧
       ((run (.streamRequest 0 4) s).transfer? 0 4).any (fun t => t.memOver) = true) := by decide +kernel

theorem test_arrival_witness :
    let s := (asked hostBase).hostWrite 0 [5, 6]
    s.mem.wf = true ∧ s.stalled = [] ∧ (s.transfer? 0 0).any (fun t => !s.shardSide t) = true ∧
    (run (.lineArrival 0 0 0 []) s).cellLine 0 7 = padTo 64 0 [5, 6] ∧
    (let u := run (.lineArrival 0 0 0 []) s
     (u.transfer? 0 0).any (fun t => t.over) = true ∧
       (run (.transferComplete 0 0) u).transfer? 0 0 = none ∧
       ((run (.transferComplete 0 0) u).fence? (mkHandle 4 0 1 0)).map (·.value) = some 1) := by decide +kernel

theorem test_shares_witness :
    let s := staging up [(kReadShare 0, 30), (kWriteShare 0, 1), (kRemoteShare 0, 1)]
    s.grants .mailbox 0x5010 0x04 1 = true ∧ (s.granted .mailbox 0x5010 4).stagedReg (kReadShare 0) = 30 ∧
    (s.granted .mailbox 0x5010 4).reg (kGustEnable 0) = 0 ∧ (run (.shareEnable .mailbox 0) s).reg (kReadShare 0) = 30 ∧
    (let t := staging up [(kReadShare 0, 30)]
     (t.granted .mailbox 0x5010 4).stagedReg (kReadShare 0) + (t.granted .mailbox 0x5010 4).stagedReg (kWriteShare 0) +
       (t.granted .mailbox 0x5010 4).stagedReg (kRemoteShare 0) ≠ 32 ∧ (run (.shareEnable .mailbox 0) t).reg (kShareRefusal 0) = 0x3101) := by
  decide +kernel

theorem test_meter_window_witness :
    let s := { gusty with fabric := { gusty.fabric with meters := { gusty.fabric.meters with classes := [(8, ⟨0, 999, 7⟩)] } } }
    s.enc.limitHit = [] ∧ s.stalled = [] ∧ s.fabric.arrivals = [] ∧ ((List.range 16).all (fun n => (s.port n).waiting.isEmpty)) = true ∧
    (parts8.all (fun p => !(s.job p).loading)) = true ∧
    (tabGet (run (.meterWindow 1100000) s).fabric.meters.classes 8 ⟨0, 0, 0⟩).charge = 0 := by decide +kernel

/-! ### Memory -/

theorem test_line_round_trip_witness :
    ranged.mem.wf = true ∧ (ranged.writeLine (.part 0) 3 64 255 0 [1, 2, 3] false).1 = 0 ∧
    (ranged.writeLine (.part 0) 3 64 255 0 [1, 2, 3] true).1 = 0 := by decide +kernel

/-- The example of FIPS 197, appendix C.3, which R4 names. -/
theorem test_aes : aes256 ((List.range 32).map (BitVec.ofNat 8)) ((List.range 16).map (fun i => BitVec.ofNat 8 (17 * i))) =
    beBytes 16 0x8ea2b7ca516745bfeafc49904b496089 := by decide +kernel

theorem test_memory_units_witness :
    (let s := regs up [(readyKey 0, 0)]
     bit (s.reg (readyKey 0)) (unitBit 0) = false ∧ s.reg kLcState ≠ 5 ∧
       ((s.testConnections 0 []).withCap (·.applyMap 0)).tier.outOfService.contains 0 = false ∧
       bit ((run (.memoryUnitReady (.stack 0) []) s).reg (readyKey 0)) 0 = true) ∧
    (let s := regs up [(readyKey 31, 0)]
     s.unitFree 31 = true ∧ s.reg (mapKey 31) ≠ 0 ∧
       (run (.memoryReadyTimeout (.group 15)) s).tier.outOfService = [31]) := by decide +kernel

theorem test_sensors_calibration_witness :
    (run (.sensorSample 0 ⟨List.replicate 16 (-5), List.replicate 16 0, []⟩) up).reg (kStackTemp 15) =
      2 ^ 32 - 5 := by decide +kernel

def cal (task : CalTask) (ok : Bool) : CalRun := ⟨127, task, ok⟩

theorem test_calibration_witness :
    up.unitIdle 31 = true ∧ up.tier.fenced = [] ∧
    (run (.calibrationTaskDue (cal .oscillator false)) up).tier.fenced = [1024 + 127] ∧
    (run (.calibrationTaskDue (cal .zq true)) { up with now := 66000001 }).reg (kCalOverdue 15) = 1 := by decide +kernel

theorem test_map_outs_witness :
    (let s := staging (unlocked up) [(kMapOutChannel, 1023)]
     s.grants .mailbox 0x5801 0x08 1 = true ∧ bit ((s.granted .mailbox 0x5801 8).reg (pendingKey 15)) 63 = true) ∧
    (let s := staging (unlocked (regs up [(pendingKey 15, 0)])) [(kMapOutChannel, 1023)]
     s.grants .mailbox 0x5801 0x08 1 = true ∧ bit ((s.granted .mailbox 0x5801 8).reg (pendingKey 15)) 63 = false ∧
       (run (.mapOutEnable .mailbox) s).reg kNearRefusal = 0x4101) ∧
    (let s := staging (unlocked up) [(kFarMapOutChannel, 127)]
     s.grants .mailbox 0x6001 0x08 1 = true ∧ bit ((s.granted .mailbox 0x6001 8).reg (pendingKey 31)) 7 = true) := by decide +kernel

/-- Partition 0 CONFIGURED over stack 0, scrubbed, with a live key, and range 63 staged over its first 64 KB. -/
def ranging : State :=
  staging { (up.setPart 0 { partRun with state := stConfigured }).setKeySlot 0 ⟨true, List.replicate 32 1, 0, 0, 1, true, false⟩ with
    enc := { up.enc with scrubEpoch := [(0, 5)], epochNext := 2 ^ 32 - 1 } }
    [(kOwner 63, 0), (kBase 63, 0), (kSize 63, 65536), (kKeySlot 63, mkHandle 8 0 1 0)]

theorem test_key_ranges_witness :
    ranging.grants .mailbox (0x6810 + 63) 0x05 1 = true ∧ (ranging.granted .mailbox (0x6810 + 63) 5).rangeCheck 63 = 0 ∧
    (let u := run (.rangeEnable .mailbox 63) ranging
     u.reg (kRangeEpoch 63) = 2 ^ 32 - 1 ∧ u.enc.epochNext = 0 ∧
       u.grants .mailbox (0x6810 + 63) 0x05 1 = true ∧ u.reg (kRangeState 63) = 1 ∧ u.reg (kOwner 63) = 0 ∧
       (u.granted .mailbox (0x6810 + 63) 5).rangeCheck 63 ≠ 0 ∧
       (run (.rangeDisable .mailbox 63) u).reg (kOwner 63) = 0xFF) := by decide +kernel

theorem test_compatibility_witness :
    (ranging.grants .mailbox 0x6801 0x06 1 = true ∧ (parts8.all (fun p => ranging.reg (kGustEnable p) == 0)) = true ∧
      (run (.compatPartitions .mailbox 129) ranging).reg kCompatPartitions = 129) ∧
    (ranging.grants .mailbox 0x6860 255 4 = true ∧ ranging.checkHandle 6 8 0 (mkHandle 8 0 1 0) = 0 ∧
      (run (.compatKey .mailbox 0 255 (BitVec.ofNat 32 (mkHandle 8 0 1 0))) ranging).reg (kCompatKey 0 255) = mkHandle 8 0 1 0) ∧
    (let s := regs ranging [(kGustEnable 7, 1)]
     s.grants .mailbox 0x6801 0x06 1 = true ∧ (run (.compatPartitions .mailbox 128) s).reg kEncRefusal = 0x6201) := by
  decide +kernel

theorem test_scrub_witness :
    let s := { up with enc := { up.enc with scrubbing := [.unit (.group 15)], scrubKey := some (List.replicate 32 9) } }
    s.enc.scrubbing.contains (.unit (.group 15)) = true ∧
    tabGet (run (.scrubComplete (.unit (.group 15))) s).enc.scrubEpoch 31 0 = 1 := by decide +kernel

/-- A map with a channel less waits for the scrub of group 15. -/
def remapping : State :=
  { regs up [(pendingKey 31, 0x7F), (readyKey 31, 0x8000)] with
    enc := { up.enc with scrubbing := [.unit (.group 15)], scrubKey := some (List.replicate 32 9) } }

theorem test_map_after_scrub_witness :
    remapping.reg (mapKey 31) = 0xFF ∧ remapping.unitFree 31 = true ∧ remapping.tier.outOfService = [] ∧
    leastChannels 31 ≤ popCount (remapping.reg (pendingKey 31)) (unitWidth 31) ∧ bit (remapping.reg (readyKey 31)) (unitBit 31) = true ∧
    (run (.scrubComplete (.unit (.group 15))) remapping).reg (mapKey 31) = 0x7F := by decide +kernel

theorem test_breach_witness :
    up.power.mode ≠ .off ∧ popCount (tabGet up.sec.fuses 18 0) 32 < 32 ∧ (run .tamperBreach up).sec.breached = true ∧
    (run .tamperBreach up).sec.tamperBlow = true := by decide +kernel

/-! ### Keys and the random source -/

def h0 : Handle := mkHandle 8 0 511 0
def h1 : Handle := mkHandle 8 0 1 1

theorem test_keys_filled_witness :
    keyed.grants .mailbox 0x9020 0x01 112 = true ∧ lockedState (keyed.part 0).state = false ∧ keyed.sec.breached = false ∧
    (keyed.granted .mailbox 0x9020 1).freeSlot = some 2 ∧ (keyed.granted .mailbox 0x9020 1).cacheUsed = 2 ∧
    ((keyed.granted .mailbox 0x9020 1).drbg 32 true).isSome = true ∧
    ((run (.generateKey .mailbox 0 0) keyed).keySlot 2).live = true ∧
    ((run (.generateKey .mailbox 0 0) keyed).keySlot 2).provisional = true := by decide +kernel

theorem test_derive_witness :
    keyed.keyCheck 0 h1 = 0 ∧ (keyed.keySlot (hIndex h1)).attr = 3 ∧
    ((run (.deriveKey .jobServices 0 (BitVec.ofNat 32 h1) 1 [1] (List.replicate 64 0)) keyed).keySlot 2).attr = 1 ∧
    ((run (.deriveKey .jobServices 0 (BitVec.ofNat 32 h1) 1 [1] (List.replicate 64 0)) keyed).keySlot 2).provisional = false := by
  decide +kernel

theorem test_evict_witness : (keyed.keyUses h0).isEmpty = true ∧ (keyed.drbg 12 false).isSome = true ∧ keyed.keyCheck 0 h0 = 0 ∧
    keyed.cacheUsed = 2 := by decide +kernel

/-- Slot 0 outside the cache, and its blob under the wrap key. -/
def evicted : State := keyed.setKeySlot 0 { keyed.keySlot 0 with resident := false, key := [] }
def aad0 : List Byte := leBytes 8 (blobHead 0 0 0 511)
def sealed0 : List Byte × List Byte := gcmSeal (List.replicate 32 6) (List.replicate 12 7) aad0 (List.replicate 32 1)
def blob0 : BitVec 768 := BitVec.ofNat 768 (ofLe (aad0 ++ List.replicate 12 7 ++ sealed0.1 ++ sealed0.2 ++ List.replicate 28 0))

theorem test_load_witness : (evicted.keyLoad 0 blob0.toNat).1.1 = 0 ∧ (evicted.keySlot 0).resident = false ∧
    ((run (.loadBlob .jobServices 0 blob0) evicted).keySlot 0).key = List.replicate 32 1 := by decide +kernel

theorem test_destroy_and_enable_witness :
    keyed.keyCheck 0 h0 = 0 ∧ nextGen 511 = 1 ∧
    keyed.grants .mailbox 0x9020 0x03 1 = true ∧ ((run (.keyEnable .mailbox 0) keyed).keySlot 0).provisional = false := by
  decide +kernel

theorem test_random_source_witness :
    keyed.sec.failed = false ∧ (run .entropyHealthFail keyed).reg kEntropyState = 2 ∧
    (keyed.sec.drbgSince + nsPerS ≤ max keyed.now 1000000000 ∧ (run (.drbgReseed 1000000000) keyed).sec.drbgSince = 1000000000) := by
  decide +kernel

theorem test_recovery_bump_witness :
    let s := { regs up [(kRecoveryEpoch 8, 0xFFFF)] with locks := [⟨0x9801, 3, 0, 10 ^ 9, 8, 0xFFFF⟩], expert := [(0x100, 0, 10 ^ 9)] }
    s.grants .mailbox 0x9018 0x02 1 = true ∧ (run (.recoveryBump .mailbox 8) s).reg (kRecoveryEpoch 8) = 1 ∧
    (run (.recoveryBump .mailbox 8) s).locks = [] := by decide +kernel

/-! ### Compute -/

/-- Bytes in cluster 0's cell store. -/
def cells (s : State) (l : List (Nat × List Byte)) : State :=
  l.foldl (fun s e => s.putCellLine 0 e.1 (padTo 64 0 e.2) false) s

/-- An array descriptor of mode `op`: INT8 operands, INT32 out under `dest`, one row, one column, k = 2, X in line
0, W from line 1 on, Y in line 20. -/
def array (op dest : Nat) : Desc :=
  BitVec.ofNat 512 (1 + op * 2 ^ 4 + 0xB * 2 ^ 8 + 0xB * 2 ^ 12 + 5 * 2 ^ 16 + dest * 2 ^ 26 + 1 * 2 ^ 32 + 1 * 2 ^ 42 + 2 * 2 ^ 64 +
    1 * 2 ^ 160 + 20 * 2 ^ 192)

/-- X = (3, -4) and W = (5, 7), a column of two rows of 64 bytes. -/
def operands : State := comes (cells (flow 0 0) [(0, [3, -4]), (1, [5]), (2, [7])]) [(0, [0, 0])]

/-- The first four bytes that the entry just issued is to write, and its cycles. -/
def firstPut (s : State) : Option (Nat × Nat) := s.running.head?.map (fun r => (ofLe ((r.puts.map (·.data)).headD []), r.cycles))

theorem test_array_modes_witness :
    operands.clusterPart 0 = some 0 ∧ operands.mayIssue 0 0 0 dva.toNat (operands.awaits 0 (arrayDesc (array 0 0).toNat).spans) = true ∧
    (∀ op < 6, (operands.issued 0 0).arrayCheck 0 0 dva.toNat { arrayDesc (array op 0).toNat with op := op } = 0) ∧
    firstPut (run (.multiplyAdd 0 dva (array 0 0)) operands) = some (2 ^ 32 - 13, 37) ∧
    firstPut (run (.sumOfAbsoluteDifferences 0 dva (array 1 0)) operands) = some (13, 37) ∧
    firstPut (run (.sumOfSquaredDifferences 0 dva (array 2 0)) operands) = some (125, 37) ∧
    firstPut (run (.maxPlus 0 dva (array 3 0)) operands) = some (8, 37) ∧
    firstPut (run (.minPlus 0 dva (array 4 0)) operands) = some (3, 37) ∧
    firstPut (run (.compareAndCount 0 dva (array 5 0)) operands) = some (2, 37) := by decide +kernel

theorem test_array_holds_witness :
    ((run (.multiplyAdd 0 dva (array 0 1)) operands).running.map (·.held)) = [some ⟨1, 1, 0, true, [2 ^ 32 - 13], [false]⟩] := by
  decide +kernel

theorem test_integer_limits : arrayBlock 0 true 0x7FFFFFFF [ofInt 1] = (0x7FFFFFFF, true) ∧
    arrayBlock 2 true 0x80000000 [ofInt (-1)] = (0x80000000, true) ∧ arrayBlock 5 true 0x7FFFFFFE [ofInt 1] = (0x7FFFFFFF, false) := by
  decide +kernel

theorem test_array_faults_witness :
    (operands.issued 0 0).arrayCheck 0 0 dva.toNat { arrayDesc (array 0 3).toNat with op := 0 } = 0x100E ∧
    ((run (.multiplyAdd 0 dva (array 0 3)) operands).part 0).state = stHeld ∧
    (let s := run (.multiplyAdd 0 dva (array 0 0)) operands
     (s.running.find? (fun r => r.unitId == 0 && r.unit == 0)).isSome = true ∧ s.columnMapped 0 63 = true ∧
       (run (.columnSelfCheckFail 0 63) s).reg kArrayRefusal = 0x1110) := by decide +kernel

/-- A vector descriptor: formats, one row of one element, A in line 0, B in 1, C in 2, Y in 3, records in 4. -/
def vec (vop f imm : Nat) : Desc :=
  BitVec.ofNat 512 (2 + vop * 2 ^ 4 + f * 2 ^ 10 + f * 2 ^ 13 + f * 2 ^ 16 + 1 * 2 ^ 32 + 1 * 2 ^ 44 + 1 * 2 ^ 80 + 2 * 2 ^ 96 +
    3 * 2 ^ 112 + 4 * 2 ^ 128 + imm * 2 ^ 224)

/-- A = 2.0, B = 3.0, C = 1.0, and a record whose three statistics stand: MAX 1.0, SUM 4.0, SUMSQ 4.0 of 1. -/
def elements : State :=
  comes (cells (flow 0 0) [(0, leBytes 4 0x40000000), (1, leBytes 4 0x40400000), (2, leBytes 4 0x3F800000),
    (4, RowRec.bytes ⟨0x3F800000, 0x40800000, 0x40800000, 1, 0x38⟩)]) [(0, [1, 1])]

def elemOps : List (Instr × Nat) :=
  let a := dva
  [(.vecCopy 0 a (vec 0 0 0), 0x40000000), (.addV 0 a (vec 1 0 0), 0x40A00000), (.subV 0 a (vec 2 0 0), 0xBF800000),
   (.mulV 0 a (vec 3 0 0), 0x40C00000), (.fmaV 0 a (vec 4 0 0), 0x40E00000), (.minV 0 a (vec 5 0 0), 0x40000000),
   (.maxV 0 a (vec 6 0 0), 0x40400000), (.absV 0 a (vec 7 0 0), 0x40000000), (.negV 0 a (vec 8 0 0), 0xC0000000),
   (.mulImm 0 a (vec 9 0 0x40400000), 0x40C00000), (.addImm 0 a (vec 0xA 0 0x40400000), 0x40A00000),
   (.subRow 0 a (vec 0x28 0 0), 0x3F800000), (.divRow 0 a (vec 0x29 0 0), 0x3F000000), (.centerRow 0 a (vec 0x2A 0 0x3F800000), 0xC0000000)]

theorem test_vector_elements_witness :
    elements.clusterPart 0 = some 0 ∧ elements.mayIssue 0 0 1 dva.toNat (elements.awaits 0 (vecDesc (vec 0x2B 0 0).toNat).spans) = true ∧
    (∀ v ∈ [0, 1, 2, 3, 4, 5, 6, 7, 8, 9, 10, 11, 12, 0x28, 0x29, 0x2A, 0x2B],
      (elements.issued 0 0).vecCheck 0 0 dva.toNat { vecDesc (vec v 0 0).toNat with vop := v } = 0) ∧
    (elements.issued 0 0).vecCheck 0 0 dva.toNat (vecDesc (vec 13 0 0x3F800000).toNat) = 0 ∧
    elemOps.all (fun e => firstPut (run e.1 elements) == some (e.2, 13)) = true := by decide +kernel

theorem test_vector_selects :
    [Instr.selectV 0 dva (vec 0xB 0 0), .maskCausal 0 dva (vec 0xC 0 0), .dropout 0 dva (vec 0xD 0 0x3F800000), .normRow 0 dva (vec 0x2B 0 0)].all
      (fun i => (run i elements).running.length == 1) = true := by decide +kernel

theorem test_vector_rows_witness :
    (∀ v ∈ [0x20, 0x21, 0x22, 0x23], (elements.issued 0 0).vecCheck 0 0 dva.toNat { vecDesc (vec v 0 0).toNat with vop := v } = 0) ∧
    [(Instr.rowMax 0 dva (vec 0x20 0 0), 0x40000000), (.rowSum 0 dva (vec 0x21 0 0), 0x40000000), (.rowSumsq 0 dva (vec 0x22 0 0), 0x40800000),
      (.rowCount 0 dva (vec 0x23 0 0), 0)].all (fun e => firstPut (run e.1 elements) == some (e.2, 21)) = true := by decide +kernel

/-! A table whose header line is the last line of the cell store: what follows lies beyond it and reads as zeros
(R91). -/

/-- The header without its CHECK: format 1, one segment, HI 1.0. -/
def tableHdr : List Byte := leBytes 60 (1 + 1 * 2 ^ 24 + 0x3F800000 * 2 ^ 96)
def tableCrc : Nat := crc32 (tableHdr ++ List.replicate 16320 0)
def tableLine : List Byte := tableHdr ++ leBytes 4 tableCrc

theorem crcShift_lt (n c : Nat) (h : c < 2 ^ 32) : crcShift n c < 2 ^ 32 := by
  induction n generalizing c with
  | zero => exact h
  | succ n ih =>
    simp only [crcShift]
    refine ih _ ?_
    split
    · exact Nat.xor_lt_two_pow (by omega) (by norm_num)
    · omega

theorem crc32_lt (m : List Byte) : crc32 m < 2 ^ 32 := by
  have h : ∀ (l : List Byte) (c : Nat), c < 2 ^ 32 → l.foldl (fun c b => crcShift 8 (c ^^^ b.toNat)) c < 2 ^ 32 := by
    intro l
    induction l with
    | nil => exact fun c h => h
    | cons b r ih =>
      exact fun c h => ih _ (crcShift_lt _ _ (Nat.xor_lt_two_pow h (by have := b.isLt; omega)))
  exact Nat.xor_lt_two_pow (h m _ (by norm_num)) (by norm_num)

theorem ofLe_append (a b : List Byte) : ofLe (a ++ b) = ofLe a + 256 ^ a.length * ofLe b := by
  induction a with
  | nil => simp [ofLe]
  | cons x r ih => simp only [List.cons_append, ofLe, ih, List.length_cons]; ring

theorem ofLe_leBytes (n x : Nat) : ofLe (leBytes n x) = x % 256 ^ n := by
  induction n generalizing x with
  | zero => simp [leBytes, ofLe, Nat.mod_one]
  | succ n ih =>
    simp only [leBytes, ofLe, ih, BitVec.toNat_ofNat, Nat.shiftRight_eq_div_pow, Nat.pow_succ']
    have h := Nat.mod_mul (a := 256) (b := 256 ^ n) (x := x)
    norm_num at h ⊢
    omega

theorem length_leBytes (n x : Nat) : (leBytes n x).length = n := by
  induction n generalizing x with
  | zero => rfl
  | succ n ih => simp [leBytes, ih]

theorem fld_below (a c lo w : Nat) (h : lo + w ≤ 480) : fld (a + 2 ^ 480 * c) lo w = fld a lo w := by
  obtain ⟨k, hk⟩ := Nat.exists_eq_add_of_le h
  simp only [fld, Nat.shiftRight_eq_div_pow, hk, Nat.pow_add, Nat.mul_assoc]
  rw [Nat.add_mul_div_left _ _ (Nat.two_pow_pos lo), Nat.add_mul_mod_self_left]

theorem fld_check (a c : Nat) (ha : a < 2 ^ 480) (hc : c < 2 ^ 32) : fld (a + 2 ^ 480 * c) 480 32 = c := by
  rw [fld, Nat.shiftRight_eq_div_pow, Nat.add_mul_div_left _ _ (Nat.two_pow_pos 480), Nat.div_eq_of_lt ha, Nat.zero_add, Nat.mod_eq_of_lt hc]

theorem tableHead_line (z : List Byte) : tableHead (tableLine ++ z) =
    ⟨1, 0, 0, 0, 1, 0, 0, 0x3F800000, 0, 0, 0, 0, 0, tableCrc⟩ := by
  have hl : tableLine.length = 64 := by simp only [tableLine, tableHdr, List.length_append, length_leBytes]
  have hc : tableCrc < 2 ^ 32 := crc32_lt _
  have hx : ofLe ((tableLine ++ z).take 64) = ofLe tableHdr + 2 ^ 480 * tableCrc := by
    rw [List.take_append_of_le_length (by omega), List.take_of_length_le (by omega), tableLine, ofLe_append,
      ofLe_leBytes, Nat.mod_eq_of_lt (Nat.lt_of_lt_of_le hc (by norm_num)), show tableHdr.length = 60 from length_leBytes _ _,
      show (256 : Nat) ^ 60 = 2 ^ 480 by decide +kernel]
  have ha : ofLe tableHdr < 2 ^ 480 := by decide +kernel
  simp only [tableHead, hx, fld_check _ _ ha hc]
  generalize tableCrc = c
  simp only [fld_below _ _ _ _ (show 0 + 16 ≤ 480 by norm_num), fld_below _ _ _ _ (show 16 + 2 ≤ 480 by norm_num),
    fld_below _ _ _ _ (show 18 + 2 ≤ 480 by norm_num), fld_below _ _ _ _ (show 20 + 3 ≤ 480 by norm_num),
    fld_below _ _ _ _ (show 24 + 10 ≤ 480 by norm_num), fld_below _ _ _ _ (show 40 + 8 ≤ 480 by norm_num),
    fld_below _ _ _ _ (show 64 + 32 ≤ 480 by norm_num), fld_below _ _ _ _ (show 96 + 32 ≤ 480 by norm_num),
    fld_below _ _ _ _ (show 128 + 32 ≤ 480 by norm_num), fld_below _ _ _ _ (show 160 + 32 ≤ 480 by norm_num),
    fld_below _ _ _ _ (show 192 + 32 ≤ 480 by norm_num), fld_below _ _ _ _ (show 224 + 32 ≤ 480 by norm_num),
    fld_below _ _ _ _ (show 256 + 32 ≤ 480 by norm_num), TableHead.mk.injEq, and_true]
  decide +kernel

/-- CHECK agrees, and no other check of R136 fails. -/
theorem table_accepted : tableRefusal (tableLine ++ List.replicate 16320 0) = 0 := by
  have hl : tableLine.length = 64 := by simp only [tableLine, tableHdr, List.length_append, length_leBytes]
  have h1 : (tableLine ++ List.replicate 16320 (0 : Byte)).take 60 = tableHdr := by
    have hh : tableHdr.length = 60 := length_leBytes _ _
    rw [tableLine, List.append_assoc, List.take_append_of_le_length (Nat.le_of_eq hh.symm)]
    exact List.take_of_length_le (Nat.le_of_eq hh)
  have h2 : ((tableLine ++ List.replicate 16320 (0 : Byte)).drop 64).take (16384 - 64) = List.replicate 16320 0 := by
    rw [List.drop_append, hl, List.drop_eq_nil_of_le (Nat.le_of_eq hl), List.nil_append, Nat.sub_self, List.drop_zero]
    exact List.take_of_length_le (by simp only [List.length_replicate]; norm_num)
  unfold tableRefusal
  rw [tableHead_line, h1, h2, ← tableCrc]
  simp only [bne_self_eq_false]
  clear h1 h2 hl
  decide +kernel

/-- A table's bytes from a line on, of which only the first lies in the store. -/
theorem table_bytes (s : State) (h : s.cellLine 0 32767 = tableLine) :
    (List.range 256).flatMap (fun i => (List.range 64).map (fun j => s.cellByte 0 ((32767 + i) * 64 + j))) =
      tableLine ++ List.replicate 16320 0 := by
  have hz : ∀ n, (List.range n).flatMap (fun i => (List.range 64).map (fun j => s.cellByte 0 ((32767 + (i + 1)) * 64 + j))) =
      List.replicate (64 * n) 0 := by
    intro n
    have h1 : ∀ i, (List.range 64).map (fun j => s.cellByte 0 ((32767 + (i + 1)) * 64 + j)) = List.replicate 64 0 := by
      intro i
      refine List.ext_getElem (by simp) (fun j h1 h2 => ?_)
      simp only [List.getElem_map, List.getElem_range, List.getElem_replicate, State.cellByte, cellBytes]
      rw [if_neg (by omega)]
    induction n with
    | zero => rfl
    | succ n ih =>
      simp only [h1] at ih ⊢
      rw [List.range_succ (n := n), List.flatMap_append, ih, List.flatMap_cons, List.flatMap_nil, List.append_nil,
        List.replicate_append_replicate, Nat.mul_succ]
  rw [List.range_succ_eq_map (n := 255), List.flatMap_cons, List.flatMap_map, hz 255]
  exact congrArg (· ++ List.replicate 16320 0) h

/-- A line as written. -/
theorem line_written (s : State) (c line : Nat) (l : List Byte) (h : line < 32768) (hl : l.length = 64) (hw : memWf 0 s.mem.ram = true) :
    ({ s with mem := { s.mem with ram := memWrite 0 s.mem.ram (cellBase + c * cellBytes + line * 64) l } } : State).cellLine c line = l := by
  refine List.ext_getElem (by rw [hl]; simp only [State.cellLine, List.length_map, List.length_range]) (fun i h1 h2 => ?_)
  have hb : line * 64 + i < cellBytes := by show _ < 0x200000; omega
  simp only [State.cellLine, List.getElem_map, List.getElem_range, State.cellByte, if_pos hb, ← Nat.add_assoc]
  exact memGet_memWrite_in 0 _ _ _ i hw h2

/-- The plans of the SFU and of a sampler come to an entry. -/
def sfuComes : State := comes (flow 0 0) [(0, [2, 2]), (0x206, [9])]

/-- The table is in cluster 0's last line. -/
def tabled : State :=
  { sfuComes with mem := { sfuComes.mem with ram := memWrite 0 sfuComes.mem.ram (cellBase + 0 * cellBytes + 32767 * 64) tableLine } }

theorem tabled_line : tabled.cellLine 0 32767 = tableLine :=
  line_written sfuComes 0 32767 tableLine (by decide) (by simp only [tableLine, tableHdr, List.length_append, length_leBytes]) rfl

def loading : Desc := BitVec.ofNat 512 (3 + 1 * 2 ^ 4 + 15 * 2 ^ 6 + 32767 * 2 ^ 64)

theorem test_table_load_witness :
    tabled.clusterPart 0 = some 0 ∧ tabled.mayIssue 0 0 2 dva.toNat (tabled.awaits 0 (sfuDesc loading.toNat).spans) = true ∧
    (sfuDesc loading.toNat).op < 2 ∧ (sfuDesc loading.toNat).kind = 3 ∧
    (tabled.issued 0 0).sfuCheck 0 0 dva.toNat { sfuDesc loading.toNat with op := 1 } = 0 := by
  refine ⟨by decide +kernel, by decide +kernel, by decide +kernel, by decide +kernel, ?_⟩
  rw [show ({ sfuDesc loading.toNat with op := 1 } : SfuDesc) = ⟨3, 1, 15, 0, 0, false, false, 0, 0, 32767, 0, 0, 0, 0, 0⟩ by decide +kernel]
  have h : (tabled.issued 0 0).cellLine 0 32767 = tableLine := by
    rw [← tabled_line]
    simp only [State.cellLine, State.cellByte, State.issued, State.arrived, State.advance, State.setGrid_mem, State.lateFor_mem]
  simp only [State.sfuCheck, table_bytes _ h, table_accepted, show (tabled.issued 0 0).inNear 0 dva.toNat = true by decide +kernel]
  decide

theorem test_evaluate_and_sample_witness :
    let s := { sfuComes with slots := [(0, .loaded [] false)] }
    let d : Desc := BitVec.ofNat 512 3
    s.sfuCheck 0 0 dva.toNat { sfuDesc d.toNat with op := 0 } = 0 ∧ (run (.sfuEvaluate 0 dva d) s).running.length = 1 ∧
    (let q : Desc := BitVec.ofNat 512 (4 + 0x3F800000 * 2 ^ 128)
     s.mayIssue 0 0x206 9 dva.toNat false = true ∧ s.sampleCheck 0 dva.toNat (sampleDesc q.toNat) = 0 ∧ (sampleDesc q.toNat).rows = 0 ∧
       ((run (.sample 0 3 dva q) s).running.map (·.cycles)) = [3000]) ∧
    (let q : Desc := BitVec.ofNat 512 (4 + 512 * 2 ^ 16 + 0x3F800000 * 2 ^ 128)
     s.sampleCheck 0 dva.toNat (sampleDesc q.toNat) = 0 ∧ (sampleDesc q.toNat).rows = 512) := by decide +kernel

theorem test_greedy : (sampleRow 0 0 0 0x3F800000 0 false [0x3F800000, 0x40000000, 0x40000000]).token = 1 ∧
    [0x3F800000, 0x40000000].any f32isNan = false ∧ f32eq 0x40000000 ([0x3F800000, 0x40000000].foldl f32max f32NegInf) = true ∧
    (sampleRow 0 0 0 0x3F800000 0 false [f32NegInf, f32NegInf]).token = 0xFFFFFFFF := by decide +kernel

theorem test_samplers_and_secrets_witness :
    (up.grants .mailbox 0x4802 0x05 1 = true ∧ up.bindings = [] ∧ (run (.samplerEnable .mailbox 5) up).reg kSamplerEnable = 5) ∧
    (let s := comes up [(0x206, [9])]
     bit (s.reg kSamplerEnable) 3 = true ∧ (run (.samplerEnable .mailbox 7) s).reg kSamplerRefusal = 0x2201) ∧
    ((gusty.part 0).charter.isSome = true ∧ lockedState (gusty.part 0).state = true ∧
      (run (.jobSecret 0 (.received (List.replicate 32 1) [2] 9 3)) gusty).reg (kGustNumber 0) = 9 ∧
      (run (.jobSecret 0 (.received (List.replicate 32 1) [2] 9 3)) gusty).reg (kCkptSeq 0) = 3) ∧
    (let s := { gusty with sec := keyed.sec }
     (s.drbg 32 false).any (fun x => (x.2.drbg 32 false).isSome) = true ∧
       ((run (.jobSecret 0 .drawn) s).part 0).secret.isSome = true) := by decide +kernel

/-! ### Crosswind -/

/-- A peer whose half of the key exchange is the curve's base point. -/
def peer3 : PeerInfo := ⟨3, 7, true, beBytes 48 p384g.1 ++ beBytes 48 p384g.2, true, [], [], 0, 77⟩

theorem test_port_enable_witness :
    (let s := regs up [(kPortState 15, 0)]
     s.grants .mailbox 0x701F 0x05 1 = true ∧ (s.granted .mailbox 0x701F 5).reg (kPortEnable 15) = 0 ∧ (s.granted .mailbox 0x701F 5).reg kModuleId = 1 ∧
       (run (.portEnable .mailbox 15 false) s).reg (kPortState 15) = 1 ∧ (run (.portEnable .mailbox 15 true) s).reg (kPortState 15) = 4) ∧
    (one.grants .mailbox 0x7010 0x05 1 = true ∧ (run (.portDisable .mailbox 0) one).reg (kPortState 0) = 0) := by decide +kernel

def atStep (k : Nat) : State := one.setPort 0 { one.port 0 with step := k }

theorem test_bringup_witness :
    (run (.portBringupStep 0 peer3) (atStep 1)).reg (kPortState 0) = 1 ∧ (run (.portBringupStep 0 peer3) (atStep 3)).reg (kPeerModule 0) = 3 ∧
    (let s := { regs (atStep 4) [(kPortOwner 0, 0xFF)] with sec := keyed.sec }
     s.admitPeer 0 peer3 = 0 ∧ ((run (.portBringupStep 0 peer3) s).port 0).step = 5) ∧
    (atStep 4).admitPeer 0 { peer3 with authentic := false } ≠ 0 ∧
    (run (.portBringupStep 0 { peer3 with authentic := false }) (atStep 4)).reg (kPortState 0) = 4 ∧
    ((run (.portBringupStep 0 peer3) (atStep 5)).port 0).delay = 77 := by decide +kernel

theorem test_port_failures_witness :
    one.reg (kPortState 0) = 3 ∧ (one.part 0).state = stRunning ∧ one.reg (kPortOwner 0) = 0 ∧
    [Instr.laneFail 0, .frameLockLost 0].all (fun c => (run c one).reg (kPortState 0) == 4 && ((run c one).part 0).state == stHeld) = true ∧
    (run (.portStepTimeout 0) (atStep 2)).reg (kPortState 0) = 4 ∧
    (let l : Lending := ⟨3, 3, 2, 1, 10⟩
     let s := { regs one [(kPortOwner 0, 0x80)] with fabric := { one.fabric with lendings := [l] } }
     bit l.ports 0 = true ∧ bitsOf l.ports 16 = [0] ∧ (run (.laneFail 0) s).fabric.lendings = []) := by decide +kernel

/-- A frame that carries nothing, and its tag under a key for a generation's frame. -/
def tagOf (key : List Byte) (gen frame : Nat) : List Byte := (gcmSeal key (frameNonce gen frame) [] []).2
def framed : State := one.setPort 0 { one.port 0 with rxKey := List.replicate 32 1, rxGen := 4, rxFrame := 9, linkKey := List.replicate 48 2 }

theorem test_frame_witness :
    gcmOpen (framed.port 0).rxKey (frameNonce 4 9) [] [] (tagOf (List.replicate 32 1) 4 9) = some [] ∧
    gcmOpen (framed.port 0).rxKey (frameNonce 4 9) [] [] [] = none ∧ (framed.port 0).waiting = [] ∧
    (run (.frameIn 0 ⟨[], [], false, [], none, []⟩) framed).reg (kTagFails 0) = 1 ∧
    (run (.rekey 0) framed).reg (kRekeys 0) = 1 ∧ framed.sec.failed = false := by decide +kernel

/-- A frame that misses its seal flit, which a replay brings in the next frame. -/
def broken : State := run (.frameIn 0 ⟨[], tagOf (List.replicate 32 1) 4 9, false, [48, 48], none, [⟨2, some 95, 4⟩]⟩) framed

def again (ok : Bool) : FrameIn := ⟨[], [], false, [0], some ⟨48, ok, List.replicate 256 7⟩, []⟩

theorem test_replay_witness :
    ((broken.port 0).held.map (·.missing)) = [[48]] ∧ (broken.port 0).rxFlits = (framed.port 0).rxFlits ∧
    (broken.port 0).held.any (fun x => x.first == 48 - 48 % frameFlits && x.missing.contains (48 % frameFlits)) = true ∧
    ((broken.port 0).held.map (fun h => (h.fill 48 []).missing)) = [[]] ∧
    ((broken.port 0).held.map (fun h => gcmOpen (h.fill 48 []).key (h.fill 48 []).nonce [] (h.fill 48 []).cipher (h.fill 48 []).tag)) =
      [some []] ∧
    (run (.frameIn 0 (again true)) broken).reg (kReplays 0) = 1 ∧ (run (.frameIn 0 (again true)) broken).reg (kPortState 0) = 3 ∧
    tabGet ((run (.frameIn 0 (again false)) broken).port 0).replayed 48 0 = 1 ∧
    (run (.frameIn 0 (again false)) (broken.setPort 0 { broken.port 0 with replayed := [(48, 7)] })).reg (kPortState 0) = 4 := by
  decide +kernel

theorem test_next_key_witness :
    let key := linkKeyOf (framed.port 0).linkKey 5 (framed.reg (kPeerModule 0)) (framed.reg kModuleId)
    gcmOpen key (frameNonce 5 0) [] [] (tagOf key 5 0) = some [] := by decide +kernel

theorem test_module_id_witness :
    (let s := unlocked (regs up [(kPortState 3, 4)])
     s.grants .mailbox 0x7001 0x01 2 = true ∧ ((List.range 16).all (fun n => s.reg (kPortState n) == 0 || s.reg (kPortState n) == 4)) = true ∧
       (run (.moduleId .mailbox 16383) s).reg kModuleId = 16383) ∧
    (run (.moduleId .mailbox 0) (unlocked one)).reg kFabricRefusal = 0x7201 := by decide +kernel

theorem test_forwarding_witness :
    let s := { one with fabric := { one.fabric with fwdStaged := [(3, 0x80 + 6 * 16)] } }.setPart 0 { partRun with state := stConfigured }
    s.grants .mailbox 0x7020 0x02 1 = true ∧ (s.granted .mailbox 0x7020 2).stagedReg (kPortCollShare 0) ≤ 32 ∧
    (s.granted .mailbox 0x7020 2).reg (kJobHops 0) = 6 ∧ (run (.fwdEnable .mailbox 0) s).fwdEntry 0 3 = 0xE0 := by decide +kernel

theorem test_header_round_trip : unpackHdr (packHdr (hdr 1 64 0xFFFF 0xFFFFFFFF 6 1)) = hdr 1 64 0xFFFF 0xFFFFFFFF 6 1 := by
  decide +kernel

theorem test_requests_served_witness :
    let k := pkt (hdr 1 64 9 0 0 0)
    linked.takesPacket 0 1 k = true ∧ (packetHdr 1 k).len = 0 ∧ linked.requester 0 (packetHdr 1 k) = .ok (.part 0) ∧
    linked.admitsArrival (.part 0) (packetHdr 1 k) = true ∧
    (linked.readLine (.part 0) 7 64 1 0).1 = ⟨zeros64, false, false, 0⟩ ∧ (run (.readRequest 0 k) linked).fabric.packets.length = 1 ∧
    (ranged.readLine (.part 0) 7 65536 1 0).1.err ≠ 0 ∧
    (linked.writeLine (.part 0) 7 64 1 0 (pkt (hdr 3 64 9 0 0 0)).data false).1 = 0 ∧
    linked.takesPacket 0 3 (pkt (hdr 3 64 9 0 0 0)) = true ∧ linked.takesPacket 0 4 (pkt (hdr 4 64 9 0 0 0)) = true ∧
    ((run (.writeAcknowledged 0 (pkt (hdr 3 64 9 0 0 0))) linked).fabric.packets.map (·.port)) = [0] ∧
    (let full := { linked with fabric := { linked.fabric with arrivals := [⟨0, packHdr (packetHdr 1 k), []⟩] } }
     full.requester 0 (packetHdr 1 k) = .ok (.part 0) ∧ full.admitsArrival (.part 0) (packetHdr 1 k) = false ∧
       (run (.readRequest 0 k) full).fabric.arrivals.length = 2) ∧
    (ranged.requester 0 (packetHdr 1 k) = .error 0x7301 ∧ (run (.readRequest 0 k) ranged).reg kNoticesSent = 1) ∧
    (let free := regs ranged [(kPortOwner 0, 0xFF)]
     free.requester 0 (packetHdr 1 k) = .error 0x6302 ∧ (run (.readRequest 0 k) free).reg kNoticesSent = 1) := by decide +kernel

theorem test_answers_witness :
    linked.reg (kPortState 0) = 3 ∧ (linked.answer 0 2 (hdr 1 64 9 7 0 0) 0 0 []).fabric.packets.map (fun x => (unpackHdr x.header).addr) = [3 * 2 ^ 50] := by decide +kernel

theorem test_atomics_witness :
    linked.takesPacket 0 6 (pkt (hdr 6 64 9 0 0 0)) = true ∧
    linked.admitsArrival (.part 0) (packetHdr 6 (pkt (hdr 6 64 9 0 0 0))) = true ∧
    (run (.cmpSwap 0 (pkt (hdr 6 64 9 0 0 0))) linked).fabric.packets.length = 1 := by decide +kernel

theorem test_fetch_add : (run (.fetchAdd 0 (pkt (hdr 6 64 9 0 0 0))) linked).fabric.packets.length = 1 := by decide +kernel

theorem test_atomic_word :
    (linked.atomic (.part 0) 64 1 0 6 3 1).1 = 0 ∧ (linked.atomic (.part 0) 64 1 0 0 5 0).2.1 = 0 := by decide +kernel

theorem test_atomic_poison :
    let s := ((linked.locate 64).map (fun l => linked.storeLine l 64 zeros64 [0, 0, 0] 1 true)).getD linked
    (s.readLine (.part 0) 7 64 1 0).1 = ⟨zeros64, true, true, 0⟩ ∧ (s.atomic (.part 0) 64 1 0 0 5 0).2.2.1 = true := by decide +kernel

/-- A request of `kind` with tag 9 that is outstanding. -/
def waiting (s : State) (kind : Nat) (x : Sink) : State :=
  { s with fabric := { s.fabric with remotes := [⟨9, kind, 0, mkHandle 4 0 1 0, s.now, 1, x⟩] } }

theorem test_acknowledgements_witness :
    (linked.takesPacket 0 5 (pkt (hdr 5 0 9 0 0 0)) = true ∧ ((waiting linked 3 .nothing).waiting 0 9 [3]).isSome = true ∧
      (run (.writeAcknowledgement 0 (pkt (hdr 5 0 9 0 0 0))) (waiting linked 3 .nothing)).fabric.remotes = []) ∧
    (run (.atomicResponse 0 (pkt (hdr 7 0 9 0 0 1))) (waiting linked 6 .nothing)).fabric.atomics = [(9, 0, true)] := by decide +kernel

theorem test_response_lands_witness :
    let s := waiting (run (.updraft 0 0 dva (BitVec.ofNat 512 (5 + 2 ^ 6 + 1 * 2 ^ 16 + mkHandle 5 0 1 0 * 2 ^ 32 + 1 * 2 ^ 128 + 1 * 2 ^ 160 +
      1 * 2 ^ 192 + 7 * 2 ^ 320))) (flow 0 0)) 1 (.lines 0 0 0 1)
    s.takesPacket 0 2 (pkt (hdr 2 0 9 0 0 1)) = true ∧ (s.waiting 0 9 [1]).isSome = true ∧ (s.transfer? 0 0).isSome = true ∧ s.mem.wf = true ∧
    (run (.readResponse 0 (pkt (hdr 2 0 9 0 0 1))) s).cellPoisoned 0 7 = true := by decide +kernel

theorem test_notices_and_timeouts_witness :
    let f := mkHandle 4 0 1 0
    let s := flow 0 0
    (s.noticeFence 0 f).isSome = true ∧ s.takesPacket 0 8 (pkt (hdr 8 0 9 f 0x7301 0)) = true ∧
    ((run (.failureNotice 0 (pkt (hdr 8 0 9 f 0x7301 0))) s).fence? f).map (fun x => (x.reason, x.remote)) = some (0x7301, true) ∧
    (s.noticeFence 0 1 = none ∧ (run (.failureNotice 0 (pkt (hdr 8 0 9 1 0x7301 0))) s).reg kNoticesStale = 1) ∧
    (let w := waiting s 1 .nothing
     let e := w.now + w.reg kRemoteTimeoutUs * 1000
     w.now < e ∧ (run (.remoteTimeout 9 (e - 1)) w).fabric.remotes.length = 1 ∧
       ((run (.remoteTimeout 9 e) w).fence? f).map (·.reason) = some 0x7601 ∧ ((run (.remoteTimeout 9 e) w).part 0).state = stHeld) := by
  decide +kernel

/-- Ports 0 and 1 free, UP and facing module 3; far group 15 scrubbed and free; 1 GiB may be lent. -/
def lender : State :=
  regs up [(kPortState 0, 3), (kPortOwner 0, 0xFF), (kPeerModule 0, 3), (kPortState 1, 3), (kPortOwner 1, 0xFF), (kPeerModule 1, 3),
    (kFarScrubbed, 0x8000), (kLendLimitGib, 1)]
def ask : LendRequest := ⟨2 ^ 30, 1000, 3, 3, 7, []⟩

theorem test_lendings_witness :
    lender.placeLending ask.sizeBytes = (0, [⟨15, (unitWindow 31).1, 2 ^ 30⟩]) ∧ lender.reg (kOwner 0) = 0xFF ∧
    lender.reg kLentBytes + ask.sizeBytes ≤ lender.reg kLendLimitGib * 2 ^ 30 ∧ bitsOf ask.ports.toNat 16 = [0, 1] ∧
    lender.lentRate 15 + ask.rateBpu ≤ lender.activeChannels 31 * 14500 ∧
    (let u := run (.lendRequest 1 ask) lender
     u.reg (kPortOwner 1) = 0x80 ∧ (u.fabric.lendings.find? (fun x => x.entry == 0)).isSome = true ∧
       (run (.lendEnd 0) u).reg (kLendState 0) = 2) ∧
    (run (.lendRequest 0 { ask with sizeBytes := 65535 }) lender).reg kFabricRefusal = 0x7401 := by decide +kernel

/-! ### Engines -/

/-- `linked`, where partition 0's object spans a page of far memory, one of near and one of host memory, the
engines' plans run, and group 0 holds the ranks that `mids` names: one level, its staging in near memory. -/
def eng (mids : List Nat) : State :=
  { regs (comes linked ([0x200, 0x201, 0x202].map (fun u => (u, [9, 9])))) [(kGenSource, 0), (kUpdOrderGen 0, 6)] with
    objs := { linked.objs with
      fences := [⟨mkHandle 4 0 1 0, 0, false, 2 ^ 64 - 1, false, false, false, 0, 0, 0, false, false, false, false⟩]
      memobjs := [⟨mkHandle 3 0 1 0, 0, false, false, false, 2 ^ 20, 3 * 2 ^ 16,
        [(0, 2 ^ 50 + farBase), (1, 2 ^ 50), (2, 2 ^ 50 + hostBase)]⟩]
      groups := [⟨mkHandle 7 0 1 0, 0, 2, 5 * 2 ^ 32 + 1 * 2 ^ 48 + mids.length * 2 ^ 80 + (mids.length - 1) * 2 ^ 96 +
        mkHandle 4 0 1 0 * 2 ^ 144 + mids.length * 2 ^ 176 + (dva.toNat + 4096) * 2 ^ 256 + 2 * 2 ^ 320 + 6 * 2 ^ 352, mids, false⟩] } }

def farVa : Nat := 2 ^ 20
def hostVa : Nat := 2 ^ 20 + 2 ^ 17

theorem test_entry_complete_witness :
    let s := { eng [1] with running := [⟨0, 0, 0, 0, 10, [⟨0, 5, [1, 2], false⟩, ⟨0, 6, [9], false⟩], some ⟨1, 1, 0, true, [4], [false]⟩, none, 0, mkHandle 4 0 1 0, none, none⟩] }
    s.mem.wf = true ∧ s.stalled = [] ∧ (s.running.find? (fun z => z.part == 0 && z.unitId == 0 && z.unit == 0)).isSome = true ∧
    (let u := run (.entryComplete 0 0 0) s
     u.running = [] ∧ u.cellByte 0 5 = 1 ∧ u.cellByte 0 6 = 9 ∧ (u.fence? (mkHandle 4 0 1 0)).map (·.value) = some 0) ∧
    (let e := { eng [1] with bindings := [{ planOf (eng [1]) 0x202 [] with entries := [(eng [1]).planClock 0 0x202 + 15 * 2 ^ 32] }] }
     e.comesTo 0 0x202 15 0 = true ∧ ((run (.entryComplete 0 0x202 15) e).grid 0).ended = [0x202]) := by decide +kernel

theorem test_sums_keep_no_order :
    combine false [leBytes 64 0x3F800000, leBytes 64 0x7F7FFFFF, leBytes 64 0xFF7FFFFF] =
      combine false [leBytes 64 0x7F7FFFFF, leBytes 64 0xFF7FFFFF, leBytes 64 0x3F800000] ∧
    combine false [leBytes 64 0x3F800000, leBytes 64 0x7F7FFFFF, leBytes 64 0xFF7FFFFF] = leBytes 64 0x3F800000 := by decide +kernel

/-- A collective descriptor: COP, LEVEL, COUNT, lines, and source and destination in near memory. -/
def coll (cop level count lines : Nat) : Desc :=
  BitVec.ofNat 512 (6 + cop * 2 ^ 4 + level * 2 ^ 8 + 1 * 2 ^ 24 + 1 * 2 ^ 32 + 1 * 2 ^ 40 + count * 2 ^ 48 + mkHandle 7 0 1 0 * 2 ^ 64 + lines * 2 ^ 96 +
    dva.toNat * 2 ^ 128 + (dva.toNat + 1024) * 2 ^ 192 + (dva.toNat + 2048) * 2 ^ 256 + 1 * 2 ^ 320)

theorem test_collective_checks_witness :
    (∀ c ∈ [(1, 0, 511, 1), (2, 0, 1, 1), (3, 1, 0, 1), (4, 1, 0, 1), (5, 1, 0, 1), (3, 1, 0, 2), (4, 1, 0, 2), (3, 1, 0, 0)],
      let x := { collDesc (coll c.1 c.2.1 c.2.2.1 c.2.2.2).toNat with cop := c.1 }
      (eng [1]).mayIssue 0 0x200 9 dva.toNat ((eng [1]).collAwaits 0 x) = true ∧ ((eng [1]).issued 0 0x200).collCheck 0 dva.toNat x = 0 ∧
        ((eng [1, 3]).issued 0 0x200).collCheck 0 dva.toNat x = 0) ∧
    ((eng [1]).issued 0 0x200).collCheck 0 dva.toNat (collDesc (coll 3 2 0 1).toNat) ≠ 0 := by decide +kernel

theorem test_collective_entries_witness :
    (run (.reduceScatter 0 dva (coll 3 1 0 0)) (eng [1])).reg kEmptyCollectives = 1 ∧
    (run (.tileSink 0 dva (coll 1 0 511 1)) (eng [1])).coll.windows.map (·.cluster) = [511] ∧
    ((eng [1]).collRead 0 0 dva.toNat dva.toNat 1).2.1 = false ∧
    ((run (.localSum 0 dva (coll 2 0 1 1)) (eng [1])).running.map (·.cycles)) = [3000] ∧
    ((eng [1]).group? (mkHandle 7 0 1 0)).any (fun g => (eng [1]).lineIn 0 g (collDesc (coll 3 1 0 1).toNat) 0 0 &&
      (eng [1]).sumLines g (collDesc (coll 3 1 0 1).toNat) == [(0, 0)]) = true ∧
    (run (.reduceScatter 0 dva (coll 3 1 0 1)) (eng [1])).coll.waits = [] ∧
    (run (.reduceScatter 0 dva (coll 3 1 0 2)) (eng [1, 3])).coll.waits = [(0, 0)] ∧
    ((run (.allGather 0 dva (coll 4 1 0 2)) (eng [1, 3])).fabric.packets.map (·.port)) = [0] := by decide +kernel

theorem test_arrival_counts_witness :
    let k := pkt { hdr 9 (dva.toNat + 4096 + 64 * 63) 5 0 0 0 with stage := 1 }
    let s := eng [1, 3]
    s.takesPacket 0 9 k = true ∧ s.requester 0 (packetHdr 9 k) = .ok (.part 0) ∧ s.coll.waits = [] ∧
    (s.objs.groups.find? (fun g => hPart g.handle == 0 && decide (2 ≤ g.state) && g.no == 5)).any (fun g => g.slotAddr 1 0 == dva.toNat + 4096) = true ∧
    (s.memobjAt 0 (dva.toNat + 4096 + 64 * 63)).isSome = true ∧ (s.writeVa 0 7 (dva.toNat + 4096 + 64 * 63) 1 0 k.data false).1 = 0 ∧
    (run (.collectiveData 0 k) s).countOf (countKey 0 5 1 31) = 1 := by decide +kernel

/-- An update descriptor for `n` parameters: gradient and high halves in near memory, the rest in far, the record in
host memory. -/
def upd (uop n : Nat) : Desc :=
  BitVec.ofNat 512 (7 + uop * 2 ^ 4 + 1 * 2 ^ 16 + n * 2 ^ 32 + dva.toNat * 2 ^ 64 + (dva.toNat + 8192) * 2 ^ 128 + farVa * 2 ^ 192 +
    (farVa + 4096) * 2 ^ 256 + (farVa + 8192) * 2 ^ 320 + hostVa * 2 ^ 384 + 0x8000 * 2 ^ 448 + 0x8000 * 2 ^ 464)

/-- A commit record: norm 9.0 of 3 contributors, COMMITTED, ORDER_GEN 6. -/
def recd (flags : Nat) : State :=
  (regs (eng [1]) [(kUpdFlags 0, 1), (kNormCur 0, 0x40000000), (kClipMode 0, 0)]).hostWrite 0 (leBytes 16 (0x41100000 + 3 * 2 ^ 64 + flags * 2 ^ 80 + 1 * 2 ^ 83 + 6 * 2 ^ 96))

theorem test_update_checks_witness :
    (recd 0).mayIssue 0 0x201 9 dva.toNat false = true ∧ ((recd 0).issued 0 0x201).inNear 0 dva.toNat = true ∧
    (∀ c ∈ [(0, 0), (0, 256), (1, 0), (1, 256), (2, 0), (3, 0), (4, 0)],
      let x := { updDesc (upd c.1 c.2).toNat with uop := c.1 }
      ((recd 0).commitRecord 0 x).2.updCheck 0 dva.toNat ((recd 0).commitRecord 0 x).1 x = 0) ∧
    ((recd 0).commitRecord 0 (updDesc (upd 2 0).toNat)).1 = 0x41100000 + 3 * 2 ^ 64 + 1 * 2 ^ 83 + 6 * 2 ^ 96 := by decide +kernel

theorem test_update_entries_witness :
    (run (.adamw 0 dva (upd 0 0)) (recd 0)).reg (kEmptyUpdates 0) = 1 ∧ (run (.initW 0 dva (upd 1 0)) (recd 0)).reg (kEmptyUpdates 0) = 1 ∧
    (run (.fold 0 dva (upd 2 0)) (recd 0)).reg (kNormSqAcc 0) = 0x3F800000 ∧ (run (.fold 0 dva (upd 2 0)) (recd 4)).updFlag 0 2 = true ∧
    (recd 0).reg (kClipMode 0) ≠ 1 ∧ (run (.closeStep 0 dva (upd 3 0)) (regs (recd 0) [(kNormSqAcc 0, 0x41100000)])).reg (kNormCur 0) = 0x40400000 ∧
    (run (.stepEnd 0 dva (upd 4 0)) (recd 0)).reg (kNormPrev 0) = 0x40000000 := by decide +kernel

/-- An entry of `n` parameters that runs on the update engine, with one chunk to do. -/
def updWork (uop n : Nat) : EngineWork :=
  ⟨dva.toNat, (upd uop n).toNat, uop, 0, 0, 0, 1, 1000, false, false⟩
def updRuns (uop n : Nat) : State :=
  { recd 0 with running := [⟨0, 0x201, 9, 1100000, 1500, [], none, none, 0, 0, none, some (updWork uop n)⟩] }

theorem test_update_chunk_witness :
    ((updRuns 0 1).chunkGrad 0 { updDesc (updWork 0 1).desc with uop := 0 } 0 1).1 = 0 ∧
    (let s := { updRuns 0 1 with mem := { (updRuns 0 1).mem with scrubbed := [] } }
     (s.chunkGrad 0 { updDesc (updWork 0 1).desc with uop := 0 } 0 1).1 ≠ 0 ∧
       (s.updChunk 0 (updWork 0 1)).reg (kChunksRefused 0) = 1) := by
  decide +kernel

theorem test_update_completes_witness :
    [0, 1].all (fun op => let s := updRuns op 0
      !((s.updChunk 0 (updWork op 0)).grid 0).held && (s.updChunk 0 (updWork op 0)).reg (kUpdProgress 0) == dva.toNat &&
        (run (.entryComplete 0 0x201 9) s).running.isEmpty) = true := by decide +kernel

theorem test_settings_witness :
    (let s := staging (((eng [1]).setPart 0 { partRun with state := stConfigured }).setKeySlot 1 ⟨true, [], 1, 0, 1, true, false⟩)
       [(kMaxNorm 0, 0x3F800000), (kMaxLost 0, 1), (kUpdFence 0, mkHandle 4 0 1 0), (kCkptFence 0, mkHandle 4 0 1 0),
        (kCkptKeySlot 0, mkHandle 8 0 1 0), (kRestoreKeySlot 0, mkHandle 8 0 1 1)]
     s.grants .mailbox 0x7810 0x11 1 = true ∧ (updOp 0 (s.granted .mailbox 0x7810 0x11)).1 = 0 ∧
       s.grants .mailbox 0x8010 0x0A 1 = true ∧ (ckptOp 0 (s.granted .mailbox 0x8010 0x0A)).1 = 0) ∧
    (let s := staging up [(kClipMode 0, 3), (kShrinkWaitMs 0, 4)]
     (s.granted .mailbox 0x7810 0x11).updRangesOk 0 = false ∧ (run (.updEnable .mailbox 0) s).reg (kUpdateRefusal 0) = 0x8002 ∧
       (s.granted .mailbox 0x8010 0x0A).ckptRangesOk 0 = false ∧ (run (.ckptEnable .mailbox 0) s).reg (kCkptRefusal 0) = 0x9002) := by decide +kernel

/-- A checkpoint descriptor for `n` parameters. -/
def ckpt (cop n : Nat) : Desc :=
  BitVec.ofNat 512 (8 + cop * 2 ^ 4 + 1 * 2 ^ 8 + 1 * 2 ^ 16 + n * 2 ^ 32 + 3 * 2 ^ 64 + 2 * 2 ^ 80 + dva.toNat * 2 ^ 128 + farVa * 2 ^ 192 +
    (farVa + 4096) * 2 ^ 256 + (farVa + 8192) * 2 ^ 320 + (farVa + 16384) * 2 ^ 384)

theorem test_checkpoint_entries_witness :
    (eng [1]).mayIssue 0 0x202 9 dva.toNat false = true ∧
    (∀ c ∈ [(0, 0), (0, 256), (1, 0), (1, 256), (2, 0), (2, 256)],
      ((eng [1]).issued 0 0x202).ckptCheck 0 dva.toNat { ckptDesc (ckpt c.1 c.2).toNat with cop := c.1 } = 0) ∧
    ((run (.ckptCopy 0 dva (ckpt 0 0)) (eng [1])).job 0).shards.map (·.index) = [2] ∧
    ((run (.ckptCopy 0 dva (ckpt 0 256)) (eng [1])).running.map (fun r => r.work.map (fun w => (w.done, w.total)))) = [some (0, 1)] ∧
    (run (.restore 0 dva (ckpt 1 0)) (eng [1])).running = [] ∧
    (run (.restore 0 dva (ckpt 1 256)) (eng [1])).peerPending 0 = false ∧
    ((run (.peerCopy 0 dva (ckpt 2 256)) (eng [1])).fabric.remotes.length = 32) := by decide +kernel

/-- A copy of one parameter that runs on the checkpoint engine, with its chunk to do. -/
def ckptRuns (cop : Nat) : State :=
  { eng [1] with running := [⟨0, 0x202, 9, 1100000, 1500, [], none, none, 0, 0, none,
    some ⟨dva.toNat, (ckpt cop 1).toNat, cop, 0, 0, 0, 1, 1000, false, false⟩⟩] }

theorem test_checkpoint_completes_witness :
    (ckptRuns 0).peerPending 0 = false ∧ (run (.entryComplete 0 0x202 9) (ckptRuns 0)).running = [] := by decide +kernel

theorem test_triggers_witness :
    (let s := regs (up.setJob 0 { Job.fresh with stepsSince := 5 }) [(kCkptEverySteps 0, 5), (kCkptPeriodS 0, 1)]
     s.stepsDue 0 = true ∧ s.reg (kCkptState 0) < 3 ∧ ((run (.ckptStepTrigger 0) s).job 0).snapArmed = true ∧
       (s.tick 1000000000).periodDue 0 = true ∧ ((run (.ckptPeriodTrigger 0 1000000000) s).job 0).snapArmed = true ∧
       (let t := regs s [(kCkptState 0, 3)]
        (t.job 0).snapDeferred = 0 ∧ (run (.ckptStepTrigger 0) t).reg (kCkptDeferred 0) = 1)) ∧
    (up.grants .mailbox 0x8010 0x0B 1 = true ∧ ((run (.ckptNow .mailbox 0) up).job 0).snapArmed = true) := by decide +kernel

/-- A drain of one shard of `n` parameters under the key of slot 0. -/
def drain (n : Nat) : State :=
  (regs (eng [1]) [(kCkptState 0, 3), (kCkptKeySlot 0, mkHandle 8 0 1 0), (kDrainAddr 0, hostVa)]).setJob 0
    { Job.fresh with shards := [⟨2, 0, n, 0, 1, false, false, []⟩] }

theorem test_drain_witness :
    ((drain 0).ownShards 0).map (·.index) = [2] ∧ (drain 0).keyOf (mkHandle 8 0 1 0) = some (List.replicate 32 1) ∧
    (let r := (drain 0).engineLines 0 9 0 0 0 1
     r.1.any (·.2) = false ∧ (r.2.job 0).shards.length = 1) ∧
    (let r := (drain 1).engineLines 0 9 0 0 32 1
     r.1.any (·.2) = true ∧ (r.2.job 0).shards.length = 1) ∧
    (run (.drainShard 0 2) (drain 1)).reg (kShardsRefused 0) = 1 := by decide +kernel

theorem test_manifest_witness :
    let s := { (drain 0).setJob 0 { Job.fresh with snapStep := 41 } with sec := { keyed.sec with alias_ := 1 } }
    (s.ownShards 0) = [] ∧ (s.writeParts 0).1 = true ∧ (((s.writeParts 0).2.job 0).snapDeferred) = 0 ∧
    (run (.manifestWrite 0) s).reg (kLastSealedStep 0) = 41 := by decide +kernel

/-- A manifest part of one rank and no shard: JOB_ID 7, sequence 3, STEP 41, NORM 1.0, signed by the scalar 1 with the
secret 2 (an ECDSA computed outside the model). -/
def manifest : List Byte :=
  leBytes 128 0x100000000000100000001000000003f8000000000000000000029000000030000000700000001 ++
    beBytes 96 0x08d999057ba3d2d969260045c55b97f089025959a6f434d651d207d19fb96e9e4fe0e86ebe0e64f85b96a9c75295df6158f8781733e2c712fcf56bcbf44f3f821db2e150ca96b46956ce1e9934455e6907ddb00053ddc9231eecd2e60e924833

theorem test_load_manifest_witness :
    let s := regs ((((eng [1]).setPart 0 { partRun with state := stConfigured }).setKeySlot 1 ⟨true, [], 1, 0, 1, true, false⟩).hostWrite 0 manifest)
      [(kRestoreAddr 0, hostVa), (kRestoreKeySlot 0, mkHandle 8 0 1 1)]
    let t := { s with sec := { s.sec with alias_ := 1 } }
    let g := t.granted .mailbox 0x8010 0x0D
    t.grants .mailbox 0x8010 0x0D 1 = true ∧ g.loadCheck 0 = 0 ∧ (ckptLoadOp 0 1 g).1 = 0 := by decide +kernel

/-- A checkpoint of one shard without parameters behind its one part, in a page of host memory of its own. -/
def shardHdr : List Byte := leBytes 64 (1 + 7 * 2 ^ 32 + farVa * 2 ^ 256)
def shard0 : List Byte :=
  let c := gcmSeal (List.replicate 32 2) (List.replicate 12 0) shardHdr []
  shardHdr ++ c.1 ++ c.2
def part0 : List Byte :=
  leBytes 128 (1 + 7 * 2 ^ 32 + 3 * 2 ^ 64 + 41 * 2 ^ 96 + 0x3F800000 * 2 ^ 160 + 1 * 2 ^ 224 + 1 * 2 ^ 240 + 1 * 2 ^ 256 + 1 * 2 ^ 272 + 1 * 2 ^ 304) ++
    leBytes 8 0 ++ sha384 shard0 ++ leBytes 8 0
def loads : State :=
  let o : MemObj := ⟨mkHandle 3 0 1 0, 0, false, false, false, 2 ^ 20, 2 ^ 22, [(2, 2 ^ 50 + hostBase), (34, 2 ^ 50 + hostBase + 2 ^ 16)]⟩
  let s := ((eng [1]).setKeySlot 1 ⟨true, List.replicate 32 2, 1, 0, 1, true, false⟩).setJob 0 { Job.fresh with loading := true }
  let s := regs { s with objs := { s.objs with memobjs := [o] } } [(kRestoreAddr 0, hostVa), (kRestoreKeySlot 0, mkHandle 8 0 1 1), (kCkptState 0, 4)]
  { (s.hostWrite 0 (part0 ++ ecdsaSign 1 2 part0)).hostWrite (2 ^ 16) shard0 with sec := { s.sec with alias_ := 1 } }

theorem test_load_runs_witness :
    ((loads.runLoad 0).job 0).restoring = true ∧ (loads.job 0).loading = true ∧ loads.reg (kCkptState 0) = 4 := by decide +kernel

/-- The same with an empty signature. -/
theorem test_load_fails_witness :
    let bad := loads.hostWrite 0 (part0 ++ List.replicate 96 0)
    (bad.runLoad 0).reg (kCkptRefusal 0) = 0x9104 := by
  decide +kernel

theorem test_load_refused_witness :
    let s := regs up [(kGustEnable 0, 1)]
    s.grants .mailbox 0x8010 0x0D 1 = true ∧ (run (.ckptLoad .mailbox 0) s).reg (kCkptRefusal 0) = 0x9202 := by decide +kernel

/-- A shrink of the job of group 0 that waits until 5 ms. -/
def shrinking (mids : List Nat) : State := (eng mids).setJob 0 { Job.fresh with shrinkAt := some 5000000, reports := [], lost := [] }

theorem test_shrink_witness :
    ((run (.livenessReport 0 (.report 3)) (shrinking [1, 3])).job 0).reports = [3] ∧
    ((run (.livenessReport 0 (.lostSet 3 [1])) (shrinking [1, 3])).job 0).lost = [1] ∧
    (let s := (shrinking [1, 3]).setJob 0 { (shrinking [1, 3]).job 0 with shrinkAt := some (10 ^ 9) }
     s.reg (kShrinkWaitMs 0) * 1000000 + 4999999 < 10 ^ 9 ∧ (run (.shrinkWaitExpiry 0 4999999) s).fabric.jobMsgs = []) ∧
    ((run (.shrinkWaitExpiry 0 4999999) (shrinking [1, 3])).fabric.jobMsgs = [⟨0, some ((shrinking [1, 3]).missing 0)⟩]) ∧
    ((shrinking [1]).lostSet 0 = [] ∧ ((run (.shrinkWaitExpiry 0 5000000) (shrinking [1])).job 0).recovery = true) ∧
    (let s := run (.livenessReport 0 (.lostSet 3 [1])) (shrinking [1, 3])
     s.reg kModuleId ∈ s.lostSet 0 ∧ ((run (.shrinkWaitExpiry 0 5000000) s).job 0).shrinkAt = none) ∧
    (let s := regs (shrinking [1, 3]) [(kMaxLost 0, 0)]
     s.lostSet 0 = [3] ∧ s.reg (kMaxLost 0) < s.reg (kLostModules 0) + 1 ∧
      (run (.shrinkWaitExpiry 0 5000000) s).mgmt.ring.map (·.code) = [0x09040006]) := by decide +kernel

theorem test_rejoin_witness :
    ((eng [1]).reg kModuleId = 1 ∧ (run (.rejoin 0 0 1 9 ⟨8, 7⟩) (eng [1])).reg (kUpdStep 0) = 9 ∧
      ((run (.rejoin 0 0 1 9 ⟨8, 7⟩) (eng [1])).job 0).returning = some (0, 7)) ∧
    (let s := ((eng [1, 3]).setJob 0 { Job.fresh with submitted := true, standIns := [1] }).setGrid 0 { Grid.idle with on := true }
     (s.job 0).rejoin = none ∧ ((run (.rejoin 0 1 3 9 ⟨8, 7⟩) s).job 0).rejoin = some (1, 3)) ∧
    ((eng [1, 3]).job 0).standIns.contains 0 = false ∧ ((run (.rejoin 0 0 3 9 ⟨8, 7⟩) (eng [1, 3])).reg (kCkptRefusal 0) = 0x9203) := by decide +kernel

/-! ### Partitions -/

theorem test_build_witness :
    building.grants .mailbox 0x3010 0x06 1 = true ∧ building.holdsLock .mailbox 0x3010 = true ∧
    (building.granted .mailbox 0x3010 6).buildCheck 0 true = 0 ∧
    ((run (.buildEnable .mailbox 0) building).part 0).stackMap = 1 ∧
    (run (.buildEnable .mailbox 0) building).reg (kPortOwner 0) = 0 ∧
    up.holdsLock .mailbox 0x3010 = false ∧ up.grants .mailbox 0x3010 0x06 1 = true ∧
    ((regs up [(kExpectGen 0, 1)]).granted .mailbox 0x3010 6).stagedReg (kExpectGen 0) = (up.part 0).gen ∧
    (run (.buildEnable .mailbox 0) (regs up [(kExpectGen 0, 1)])).reg (kPartRefusal 0) = 0xB242 := by decide +kernel

/-- The key of an owner (the curve's base point), and a charter of job 9 that it signed. -/
def ownerKey : List Byte :=
  leBytes 96 0x5f0eea907c1d437a9d817e1dceb1600ac0b8f0b51331dae97c149a28bd1df4f829dc9292bf989e5d6f2c26964ade1736b70a7672385e543a6c2955bf5df20255382a5482e041f759989ba78b623b1d6e74ad20f31ec7b18e37058bbe22ca87aa
def deed : List Byte :=
  leBytes 128 0x10004000000010000000901010001 ++ ownerKey ++ [7, 2] ++ List.replicate 78 0 ++
    leBytes 96 0x2584c12036d67e343a307f9c19a23d0ee1e9585b5279b9fa9794f26c30e5fdcdd1413beee1234e484346e8a29b042c4061df9552c7a9965bf8640ebe6ee8e04f9e6eb99fd107d251d634f4a659590289f0975bc545002669d9d2a37b0599d908
def locked0 : State := (regs up [(kLcState, 4)]).setPart 0 { partRun with state := stLocked, charter := none, ideKeyed := true }

theorem test_charter_witness : locked0.charterCheck 0 deed = 0 ∧
    ((run (.charter 0 deed) locked0).part 0).charter.isSome = true ∧ (run (.charter 0 deed) locked0).reg (kJobId 0) = 9 ∧
    locked0.charterCheck 0 [] = 0xB041 ∧ (run (.charter 0 []) locked0).reg (kPartRefusal 0) = 0xB041 := by decide +kernel

/-- A charter whose owner may deliver a data key, and the partition that holds it. -/
def deeded : Charter := { job7 with owners := [⟨ownerKey, true, false, true, 1⟩] }
def owned0 : State := locked0.setPart 0 { locked0.part 0 with charter := some deeded }
def seeded (s : State) : State :=
  { s with sec := { s.sec with drbg := some ⟨List.replicate 32 3, List.replicate 16 4, 5⟩, sessions := [⟨1, [], [], true⟩] } }
/-- A delivery of data key 0, signed. -/
def delivery : List Byte := List.replicate 54 0 ++
  leBytes 96 0xefd773a44fdfde17abc99f65fe29d053a1ab5df721fbda12338ff3de817088d5708ade99d0aadfc7e92ef813ac54f13061df9552c7a9965bf8640ebe6ee8e04f9e6eb99fd107d251d634f4a659590289f0975bc545002669d9d2a37b0599d908

theorem test_delivery_witness :
    (seeded owned0).sec.sessions ≠ [] ∧ (seeded owned0).deliveryCheck 0 (deliveryOf delivery) = 0 ∧
    (deliveryOf delivery).kind = 0 ∧ (seeded owned0).keyRoom = 0 ∧ (seeded owned0).freeSlot = some 0 ∧
    ((run (.vendorDefinedRequest 0 delivery) (seeded owned0)).keySlot 0).live = true ∧
    (seeded locked0).deliveryCheck 0 (deliveryOf delivery) = 0xB340 ∧
    (run (.vendorDefinedRequest 0 delivery) (seeded locked0)).reg (kPartRefusal 0) = 0xB340 := by decide +kernel

def configured0 : State :=
  { (regs up [(kNearReady, 1), (kFarReady, 1)]).setPart 0 { partRun with state := stConfigured, ideKeyed := true } with
    power := { up.power with cgDown := 0 } }

theorem test_trusted_domain_witness :
    (configured0.part 0).state = stConfigured ∧ (configured0.part 0).ideKeyed = true ∧ configured0.unitsReady 0 = true ∧
    ((run (.lockInterfaceRequest 0) configured0).part 0).state = stLocked ∧
    (run (.lockInterfaceRequest 0) up).reg (kPartRefusal 0) = 0xB240 ∧ (up.part 0).ideKeyed = false ∧
    (run (.getDeviceInterfaceReport 0) owned0).sec.doeReply.length = 72 ∧
    owned0.delivered 0 ≠ 2 ^ deeded.owners.length - 1 ∧ (run (.startInterfaceRequest 0) owned0).reg (kPartRefusal 0) = 0xB243 ∧
    ((run (.ideStreamKeyed 0) one).part 0).ideKeyed = true := by decide +kernel

def ready0 : State := seeded (locked0.setPart 0 { locked0.part 0 with charter := some { job7 with owners := [⟨[], false, false, true, 0⟩] } })

theorem test_start_witness :
    ready0.delivered 0 = 1 ∧ (ready0.drawSecret 0).1 = 0 ∧
    ((run (.startInterfaceRequest 0) ready0).part 0).state = stRunning ∧
    ((run (.startInterfaceRequest 0) ready0).part 0).secret.isSome = true := by decide +kernel

theorem test_stop_witness :
    mayStop (one.part 0).state = true ∧ (one.grid 0).inGust = false ∧ (run (.stopInterfaceRequest 0) one).sec.doeReply = [0x10, 7] ∧
    ((run (.stopInterfaceRequest 0) gusty).part 0).stopping = true ∧ (gusty.grid 0).inGust = true ∧
    ((run (.ideIntegrityFailure 0) (one.setPart 0 { one.part 0 with ideKeyed := true })).part 0).state = stFree := by
  decide +kernel

def hello : List Byte := [0x13, 0, 0, 0]

theorem test_spdm_witness :
    up.grants .mailbox 0x1F20 0x01 4096 = true ∧ bit ((up.granted .mailbox 0x1F20 1).reg kReadyMap) 11 = true ∧
    (run (.getVersion (some .mailbox) hello) up).reg kSpdmStatus = 2 ∧ up.power.perst = false ∧
    (run (.getVersion none hello) up).sec.doeReply = [0x10, 0x04, 0, 0, 0, 1, 0x00, 0x13] ∧
    (run (.challenge none hello) up).sec.doeReply = [0x13, 0x7F, 4, 0] ∧ up.sec.spdm.stage ≠ 3 := by decide +kernel

def torn : State := unlocked ((regs one [(kExpectGen 0, 1)]).putCellLine 5 0 (List.replicate 64 1) false)

theorem test_teardown_witness :
    mayStop (torn.part 0).state = true ∧ torn.mem.wf = true ∧ torn.grants .mailbox 0x3010 0x0A 1 = true ∧
    (torn.granted .mailbox 0x3010 0x0A).reg (kExpectGen 0) = (torn.part 0).gen ∧ torn.cellByte 5 0 = 1 ∧
    (run (.forceOff .mailbox 0) torn).cellByte 5 0 = 0 ∧ ((run (.forceOff .mailbox 0) torn).part 0).state = stFree ∧
    torn.grants .mailbox 0x3010 0x09 1 = true ∧ (run (.teardown (.owner 0) 0) (seeded torn)).cellByte 5 0 = 0 := by
  decide +kernel

theorem test_teardown_waits_witness :
    (unlocked (regs gusty [(kExpectGen 0, 1)])).grants .mailbox 0x3010 0x09 1 = true ∧
    ((run (.teardown (.dict .mailbox) 0) (unlocked (regs gusty [(kExpectGen 0, 1)]))).part 0).stopping = true ∧
    (run (.forceOff .mailbox 0) (regs torn [(kExpectGen 0, 9)])).reg (kPartRefusal 0) = 0xB241 ∧ (torn.part 0).gen ≠ 9 := by
  decide +kernel

theorem test_defer_witness :
    (unlocked up).grants .mailbox 0x1060 0x02 2 = true ∧ ((unlocked up).granted .mailbox 0x1060 2).concerned = [] ∧
    (run (.funcEnable .mailbox 0x1800) (unlocked up)).reg kFuncEnable = 0x1800 ∧
    (run (.funcEnable .mailbox 0x800) (unlocked up)).reg kMgmtRefusal = 0xC302 ∧
    (unlocked (regs one [(kFuncEnable, 0x1FFE), (kRequestDefer, 1)])).concerned ≠ [] ∧
    (run (.funcEnable .mailbox 0x1800) (unlocked (regs one [(kFuncEnable, 0x1FFE), (kRequestDefer, 1)]))).sec.deferred.length = 1 := by
  decide +kernel

def waits (d : Deferred) (s : State) : State := { s with sec := { s.sec with deferred := [d] } }

theorem test_deferred_witness :
    (run (.deferredRequestRelease boot) (waits ⟨false, 0x1800, [(0, 0)], 0, 9⟩ one)).sec.deferred = [] ∧ one.epochOf 8 ≠ 9 ∧
    (run (.deferredRequestRelease boot) (waits ⟨false, 0x1800, [(0, 0)], 0, 1⟩ up)).reg kFuncEnable = 0x1800 ∧ up.epochOf 8 = 1 ∧
    (up.part 0).state = stFree ∧ one.sealed ⟨false, 0x1800, [(0, 0)], 0, 1⟩ = false ∧
    (run (.deferLimitExpiry 1) (waits ⟨false, 0x1800, [(0, 0)], 0, 1⟩ one)).sec.deferred.length = 1 ∧
    (run (.deferLimitExpiry (10 ^ 15)) (waits ⟨true, 0, [(0, 0)], 0, 1⟩ one)).reg kPowerRefusal = 0xB640 ∧
    0 + one.reg kDeferLimitS * 1000000000 ≤ max one.now (10 ^ 15) := by decide +kernel

theorem test_mirror_witness :
    run (.mirrorCheck 1 [⟨0, false, 6, BitVec.ofNat 32 (one.part 0).gen⟩]) one ≠ one.tick 1 ∧
    shownRank 0 ≤ stateRank (one.part 0).state ∧
    (run (.mirrorCheck 1 [⟨0, false, 0, 0⟩]) one).reg kMirrorDisagreements = 1 ∧
    ((run (.mirrorCheck 1 [⟨0, false, 0, 0⟩]) one).view 0).gen = nextPartGen (one.part 0).gen ∧
    (⟨0, false, BitVec.ofNat 8 (one.part 0).state, BitVec.ofNat 32 (one.part 0).gen⟩ : MirrorSeen).gen.toNat = (one.part 0).gen := by
  decide +kernel

def collapsing : State := { up with power := { up.power with cgDown := 1, cgColl := 1 } }

theorem test_collapse_witness :
    bit collapsing.power.cgColl 0 = true ∧ collapsing.power.tripped = false ∧ collapsing.holderOf Part.cgMap 0 = none ∧
    (run (.cgCollapseDone 0) collapsing).reg kCgCollapsed = 1 := by decide +kernel

/-! ### Fuses and the life cycle -/

/-- A FIELD part under the mailbox's staged request for SCRAP, whose token is 16 zero bytes. -/
def scrapping : State :=
  let s := unlocked (staging (regs up [(kLcState, 4)]) [(kLcTarget, 5), (kLcToken, 0)])
  let d := leBytes 48 0x6a04ccee8b819ee6c86b8734c308ca0249d29994ecf86ddde1bb2dd3833b47826a41365e4b47dfc8de3c19a19d6540ae
  { s with sec := { s.sec with
    fuseSeen := (List.range 12).map (fun w => (84 + 12 * lcTarget 5 + w, ofLe ((d.drop (4 * w)).take 4))) } }

theorem test_life_cycle_witness :
    scrapping.grants .mailbox 0x9001 0x04 1 = true ∧ lcReachable 4 5 = true ∧ scrapping.lcReady 5 = true ∧
    bit scrapping.sec.unusable (lcTarget 5 + 1) = false ∧ scrapping.sec.breached = false ∧
    sha384 (leBytes 16 0) = (scrapping.granted .mailbox 0x9001 4).tokenDigest (lcTarget 5) ∧
    (run (.lcEnable .mailbox) scrapping).sec.transition = some (4, 2) ∧
    (run (.lcEnable .mailbox) (staging scrapping [(kLcToken, 1)])).sec.tokenMiss = 1 := by decide +kernel

def midway (t n : Nat) : State := { up with sec := { up.sec with transition := some (t, n) } }

theorem test_blow_witness :
    (run (.fuseBlowDone boot) (midway 1 5)).sec.transition = some (1, 6) ∧
    bit (tabGet (run (.fuseBlowDone boot) (midway 2 5)).sec.fuses 1 0) 2 = true ∧
    (run (.fuseBlowDone boot) (midway 1 4)).sec.transition = some (1, 5) ∧
    (run (.fuseBlowDone boot) (midway 1 2)).sec.transition = some (1, 4) ∧
    (run (.fuseBlowDone boot) { up with sec := { up.sec with tamperBlow := true } }).reg kTamperCount = 1 := by decide +kernel

/-! ### Queues and their commands -/

def hC : Handle := mkHandle 1 0 1 0
def hQ : Handle := mkHandle 2 0 1 0
def hM : Handle := mkHandle 3 0 1 0
def hF : Handle := mkHandle 4 0 1 0
def hG : Handle := mkHandle 4 0 1 1
def hX : Handle := mkHandle 6 0 1 0

/-- A queue entry: its first 256 bits, and its parameters. -/
def entry (op head : Nat) (l : List (Nat × Nat)) : BitVec 896 :=
  BitVec.ofNat 896 (op + head + l.foldl (fun a f => a + f.2 * 2 ^ (256 + f.1)) 0)

/-- An entry of the generation 1, as the driver's must be; one that waits for a fence to reach `v`. -/
def gen1 : Nat := 2 ^ 32
def waitFor (h v : Nat) : Nat := gen1 + 2 ^ 12 + h * 2 ^ 64 + v * 2 ^ 128

/-- An image of job 7 without a body, and what it holds. -/
def image : JobImage := ⟨leBytes 64 (1 + 7 * 2 ^ 32 + (2 ^ 20 + 2 ^ 18) * 2 ^ 64), [], [], 0, 0⟩

/-- Partition 0 RUNNING: a context, a command queue of one entry in slot 0 whose ring is in host memory, a shard
queue in slot 1, fence 0 for the device, fence 1 for the host, a channel, two pages of host memory and one of near. -/
def hosted : State :=
  let s := one.setPart 0 { partRun with charter := some { job7 with jobDigest := sha384 (image.bytes) } }
  { s with objs := { s.objs with
      contexts := [⟨hC, 0, false, false, 0, 0, 0⟩]
      queues := [⟨hQ, hC, false, false, false, 4, hF, 2 ^ 20, 0, 1, 0, none⟩,
                 ⟨mkHandle 2 0 1 1, hC, false, true, false, 4, hF, 2 ^ 20, 0, 0, 0, none⟩]
      fences := [⟨hF, 0, false, 3, false, false, false, 0, 0, 0, false, false, false, false⟩,
                 ⟨hG, 0, false, 3, false, false, false, 0, 0, 0, false, true, false, false⟩]
      memobjs := [⟨hM, 0, false, false, false, 2 ^ 20, 2 ^ 18 + 2 ^ 16,
        [(0, 2 ^ 50 + hostBase), (1, 2 ^ 50 + hostBase + 2 ^ 16), (4, 2 ^ 50)]⟩]
      channels := [⟨hX, 0, false, none, 0⟩] } }

/-- The fence `h` in error. -/
def inError (s : State) (h : Handle) : State := s.latch h 0x8502 false

def holding (s : State) (c : Instr) : State :=
  { s with objs := { s.objs with queues := s.objs.queues.map (fun q => if q.handle = hQ then { q with waiting := some c } else q) } }

def sig (head : Nat) : Instr := .signalFence .driver 0 0 (entry 5 head [(0, hG), (64, 9)])

theorem test_doorbell_witness :
    hosted.epochOf 0 = 1 ∧ ((run (.doorbell 0 0 (2 ^ 16 + 3)) hosted).queueAt 0 0).map (·.tail) = some 3 ∧
    ((run (.doorbell 0 1 (2 ^ 16 + 2)) hosted).queueAt 0 1).map (·.head) = some 2 ∧
    ((run (.doorbell 0 1 (2 ^ 16 + 2)) hosted).fence? hF).map (·.value) = some 5 ∧
    ((run (.doorbell 0 0 (2 ^ 16 + 16)) hosted).queueAt 0 0).map (·.errReason) = some 0xA004 ∧
    (run (.doorbell 0 0 3) hosted).reg kHostRefusal = 0xB205 := by decide +kernel

theorem test_wait_witness :
    (holding hosted (sig (waitFor hF 4))).waitState 0 (entryBits (sig (waitFor hF 4))) = .pending ∧
    (inError (holding hosted (sig (waitFor hF 4))) hF).waitState 0 (entryBits (sig (waitFor hF 4))) = .error ∧
    (run (.waitRelease 0 0) (inError (holding hosted (sig (waitFor hF 4))) hF)).objs.queues.map (·.errReason) = [0xA204, 0] ∧
    hosted.waitState 0 (entryBits (sig (waitFor hF 3))) = .go ∧
    ((run (.waitRelease 0 0) (holding hosted (sig (waitFor hF 3)))).fence? hG).map (·.value) = some 9 ∧
    ((run (.hostDmaTimeout 0 0) hosted).queueAt 0 0).map (·.errReason) = some 0xA601 ∧
    (hosted.objs.queues.map (·.handle)).Nodup ∧ (run (.vfFlr 0) hosted).reg (kRecoveryEpoch 0) = 2 ∧
    (run (.vfFlr 0) hosted).objs.queues.map (·.error) = [true, true] := by decide +kernel

theorem test_create_witness :
    (hosted.part 0).state ≠ stTeardown ∧ hosted.reg (kGustEnable 0) ≠ 1 ∧ hosted.newHandle 4 0 = some (mkHandle 4 0 1 2) ∧
    (run (.createObj .jobServices 0 0 (entry 1 (4 * 2 ^ 8) [(0, 5)])) hosted).objs.fences.map (·.value) = [3, 3, 5] ∧
    (hosted.create 0 0 4 5).1 = (0, mkHandle 4 0 1 2) ∧ (hosted.destroy 0 0 hG).1 = 0 ∧
    (run (.destroyObj .jobServices 0 0 (entry 2 0 [(0, hG)])) hosted).fence? hG = none := by decide +kernel

def lone : State :=
  { one with objs := { one.objs with fences := [⟨hF, 0, false, 3, false, false, false, 0, 0, 0, false, false, false, false⟩] } }.setGrid 0
    { Grid.idle with on := true }

theorem test_destroy_witness :
    lone.refs hF = 1 ∧ lone.dyingObjects = [] ∧ (lone.grid 0).on = true ∧ hType hF = 4 ∧ hPart hF = 0 ∧
    tabGet (run (.destroyObj .jobServices 0 0 (entry 2 0 [(0, hF)])) lone).objs.gens (genKey 4 0 0) 1 = 2 := by decide +kernel

theorem test_map_witness :
    (hosted.mapOp 0 false hM 2 (2 ^ 50 + hostBase) 2).1 = 0 ∧ (hosted.mapOp 0 true hM 0 0 1).1 = 0 ∧
    (run (.mapPages .jobServices 0 0 (entry 3 0 [(0, hM), (32, 2), (64, 2 ^ 50 + hostBase), (128, 2)])) hosted).translate 0
      (2 ^ 20 + 2 ^ 17) = .here hostBase ∧
    (run (.unmapPages .jobServices 0 0 (entry 4 0 [(0, hM), (32, 0), (64, 1)])) hosted).translate 0 (2 ^ 20) = .unmapped := by
  decide +kernel

theorem test_copy_witness :
    hosted.mem.wf = true ∧ hosted.translate 0 (2 ^ 20 + 2 ^ 16) = .here (hostBase + 2 ^ 16) ∧ hosted.liveHandle 6 0 hX = 0 ∧
    (hosted.channel? hX).map (·.busy) = some none ∧
    ((run (.copyBytes .jobServices 0 0 (entry 7 0 [(0, 2 ^ 20), (64, 2 ^ 20 + 2 ^ 16), (128, 64), (192, hX)])) hosted).channel? hX).map
      (fun c => c.busy.isSome) = some true ∧
    hosted.liveHandle 1 0 hC = 0 ∧ hosted.deviceHandle 0 hF = 0 ∧
    (run (.setJobFence .jobServices 0 0 (entry 8 0 [(0, hC), (32, hF)])) hosted).objs.contexts.map (·.jobFence) = [hF] ∧
    hosted.liveHandle 4 0 hG = 0 ∧
    ((run (.signalFence .jobServices 0 0 (entry 5 0 [(0, hG), (64, 2)])) hosted).fence? hG).map (·.value) = some 3 := by
  decide +kernel

def submission : BitVec 896 :=
  entry 6 gen1 [(0, hC), (32, 2 ^ 20), (96, 64), (128, hosted.reg kCapGen), (160, hF), (192, hX)]

theorem test_submit_witness :
    hosted.submitCheck 0 (params submission.toNat) image = 0 ∧
    ((run (.submitJob .jobServices 0 0 submission image) hosted).channel? hX).map (fun c => c.busy.isSome) = some true := by
  decide +kernel

/-- The one channel copies for the job services. -/
def copying (s : State) (c : Instr) : State := { s with objs := { s.objs with channels := [⟨hX, 0, false, some (0, c), 0⟩] } }

theorem test_copy_done_witness :
    hosted.copyPending hX = false ∧ hosted.dyingObjects = [] ∧ hIndex hX = 0 ∧
    (run (.channelCopyDone 0 around) (copying hosted (.copyBytes .jobServices 0 0 (entry 7 0 [])))).objs.channels.map (·.busy) = [none] ∧
    ((run (.channelCopyDone 0 around) (copying hosted (.submitJob .jobServices 0 0 submission image))).job 0).submitted = true ∧
    (run (.channelCopyDone 0 around) (copying hosted (.submitJob .jobServices 0 0 submission image))).objs.contexts.map (·.jobFence)
      = [hF] := by decide +kernel

/-- What the driver's signal leaves behind it. -/
def signalled : State := run (sig gen1) hosted

theorem test_driver_witness :
    hosted.queueBusy ⟨hQ, hC, false, false, false, 4, hF, 2 ^ 20, 0, 1, 0, none⟩ = false ∧ hosted.cmdCheck .driver 0 (sig gen1) = 0 ∧
    (hosted.entryAt 0 ⟨hQ, hC, false, false, false, 4, hF, 2 ^ 20, 0, 1, 0, none⟩) = some 0 ∧
    memRead 0 signalled.mem.host 112 16 = leBytes 8 0 ++ leBytes 8 (2 ^ 63) ∧ (signalled.queueAt 0 0).map (·.head) = some 1 ∧
    (signalled.fence? hF).map (·.value) = some 4 ∧ (signalled.fence? hG).map (·.value) = some 9 ∧
    hosted.cmdCheck .driver 0 (sig 0) = 0xB241 ∧ (run (sig 0) hosted).reg kHostRefusal = 0xB241 ∧
    ((run (sig (waitFor hF 4)) hosted).queueAt 0 0).map (fun q => q.waiting.isSome) = some true ∧
    ((run (sig (waitFor hF 4)) (inError hosted hF)).queueAt 0 0).map (·.errReason) = some 0xA204 := by decide +kernel

/-! ### The BARs -/

theorem test_bar_witness :
    up.fnLive .pf = true ∧ barSize .pf 0 = 0x100000 ∧ up.needsIde .pf = false ∧
    (run (.barRegisterAccess ⟨.pf, 0, 0, 4, false, 0, false⟩ around) up).completed ≠ .none ∧
    (run (.barRegisterAccess ⟨.pf, 0, 0x100000, 4, false, 0, false⟩ around) up).completed = .unsupported ∧
    (run (.barRegisterAccess ⟨.vf 0, 0, 0, 4, false, 0, false⟩ around) up).completed = .unsupported ∧
    (run (.barRegisterAccess ⟨.pf, 0, 2, 4, true, 0, false⟩ around) up).reg kAccessLogCount = 1 ∧
    ((run (.accessErr .pf 1) (run (.barRegisterAccess ⟨.pf, 0, 2, 4, true, 0, false⟩ around) up)).view 8).err = false ∧
    ((run (.accessErr .pf 0) (run (.barRegisterAccess ⟨.pf, 0, 2, 4, true, 0, false⟩ around) up)).view 8).err = true := by
  decide +kernel

def boxed (busy : Bool) (e : Nat) : State := { up with mbox := { up.mbox with busy := busy, epoch := e } }

theorem test_mailbox_witness :
    up.pfLive = true ∧ ((run (.mailboxGo 0x1017 around) (boxed true 1)).view 8).reason = 0xC204 ∧ up.epochOf 8 = 1 ∧
    (run (.mailboxGo 0x1017 around) (boxed false 2)).mbox.reason = 0xB205 ∧
    (run (.mailboxGo 0x1017 around) (boxed false 1)).mbox.len = 2 ∧ (run (.mailboxGo 0x1017 around) (boxed false 1)).mbox.reason = 0 ∧
    (run .pfFlr (boxed true 1)).mbox = State.reset.mbox := by decide +kernel

/-! ### The dictionary -/

def wr (i : BitVec 16) (j : BitVec 8) (d : List Byte) : Instr := .dictWrite .mailbox i j d around
def slept (s : State) : State := { s with power := { s.power with mode := .doldrums } }
def n9 : Requester := .node 9
/-- The lock of a group in a node's hands until 1 ms. -/
def held (s : State) (g : Nat) (o : Nat) : State := { s with locks := [⟨g, o, 0, 1000000, groupScope g, s.epochOf (groupScope g)⟩] }

theorem test_refusals_witness :
    up.mgmt.window = none ∧ up.reaches .mailbox = true ∧ up.reaches n9 = true ∧ indexExists 0x1FFF = false ∧
    (run (wr 0x1FFF 1 []) up).reg kLastReasonMbx = 0xC001 ∧ indexExists 0x1060 = true ∧ entryRow 0x1060 0x30 = none ∧
    (run (wr 0x1060 0x30 []) up).reg kLastReasonMbx = 0xC002 ∧ (run (wr 0x1060 8 [0, 0]) up).reg kLastReasonMbx = 0xC004 ∧
    (run (wr 0x1030 1 [0, 0]) up).reg kMgmtRefusal = 0xC301 ∧ (run (wr 0x1060 2 [0, 0]) up).reg kLastReasonMbx = 0xC303 ∧
    (run (.dictWrite n9 0x1FFF 1 [] around) up).reg (kLastReason 9) = 0xC001 := by decide +kernel

theorem test_not_served_witness :
    (entryRow 0x2010 1).map (fun (r : DRow) => (r.bytes, r.expert)) = some (4, false) ∧
    (run (wr 0x2010 1 [0, 0, 0, 0]) (regs up [(kReadyMap, 0x1000)])).reg kLastReasonMbx = 0xC202 ∧
    (regs up [(kReadyMap, 0x1000)]).reaches .mailbox = true ∧ (slept up).reaches n9 = true ∧ doldrumsServes 0x3010 = false ∧
    (entryRow 0x3010 1).map (fun (r : DRow) => (r.bytes, r.expert)) = some (4, false) ∧
    (run (.dictWrite n9 0x3010 1 [0, 0, 0, 0] around) (slept up)).reg (kLastReason 9) = 0xC203 ∧ lockGroup 0x2010 1 = some 0x2010 ∧
    (run (wr 0x2010 1 [0, 0, 0, 0]) (held up 0x2010 9)).reg kLastReasonMbx = 0xC201 := by decide +kernel

theorem test_staged_witness :
    up.grants .mailbox 0x2010 1 4 = true ∧ stagedSub 0x2010 1 = true ∧ up.reg (kGustEnable 0) ≠ 1 ∧ (up.grid 0).stopping = false ∧
    (run (wr 0x2010 1 [5, 0, 0, 0]) up).stagedReg (dkey 0x2010 1) = 5 ∧ (run (wr 0x2010 1 [5, 0, 0, 0]) up).reg (dkey 0x2010 1) = 250 ∧
    up.grants .mailbox 0x3010 1 4 = true ∧ (up.part 0).state = stFree ∧
    ((run (wr 0x3010 1 [1, 0, 0, 0]) up).part 0).state = stBuilding ∧
    (run (wr 0x3010 1 [1, 0, 0, 0]) up).locks.map (·.group) = [0x3010] ∧
    (held up 0x2010 256).grants .mailbox 0x2010 1 4 = true ∧ reqCode .mailbox ≠ 9 := by decide +kernel

theorem test_plain_witness :
    up.grants .mailbox 0x1017 0 2 = true ∧ (run (wr 0x1017 0 [50, 0]) up).reg (dkey 0x1017 0) = 50 ∧
    (run (wr 0x1017 0 [49, 0]) up).reg kLastReasonMbx = 0xC003 ∧ (unlocked up).grants .mailbox 0x1060 8 1 = true ∧
    (unlocked up).grants .mailbox 0x2001 4 4 = true ∧ (unlocked up).grants .mailbox 0x2020 3 4 = true ∧
    (unlocked up).grants .mailbox 0x3001 2 4 = true ∧ (unlocked up).grants .mailbox 0x7001 3 4 = true ∧
    (unlocked up).grants .mailbox 0xA001 5 1 = true ∧ (unlocked up).grants .mailbox 0xA801 8 4 = true ∧
    (run (wr 0xA801 8 [60, 0, 0, 0]) (unlocked up)).reg (dkey 0xA801 8) = 60 ∧
    (run (wr 0xA001 5 [6]) (unlocked up)).reg kLastReasonMbx = 0xC003 := by decide +kernel

def mine (s : State) (g : Nat) : State := held s g (reqCode .mailbox)

theorem test_lock_release_witness :
    (mine building 0x3010).grants .mailbox 0x1030 4 1 = true ∧ (mine building 0x3010).holdsLock .mailbox 0x3010 = true ∧
    ((run (.lockRelease .mailbox 0x1030) (mine building 0x3010)).part 0).state = stFree ∧
    (run (.lockRelease .mailbox 0x1030) (mine building 0x3010)).locks = [] ∧ sequenceGroup 8 = 0x9020 ∧
    (mine keyed 0x9020).grants .mailbox 0x1038 4 1 = true ∧ (mine up 0x9801).grants .mailbox 0x1040 4 1 = true ∧
    (run (.lockRelease .mailbox 0x1030) up).reg kLastReasonMbx = 0xC201 := by decide +kernel

theorem test_lease_witness :
    (run (.lockLeaseExpiry 0x3010 1000000) (held building 0x3010 9)).locks = [] ∧
    (run (.lockLeaseExpiry 0x3010 1000000) (held building 0x3010 9)).owed = [(0x3010, 9)] ∧
    (run (.lockLeaseExpiry 0x3010 1000000) (held building 0x3010 9)).reg (kLockBreaks 0) = 1 ∧
    (run (.lockLeaseExpiry 0x3010 999999) (held building 0x3010 9)).locks.length = 1 := by decide +kernel

theorem test_unlock_witness :
    up.grants .mailbox 0x1F10 1 4 = true ∧ (run (.expertUnlock .mailbox 0x45585054) up).expertHeld .mailbox = true ∧
    (run (.expertUnlock .mailbox 0) (unlocked up)).expertHeld .mailbox = false ∧
    (run (.expertUnlock .mailbox 1) (unlocked up)).reg kLastReasonMbx = 0xC003 ∧
    (run (.expertLapse .mailbox (10 ^ 9 + 1)) (unlocked up)).expert = [] ∧ ((unlocked up).tick 5).expertHeld .mailbox = true := by
  decide +kernel

/-- One record held. -/
def logged : State := up.event 0x0C010005 3 7

theorem test_log_window_witness :
    logged.grants .mailbox 0xA001 3 4 = true ∧ logged.mgmt.ring ≠ [] ∧ logged.oldestSeq = 1 ∧ logged.reg kLogNewestSeq = 1 ∧
    (run (.logReadSeq .mailbox 1) logged).reg kLogReadSeq = 1 ∧ (logged.logRecord 1).isSome = true ∧
    (run (.logReadSeq .mailbox 1) logged).readValue .mailbox 0xA001 4 = 0x0C010005 * 2 ^ 64 + 2 ^ 96 + 3 * 2 ^ 128 + 7 * 2 ^ 160 ∧
    (run (.logReadSeq .mailbox 2) logged).reg kLastReasonMbx = 0xC003 := by decide +kernel

/-! ### The field bus -/

def usdo (u : Usdo) : Instr := .usdoRequest 9 u around
def session : State := { up with mgmt := { up.mgmt with sessions := [(9, ⟨0x1017, 0, [50], 0, 1000⟩)] } }

theorem test_usdo_witness :
    up.reaches n9 = true ∧ up.onBus = true ∧
    (run (usdo (.read 0x1017 0)) up).mgmt.frames.map (·.data) = [leBytes 1 9 ++ [0] ++ leBytes 2 (up.reg (dkey 0x1017 0))] ∧
    (run (usdo (.read 0x1FFF 0)) up).mgmt.frames = [⟨0x585, leBytes 1 9 ++ [1] ++ leBytes 4 0x06020000⟩] ∧
    (run (usdo (.write 0x1017 0 [60, 0])) up).reg (dkey 0x1017 0) = 60 ∧
    (run (usdo (.writeFirst 0x1017 0 [60])) up).mgmt.sessions.length = 1 ∧
    (run (usdo (.writeNext [0] true)) session).reg (dkey 0x1017 0) = 50 ∧
    (run (usdo (.writeNext [0] false)) session).mgmt.sessions.map (fun e => e.2.data) = [[50, 0]] := by decide +kernel

theorem test_bus_commands_witness :
    (run (.usdoSegmentTimeout 9 1000) session).reg (kLastReason 9) = 0xC602 ∧
    (run (.usdoSegmentTimeout 9 999) session).mgmt.sessions.length = 1 ∧ (run .nmtStart up).reg kNmtState = 5 ∧
    (run .nmtStop up).reg kNmtState = 4 ∧ (run .nmtEnterPreOperational up).reg kNmtState = 0x7F ∧
    (run .nmtResetNode (unlocked session)).mgmt.frames = [⟨0x705, [0, 0]⟩] ∧ (unlocked session).locks = [] ∧
    (run .nmtResetCommunication (unlocked session)).expert = [] := by decide +kernel

theorem test_heartbeat_witness :
    up.mgmt.lastBeat + up.reg kHeartbeatMs * 1000000 ≤ max up.now (10 ^ 9) ∧
    (run (.heartbeatSend (10 ^ 9)) up).mgmt.frames.map (·.cobId) = [0x705] ∧
    (run (.heartbeat 9 5 1 7) up).mgmt.heard.length = 1 ∧
    (run (.heartbeat 9 5 1 7) { up with mgmt := { up.mgmt with vote := 1 } }).reg kBusState = 1 ∧
    (run (.heartbeat 9 5 0 7) (regs { up with mgmt := { up.mgmt with window := some 0 } } [(kBusState, 1)])).reg kBusState = 0 ∧
    (run (.presentSetLapse 9 (10 ^ 9)) { up with mgmt := { up.mgmt with heard := [(9, ⟨0, 0, 5, true⟩)] } }).mgmt.heard =
      [(9, ⟨0, 0, 5, false⟩)] := by decide +kernel

theorem test_bus_loss_witness :
    (held up 0x9801 9).lostAt 9 0 ≤ max 0 (10 ^ 10) ∧ (run (.managerHeartbeatLoss 9 (10 ^ 10)) (held up 0x9801 9)).locks = [] ∧
    (run (.managerHeartbeatLoss 9 (10 ^ 10)) (held up 0x9801 9)).reg (kRecoveryEpoch 8) = 2 ∧
    up.serves = true ∧ up.mgmt.busOff = false ∧ (run .busOff (held up 0x9801 9)).locks = [] ∧
    (run .busOffRecovery { up with mgmt := { up.mgmt with busOff := true } }).mgmt.frames.length = 1 := by decide +kernel

theorem test_sleep_witness :
    (run (.lullWindowEnd (10 ^ 9)) { up with mgmt := { up.mgmt with window := some 0 } }).reg kBusState = 2 ∧
    0 + up.reg kToLullWindowMs * 1000000 ≤ max up.now (10 ^ 9) ∧ up.reg kLullAllow ≠ 1 ∧
    (run (.wakeUpPattern 1 boot) (regs up [(kBusState, 2)])).reg kBusState = 0 ∧
    (run (.wakeUpPattern 1 boot) (regs up [(kBusState, 2)])).mgmt.frames.map (·.cobId) = [0x705] := by decide +kernel

def emcyWaits (l : Option Nat) : State := { up with mgmt := { up.mgmt with emcy := [⟨0, [1]⟩], lastEmcy := l } }

theorem test_emcy_witness :
    (run (.emcySend (10 ^ 7)) (emcyWaits (some 0))).mgmt.frames = [⟨0x085, [1]⟩] ∧ up.reg kNmtState ≠ 4 ∧
    (run (.emcySend 5) (emcyWaits (some 0))).mgmt.frames = [] ∧
    (run .eventLogWrite { logged with fw := { logged.fw with ops := [] } }).mgmt.flashLog.length = 1 ∧
    logged.mgmt.toFlash.length = 1 ∧ logged.power.mode ≠ .off ∧ up.mgmt.rate = [] ∧ (up.event 1 2 3).mgmt.nextSeq = 2 ∧
    ({ up with mgmt := { up.mgmt with rate := [(1, (0, 10, 0))] } }.event 1 2 3).mgmt.ring = [] := by decide +kernel

/-- A full log with one record that waits. -/
def fullLog : State :=
  { logged with mgmt := { logged.mgmt with flashLog := List.replicate 1048576 ⟨0, 1, 1, 0, 0, 0⟩ } }

theorem test_full_log_witness :
    1048576 ≤ fullLog.mgmt.flashLog.length ∧ fullLog.mgmt.toFlash.length = 1 :=
  ⟨Nat.le_of_eq List.length_replicate.symm, by decide +kernel⟩

/-! ### Starts, power and heat -/

def wakeable : State := { unlocked up with power := { up.power with perst := true } }
def dozing : State := regs { up with power := { up.power with mode := .doldrums, perst := true } } [(kReadyMap, 2 ^ 12)]

theorem test_start_witnesses :
    State.reset.power.mode = .off ∧ up.power.mode = .running ∧ up.fw.ops = [] ∧ (run .pwrGoodFall up).power.mode = .off ∧
    up.power.perst = false ∧ (run (.perstAssert boot) { up with power := { up.power with mode := .doldrums } }).power.perst = true ∧
    up.sec.encFailed = false ∧ (run (.perstRelease true boot) wakeable).reg kReadyMap = 0x1FFE &&& up.reg kFuncEnable ∧
    (run (.perstRelease true boot) wakeable).power.refclk = true ∧ dozing.power.perst = true := by decide +kernel

theorem test_reset_witness :
    (unlocked up).grants .mailbox 0x2020 9 1 = true ∧ (unlocked up).concerned = [] ∧
    (unlocked one).grants .mailbox 0x2020 9 1 = true ∧ (unlocked one).concerned ≠ [] ∧ one.reg kRequestDefer = 0 ∧
    (run (.moduleReset .mailbox boot) (unlocked one)).reg kPowerRefusal = 0xB244 := by decide +kernel

/-- A node's expert unlock: the mailbox does not answer while PERST# is asserted. -/
def byNode (s : State) : State := { s with expert := [(9, 0, 10 ^ 9)] }

theorem test_doze_witness :
    (byNode wakeable).grants (.node 9) 0x2020 7 1 = true ∧ (byNode wakeable).mayDoze = true ∧
    (run (.doldrumsNow (.node 9)) (byNode wakeable)).power.mode = .doldrums ∧ (byNode up).mayDoze = false ∧
    (byNode up).grants (.node 9) 0x2020 7 1 = true ∧ (run (.doldrumsNow (.node 9)) (byNode up)).reg kPowerRefusal = 0xC206 ∧
    (byNode dozing).grants (.node 9) 0x2020 8 1 = true := by decide +kernel

def unread : State := regs { up with power := { up.power with slotRead := false } } [(kNodeId, 0)]

theorem test_slot_pins_witness :
    unread.serves = true ∧ unread.mgmt.busOff = false ∧ unread.reg kBusState ≠ 2 ∧ (run (.slotIdRead 5) unread).reg kNodeId = 5 ∧
    (run (.slotIdRead 5) unread).mgmt.frames = [⟨0x705, [0, 0]⟩] ∧ (run (.slotIdRead 0) unread).mgmt.silent = true ∧
    up.power.slotRead = true ∧ (run (.slotIdChange 6) up).mgmt.ring.length = 1 := by decide +kernel

def unpowered : State := { up with power := { up.power with cgDown := 1 } }

theorem test_group_power_witness :
    unpowered.power.cgDown.testBit 0 = true ∧ unpowered.power.cgColl.testBit 0 = false ∧ unpowered.power.tripped = false ∧
    (run (.clusterGroupPowerUp 0 []) unpowered).reg (kClusterReady 1) = 0xFFFF ∧
    (run (.clusterGroupPowerUp 0 [⟨3, 2, false⟩]) unpowered).reg (kColumnBypassPending 0 4) = 2 ∧
    (run (.clusterGroupPowerUp 0 [⟨3, 2, false⟩]) unpowered).reg (kClusterReady 1) = 0xFFF7 := by decide +kernel

def reading (die : Int) (peak : Bool) : PowerReading := ⟨54000, 900, 900, die, some 300, peak, false, false, false⟩

theorem test_sample_witness :
    (run (.powerSample 5 (reading 600 false)) up).reg kInputMv = 54000 ∧ (run (.powerSample 5 (reading 600 false)) up).power.squall = none ∧
    squallOn (reading 600 true) = true ∧ (run (.powerSample 5 (reading 600 true)) up).power.squall = some (5, none) ∧
    (run (.powerSample 5 (reading 1050 false)) one).reg kThermalTrips = 1 ∧
    ((run (.powerSample 5 (reading 1050 false)) one).part 0).state = stHeld := by decide +kernel

def blowing : State := { up with power := { up.power with squall := some (5, some 10) } }

theorem test_squall_end_witness :
    (run (.squallEnd 50010) blowing).reg kSquallNs = 50005 ∧ (run (.squallEnd 50009) blowing).power.squall = some (5, some 10) := by
  decide +kernel

/-! ### Self-tests -/

/-- The mailbox's staged request for a test. -/
def asks (s : State) (id u q : Nat) : State := unlocked (staging s [(kTestId, id), (kTestUnit, u), (kTestQueue, q)])
def tests (w r : List Test) : State := { up with mgmt := { up.mgmt with tests := w, running := r } }
def fails (c : Option Nat) : TestOutcome := ⟨false, 3, [], c⟩

theorem test_test_enable_witness :
    (asks up 7 0 0).grants .mailbox 0xA801 4 1 = true ∧ (asks up 7 0 0).inService 7 0 = false ∧
    (run (.testEnable .mailbox) (asks up 7 0 0)).reg kTestState = 2 ∧ (asks one 7 0 1).inService 7 0 = true ∧
    (run (.testEnable .mailbox) (asks one 7 0 1)).reg kTestsQueued = 1 ∧
    (run (.testEnable .mailbox) (asks one 7 0 0)).reg kTestRefusal = 0xC205 := by decide +kernel

theorem test_test_queue_witness :
    ((tests [⟨7, 0, 0⟩] []).tick 5).mayTest 7 0 = true ∧ (run (.testStart 5) (tests [⟨7, 0, 0⟩] [])).mgmt.running.length = 1 ∧
    ((tests [⟨7, 0, 0⟩] [⟨7, 0, 0⟩]).tick 5).mayTest 7 0 = false ∧
    0 + up.reg kTestQueueLimitS * nsPerS ≤ max up.now (10 ^ 16) ∧
    (run (.testQueueExpiry (10 ^ 16)) (tests [⟨7, 0, 0⟩] [])).reg kTestRefusal = 0xC603 ∧
    (run (.testQueueExpiry 5) (tests [⟨7, 0, 0⟩] [])).mgmt.tests.length = 1 := by decide +kernel

theorem test_test_result_witness :
    up.sec.failed = false ∧ 0 < testUnits 7 ∧
    (tests [] [⟨7, 0, 0⟩]).mgmt.running = [⟨7, 0, 0⟩] ∧ 0 < testUnits 8 ∧ 0 < testUnits 9 ∧ (fails none).pass = false := by
  decide +kernel

/-! ### Firmware and flash -/

/-- The mailbox stages image 2 of 512 bytes. -/
def stages (i n : Nat) : State := unlocked (staging up [(kFwStageIndex, i), (kFwStageSrc, 0), (kFwStageBytes, n)])

theorem test_stage_witness :
    (stages 2 512).grants .mailbox 0x9801 4 1 = true ∧ 512 ≤ imageRoom 2 ∧ up.reg kFwState = 0 ∧
    (run (.fwStageEnable .mailbox) (stages 2 512)).reg kFwState = 1 ∧
    (run (.fwStageEnable .mailbox) (stages 0 512)).reg kFwRefusal = 0xC006 ∧
    (run (.fwStageEnable .mailbox) (stages 7 512)).reg kFwRefusal = 0xC006 := by decide +kernel

/-- A session that receives image 2 of 512 bytes, with `n` of them in. -/
def receives (n off : Nat) : State :=
  let s := unlocked (regs up [(kFwStageIndex, 2), (kFwStageBytes, 512), (kFwChunkOffset, off), (kFwState, 2)])
  { s with fw := { s.fw with staged := n } }
def chunk : List Byte := List.replicate 4096 7

theorem test_chunk_witness :
    (receives 0 0).grants .mailbox 0x9801 6 4096 = true ∧ (receives 0 0).fw.ops = [] ∧
    (run (.fwChunk .mailbox chunk) (receives 0 0)).fw.ops.length = 16 ∧
    (run (.fwChunk .mailbox chunk) (receives 0 256)).reg kFwRefusal = 0xC106 := by decide +kernel

theorem test_commit_witness :
    (receives 512 0).grants .mailbox 0x9801 7 1 = true ∧ (run (.fwStageCommit .mailbox) (receives 512 0)).reg kFwState = 4 ∧
    (run (.fwStageCommit .mailbox) (receives 511 0)).reg kFwRefusal = 0xC106 := by decide +kernel

/-- Slot B holds every image. -/
def twoSlots : State :=
  let s := unlocked up
  { s with fw := { s.fw with dirs := tabSet s.fw.dirs 1 (tabGet s.fw.dirs 0 []) } }

theorem test_activate_witness :
    twoSlots.grants .mailbox 0x9802 2 1 = true ∧ twoSlots.inactive = 1 ∧ (∀ i < 6, (twoSlots.imageRec 1 (i + 1)).isSome = true) ∧
    (run (.fwActivate .mailbox) twoSlots).fw.ops.length = 2 ∧
    (run (.fwActivate .mailbox) (unlocked up)).reg kFwRefusal = 0xC108 ∧ (up.imageRec 1 1).isNone = true := by decide +kernel

def svn3 : State := { unlocked up with fw := { up.fw with factory := tabSet up.fw.factory 1 ⟨0x0100, 3, 65536⟩ } }

theorem test_confirm_witness :
    svn3.grants .mailbox 0x9802 3 1 = true ∧ svn3.fw.fellBack = false ∧
    tabGet (run (.fwConfirm .mailbox) svn3).sec.fuses 69 0 = 7 ∧
    (run (.fwConfirm .mailbox) { svn3 with fw := { svn3.fw with fellBack := true } }).reg kFwRefusal = 0xC207 := by decide +kernel

def doing (o : FlashOp) : State :=
  { up with fw := { up.fw with ops := [o] }, mem := { up.mem with flash := [(65535, 1), (65536, 2)] } }

theorem test_erase_witness :
    (run (.flashEraseDone true 401) (doing (.erase 1))).mem.flash = [(65535, 1)] ∧
    (run (.flashEraseDone true 401) (doing (.erase 1))).reg kSlowErases = 1 ∧
    tabGet (run (.flashEraseDone true 401) (doing (.erase 1))).fw.erases 1 0 = 1 ∧
    (run (.flashEraseDone false 401) (doing (.erase 1))).fw.ops = [.erase 1] ∧
    tabGet (run (.flashEraseDone false 401) (doing (.erase 1))).fw.fails 1 0 = 1 := by decide +kernel

theorem test_program_witness :
    (doing (.page 65537 [4, 255])).mem.wf = true ∧
    (run (.pageProgramDone true) (doing (.page 65537 [4, 255]))).mem.flash = [(65535, 1), (65536, 2), (65537, 4)] ∧
    (run (.pageProgramDone true) (doing (.body 2 0x0201 [1]))).fw.store.length = 1 ∧
    (run (.pageProgramDone true) { doing (.marker 2) with fw := { (doing (.marker 2)).fw with
      store := [⟨0x0201, 1, [1], false⟩] } }).fw.store = [⟨0x0201, 1, [1], true⟩] ∧
    tabGet (run (.pageProgramDone false) (doing (.page 65537 [4]))).fw.fails 1 0 = 1 := by decide +kernel
end Sys2Proof.Tests
end

section
/-! The times of the gust grid. A calm window is the one that the time since the boundary falls in (R46). A slip notice
that comes after its point is a fault (R79), so the text says once what a fault leaves (R81): what an abort does to the
registers, the grid, the running entries, the partition and the fences, and which notices leave. -/

namespace Sys2Proof.Machine

/-! ### Calm windows (R46) -/

/-- N_CALM periods of 1 ms cover the gust, and one fewer does not. -/
theorem nCalm_bounds (period : Nat) :
    period ≤ nCalm period * 1000 ∧ (0 < period → (nCalm period - 1) * 1000 < period) := by
  unfold nCalm ceilDiv
  omega

theorem State.calm_iff_of_on (s : State) (p : Nat) (hon : (s.grid p).on = true) :
    s.calm p = true ↔ (s.grid p).boundary ≤ s.now ∧
      (s.now - (s.grid p).boundary) % 1000000 < s.reg (kCalmLenUs p) * 1000 ∧
      (s.now - (s.grid p).boundary) / 1000000 < nCalm (s.reg (kGustPeriodUs p)) := by
  simp [State.calm, nCalm, hon, and_assoc]

/-- A window no longer than its millisecond holds a time exactly when it is the window of that millisecond. -/
theorem exists_window_iff (b now len n : Nat) (hlen : len ≤ 1000000) :
    (∃ k < n, b + k * 1000000 ≤ now ∧ now < b + k * 1000000 + len) ↔
      b ≤ now ∧ (now - b) % 1000000 < len ∧ (now - b) / 1000000 < n := by
  constructor
  · rintro ⟨k, hk, hlo, hhi⟩
    have hq : (now - b) / 1000000 = k := by omega
    refine ⟨by omega, by omega, hq ▸ hk⟩
  · rintro ⟨hb, hr, hq⟩
    exact ⟨(now - b) / 1000000, hq, by omega, by omega⟩

/-- Settles O10: the window of a time is the one that its millisecond after the boundary numbers. -/
theorem calmWindowTimes : Obligations.CalmWindowTimes := by
  unfold Obligations.CalmWindowTimes
  refine ⟨nCalm_bounds, fun s p hon hlen => ?_⟩
  rw [State.calm_iff_of_on s p hon, exists_window_iff _ _ _ _ (by omega)]

/-! ### Fences that latch an error (R19, R20) -/

/-- A fence after an error has come to it. -/
def Fence.latched (f : Fence) (r : Reason) (remote : Bool) : Fence :=
  if f.err ∨ r = 0 then f
  else { f with err := true, remote := remote, reason := r, errFired := f.errFired || f.irqOnErr }

@[simp] theorem Fence.latched_handle (f : Fence) (r : Reason) (b : Bool) : (f.latched r b).handle = f.handle := by
  unfold Fence.latched; split <;> rfl

@[simp] theorem Fence.latched_value (f : Fence) (r : Reason) (b : Bool) : (f.latched r b).value = f.value := by
  unfold Fence.latched; split <;> rfl

/-- The first error stands: a fence that has latched takes no other. -/
theorem Fence.latched_twice (f : Fence) (r : Reason) (b c : Bool) : (f.latched r b).latched r c = f.latched r b := by
  by_cases h : f.err ∨ r = 0
  · simp only [Fence.latched, if_pos h]
  · simp [Fence.latched, if_neg h]

theorem Fence.latched_of_clear (f : Fence) (r : Reason) (b : Bool) (hf : f.err = false) (hr : r ≠ 0) :
    (f.latched r b).err = true ∧ (f.latched r b).reason = r := by
  simp [Fence.latched, hf, hr]

theorem State.handle_of_fence? {s : State} {h : Handle} {f : Fence} (hf : s.fence? h = some f) : f.handle = h := by
  simpa using List.find?_some hf

theorem State.fence?_setFence (s : State) (f : Fence) (k : Handle) :
    (s.setFence f).fence? k = (s.fence? k).map (fun g => if k = f.handle then f else g) := by
  have hsame : ((fun g : Fence => g.handle == k) ∘ fun g => if g.handle = f.handle then f else g) =
      fun g => g.handle == k := by
    funext g
    by_cases hg : g.handle = f.handle <;> simp [hg]
  simp only [State.fence?, State.setFence, List.find?_map, hsame]
  refine Option.map_congr fun g hg => ?_
  rw [State.handle_of_fence? hg]

@[simp] theorem State.fence?_fire (s : State) (p v : Nat) (k : Handle) : (s.fire p v).fence? k = s.fence? k := rfl

/-- What a latch does to the fences: the one named latches, the others stand. -/
theorem State.fence?_latch (s : State) (h : Handle) (r : Reason) (b : Bool) (k : Handle) :
    (s.latch h r b).fence? k = (s.fence? k).map (fun f => if k = h then f.latched r b else f) := by
  cases hf : s.fence? h with
  | none =>
    have hstays : s.latch h r b = s := by simp [State.latch, hf]
    by_cases hk : k = h <;> simp [hstays, hk, hf]
  | some f =>
    have hh := State.handle_of_fence? hf
    have hrewritten : (s.latch h r b).fence? k = (s.fence? k).map (fun g => if k = h then f.latched r b else g) := by
      unfold State.latch fenceErrIrq
      simp only [hf]
      by_cases hstop : f.err ∨ r = 0
      · by_cases hk : k = h <;> simp [hstop, hk, hf, Fence.latched]
      · rw [if_neg hstop]
        split
        · next hirq => simp [State.fence?_setFence, Fence.latched, hstop, hirq, hh]
        · next hirq =>
          have hfired : (f.errFired || f.irqOnErr) = f.errFired := by
            cases hq : f.irqOnErr <;> simp_all
          simp [State.fence?_setFence, Fence.latched, hstop, hfired, hh]
    rw [hrewritten]
    refine Option.map_congr fun g hg => ?_
    split
    · next hk =>
      rw [hk, hf] at hg
      rw [Option.some.inj hg]
    · rfl

/-- An error that comes to a list of fences latches in each of them. -/
theorem State.fence?_latchAll (hs : List Handle) (s : State) (r : Reason) (b : Bool) (k : Handle) :
    (hs.foldl (fun t h => t.latch h r b) s).fence? k =
      (s.fence? k).map (fun f => if k ∈ hs then f.latched r b else f) := by
  induction hs generalizing s with
  | nil => simp
  | cons h hs ih =>
    rw [List.foldl_cons, ih, State.fence?_latch, Option.map_map]
    refine Option.map_congr fun f _ => ?_
    by_cases hk : k = h
    · simp [hk, Fence.latched_twice]
    · simp [hk]

theorem State.latch_contexts (s : State) (h : Handle) (r : Reason) (b : Bool) :
    (s.latch h r b).objs.contexts = s.objs.contexts := by
  unfold State.latch fenceErrIrq
  split
  · rfl
  · split
    · rfl
    · split <;> rfl

/-! ### What an abort drops (R81) -/

theorem State.fence?_dropTransfers (s : State) (p : Nat) (r : Reason) (k : Handle) :
    (s.dropTransfers p r).fence? k = (s.fence? k).map (fun f =>
      if k ∈ (s.transfers.filter (fun t => t.part == p)).map (·.fence) then f.latched r false else f) := by
  rw [← State.fence?_latchAll, List.foldl_map]
  rfl

theorem State.dropTransfers_contexts (s : State) (p : Nat) (r : Reason) :
    (s.dropTransfers p r).objs.contexts = s.objs.contexts :=
  foldl_same (fun t : State => t.objs.contexts) _ (fun t (x : Transfer) => State.latch_contexts t x.fence r false) _ s

/-- The registers that an abort writes. -/
def abortKeys (p : Nat) : List Nat :=
  [kLateCycles p, kCommitsDiscarded, kCkptState p, kGustEnable p, kGenSource] ++ stateKeys p

theorem State.bumpReg_reg (s : State) (k n j : Nat) (h : j ≠ k) : (s.bumpReg k n).reg j = s.reg j :=
  State.reg_setReg_ne s k j (s.reg k + n) h

@[simp] theorem State.setGrid_reg (s : State) (p : Nat) (g : Grid) (k : Nat) : (s.setGrid p g).reg k = s.reg k := rfl

theorem State.lateFor_reg (s : State) (p u ns k : Nat) (hk : k ≠ kLateCycles p) (hl : k ∉ logKeys) :
    (s.lateFor p u ns).reg k = s.reg k := by
  have hb : ∀ n g, ((s.bumpReg (kLateCycles p) n).setGrid p g).reg k = s.reg k := fun n g => by
    rw [State.setGrid_reg, State.bumpReg_reg s _ n k hk]
  unfold State.lateFor
  dsimp only
  split
  · rfl
  · split
    · rw [hb]
    · rw [State.event_reg _ _ _ _ _ hl, hb]

theorem State.lateSince_reg (s : State) (p u since k : Nat) (hk : k ≠ kLateCycles p) (hl : k ∉ logKeys) :
    (s.lateSince p u since).reg k = s.reg k := State.lateFor_reg s p u _ k hk hl

theorem State.dropStalls_reg (s : State) (p k : Nat) (hk : k ≠ kLateCycles p) (hl : k ∉ logKeys) :
    (s.dropStalls p).reg k = s.reg k := by
  unfold State.dropStalls
  exact foldl_same (fun t : State => t.reg k) (fun (t : State) (x : Stalled) => t.lateSince p x.unitId x.since)
    (fun t x => State.lateSince_reg t p x.unitId x.since k hk hl) _ s

theorem State.dropColl_reg (s : State) (p k : Nat) (hk : k ≠ kCommitsDiscarded) : (s.dropColl p).reg k = s.reg k := by
  unfold State.dropColl
  dsimp only
  rw [State.bumpReg_reg _ _ _ _ hk]
  rfl

theorem State.voidSnapshot_reg (s : State) (p k : Nat) (hk : k ≠ kCkptState p) :
    (s.voidSnapshot p).reg k = s.reg k := by
  unfold State.voidSnapshot
  split
  · rw [State.reg_setReg_ne _ _ _ _ hk]
    rfl
  · rfl

theorem State.shrinkFrom_reg (s : State) (p t k : Nat) (hc : k ≠ kCkptState p) (hg : k ≠ kGustEnable p) :
    (s.shrinkFrom p t).reg k = s.reg k := by
  have hv := State.voidSnapshot_reg s p k hc
  unfold State.shrinkFrom
  dsimp only
  split
  · rw [State.setGrid_reg, State.reg_setReg_ne _ _ _ _ hg, ← hv]
    rfl
  · exact hv

/-- A shrink may stop the grid; it does not touch whether a gust runs or the partition is held. -/
theorem State.shrinkFrom_grid (s : State) (p t : Nat) :
    ∃ on, (s.shrinkFrom p t).grid p = { s.grid p with on := on } := by
  have hv : (s.voidSnapshot p).grid p = s.grid p := by simp only [State.grid, State.voidSnapshot_grids]
  unfold State.shrinkFrom
  dsimp only
  split
  · exact ⟨false, by rw [State.grid_setGrid_self]; exact congrArg (fun g : Grid => { g with on := false }) hv⟩
  · exact ⟨(s.grid p).on, hv⟩

theorem State.setPartState_state (s : State) (p st : Nat) : ((s.setPartState p st).part p).state = st := by
  unfold State.setPartState
  simp only [State.part, State.event_parts, State.errorBit_parts, State.mirror_parts]
  exact congrArg Part.state (State.part_setPart_self s p _)

/-! ### The stages of an abort (R81) -/

/-- The pass is abandoned: its stalls, gust, running entries, accumulators, transfers and collective data go. -/
def State.passDropped (s : State) (p : Nat) (r : Reason) : State :=
  let s := s.dropStalls p
  let g := s.grid p
  let s := s.setGrid p { g with inGust := false, held := true, paused := false, pauseAt := none,
                                resumeAt := none, slip := false, slipped := 0, stopping := false,
                                on := g.on && !g.stopping }
  let s := { s with running := s.running.filter (fun x => x.part != p) }
  ((s.dropHeld p).dropTransfers p r).dropColl p

/-- Then the job's fences report it. -/
def State.abortReported (s : State) (p : Nat) (r : Reason) (b : Bool) : State :=
  ((s.passDropped p r).jobFences p).foldl (fun t h => t.latch h r b) (s.passDropped p r)

/-- Then a shrink may begin, the event is raised, and a RUNNING partition is held. -/
def State.passHeld (s : State) (p t : Nat) (r : Reason) (gust : Bool) (ev : EventCode) : State :=
  let s := s.shrinkFrom p t
  let s := if gust then s.event ev r p else s
  let s := if (s.part p).state = stRunning then s.setPartState p stHeld else s
  s.setGenSource p true

theorem State.abortWith_eq (s : State) (p : Nat) (r : Reason) (b : Bool) (t : Nat) (ev : EventCode) :
    s.abortWith p r b t ev = (s.abortReported p r b).passHeld p
      (if b then t else ((s.dropStalls p).grid p).nextPoint) r ((s.dropStalls p).grid p).inGust ev := rfl

theorem State.passDropped_reg (s : State) (p : Nat) (r : Reason) (k : Nat) (h : k ∉ abortKeys p) :
    (s.passDropped p r).reg k = s.reg k := by
  simp only [abortKeys, stateKeys, List.mem_append, List.mem_cons, not_or] at h
  obtain ⟨⟨hlate, hcommits, -⟩, -, hlog⟩ := h
  unfold State.passDropped
  dsimp only
  rw [State.dropColl_reg _ _ _ hcommits, ← State.dropStalls_reg s p k hlate hlog]
  exact State.reg_of_dict _ _ k (by simp)

theorem State.passHeld_reg (s : State) (p t : Nat) (r : Reason) (gust : Bool) (ev : EventCode) (k : Nat)
    (h : k ∉ abortKeys p) : (s.passHeld p t r gust ev).reg k = s.reg k := by
  simp only [abortKeys, List.mem_append, List.mem_cons, not_or] at h
  obtain ⟨⟨-, -, hckpt, hgust, hgen, -⟩, hst⟩ := h
  have hlog : k ∉ logKeys := fun hk => hst (List.mem_append_right _ hk)
  unfold State.passHeld
  dsimp only
  rw [State.setGenSource_reg _ _ _ _ hlog hgen]
  have hshrink := State.shrinkFrom_reg s p t k hckpt hgust
  generalize s.shrinkFrom p t = x at hshrink ⊢
  have hevent : (if gust then x.event ev r p else x).reg k = s.reg k := by
    split
    · rw [State.event_reg _ _ _ _ _ hlog, hshrink]
    · exact hshrink
  generalize (if gust = true then x.event ev r p else x) = y at hevent ⊢
  split
  · rw [State.setPartState_reg _ _ _ _ hst, hevent]
  · exact hevent

theorem State.abortWith_reg (s : State) (p : Nat) (r : Reason) (b : Bool) (t : Nat) (ev : EventCode) (k : Nat)
    (h : k ∉ abortKeys p) : (s.abortWith p r b t ev).reg k = s.reg k := by
  rw [State.abortWith_eq, State.passHeld_reg _ _ _ _ _ _ _ h, ← State.passDropped_reg s p r k h]
  exact foldl_same (fun t : State => t.reg k) _ (fun t h => State.reg_of_dict t _ k (State.latch_dict t h r b)) _ _

/-! ### What an abort leaves (R81) -/

theorem State.passDropped_grid (s : State) (p : Nat) (r : Reason) :
    ((s.passDropped p r).grid p).inGust = false ∧ ((s.passDropped p r).grid p).held = true := by
  unfold State.passDropped
  simp only [State.grid, State.dropColl_grids, State.dropTransfers_grids, State.dropHeld_grids]
  rw [State.setGrid, tabGet_tabSet_self]
  exact ⟨rfl, rfl⟩

theorem State.abortReported_grids (s : State) (p : Nat) (r : Reason) (b : Bool) :
    (s.abortReported p r b).grids = (s.passDropped p r).grids :=
  foldl_same State.grids _ (fun t h => State.latch_grids t h r b) _ _

theorem State.abortReported_parts (s : State) (p : Nat) (r : Reason) (b : Bool) :
    (s.abortReported p r b).parts = s.parts := by
  unfold State.abortReported
  rw [foldl_same State.parts _ (fun t h => State.latch_parts t h r b)]
  simp [State.passDropped]

theorem State.abortReported_running (s : State) (p : Nat) (r : Reason) (b : Bool) :
    (s.abortReported p r b).running = s.running.filter (fun x => x.part != p) := by
  unfold State.abortReported
  rw [foldl_same State.running _ (fun t h => State.latch_running t h r b)]
  simp [State.passDropped]

theorem State.passHeld_running (s : State) (p t : Nat) (r : Reason) (gust : Bool) (ev : EventCode) :
    (s.passHeld p t r gust ev).running = s.running := by
  simp [State.passHeld, apply_ite State.running]

theorem State.passHeld_objs (s : State) (p t : Nat) (r : Reason) (gust : Bool) (ev : EventCode) :
    (s.passHeld p t r gust ev).objs = s.objs := by
  simp [State.passHeld, apply_ite State.objs]

theorem State.passHeld_grids (s : State) (p t : Nat) (r : Reason) (gust : Bool) (ev : EventCode) :
    (s.passHeld p t r gust ev).grids = (s.shrinkFrom p t).grids := by
  simp [State.passHeld, apply_ite State.grids]

theorem State.passHeld_grid (s : State) (p t : Nat) (r : Reason) (gust : Bool) (ev : EventCode) :
    ∃ on, (s.passHeld p t r gust ev).grid p = { s.grid p with on := on } := by
  simpa only [State.grid, State.passHeld_grids] using s.shrinkFrom_grid p t

theorem State.passHeld_state (s : State) (p t : Nat) (r : Reason) (gust : Bool) (ev : EventCode)
    (h : (s.part p).state = stRunning) : ((s.passHeld p t r gust ev).part p).state = stHeld := by
  have hrun : ((if gust then (s.shrinkFrom p t).event ev r p else s.shrinkFrom p t).part p).state = stRunning := by
    rw [← h]
    split <;> simp [State.part]
  unfold State.passHeld
  dsimp only
  rw [if_pos hrun, State.part, State.setGenSource_parts]
  exact State.setPartState_state _ p stHeld

theorem State.abortWith_grid (s : State) (p : Nat) (r : Reason) (b : Bool) (t : Nat) (ev : EventCode) :
    ((s.abortWith p r b t ev).grid p).inGust = false ∧ ((s.abortWith p r b t ev).grid p).held = true := by
  rw [State.abortWith_eq]
  obtain ⟨on, hgrid⟩ := (s.abortReported p r b).passHeld_grid p (if b then t else ((s.dropStalls p).grid p).nextPoint) r
    ((s.dropStalls p).grid p).inGust ev
  rw [hgrid, State.grid, State.abortReported_grids]
  exact s.passDropped_grid p r

theorem State.abortWith_running (s : State) (p : Nat) (r : Reason) (b : Bool) (t : Nat) (ev : EventCode) :
    (s.abortWith p r b t ev).running = s.running.filter (fun x => x.part != p) := by
  rw [State.abortWith_eq, State.passHeld_running, State.abortReported_running]

theorem State.abortWith_state (s : State) (p : Nat) (r : Reason) (b : Bool) (t : Nat) (ev : EventCode)
    (h : (s.part p).state = stRunning) : ((s.abortWith p r b t ev).part p).state = stHeld := by
  rw [State.abortWith_eq]
  refine State.passHeld_state _ _ _ _ _ _ ?_
  rw [State.part, State.abortReported_parts]
  exact h

theorem State.fence?_of_objs {s t : State} (h : t.objs = s.objs) (k : Handle) : t.fence? k = s.fence? k := by
  rw [State.fence?, State.fence?, h]

theorem State.fence?_passDropped (s : State) (p : Nat) (r : Reason) (k : Handle) :
    (s.passDropped p r).fence? k = (s.fence? k).map (fun f =>
      if k ∈ (s.transfers.filter (fun t => t.part == p)).map (·.fence) then f.latched r false else f) := by
  unfold State.passDropped
  dsimp only
  rw [State.fence?_of_objs (State.dropColl_objs _ p), State.fence?_dropTransfers]
  simp only [State.dropHeld_transfers, State.setGrid_transfers, State.dropStalls_transfers]
  rw [State.fence?_of_objs (s := s) (by simp)]

theorem State.passDropped_jobFences (s : State) (p : Nat) (r : Reason) :
    (s.passDropped p r).jobFences p = s.jobFences p := by
  unfold State.jobFences State.passDropped
  dsimp only
  rw [State.dropColl_objs, State.dropTransfers_contexts]
  simp

/-- A job fence without an error reports the abort and keeps its value; whether a transfer's end has latched it before
makes no difference. -/
theorem State.abortWith_jobFence (s : State) (p : Nat) (r : Reason) (b : Bool) (t : Nat) (ev : EventCode) (hr : r ≠ 0)
    {h : Handle} (hjob : h ∈ s.jobFences p) {f : Fence} (hf : s.fence? h = some f) (herr : f.err = false) :
    ∃ g, (s.abortWith p r b t ev).fence? h = some g ∧ g.err = true ∧ g.reason = r ∧ g.value = f.value := by
  rw [State.abortWith_eq, State.fence?_of_objs (State.passHeld_objs _ _ _ _ _ _), State.abortReported,
    State.fence?_latchAll, State.passDropped_jobFences, State.fence?_passDropped, hf]
  simp only [Option.map_some, if_pos hjob, Option.some.injEq, exists_eq_left']
  split
  · rw [Fence.latched_twice]
    obtain ⟨he, hreason⟩ := f.latched_of_clear r false herr hr
    exact ⟨he, hreason, Fence.latched_value f r false⟩
  · obtain ⟨he, hreason⟩ := f.latched_of_clear r b herr hr
    exact ⟨he, hreason, Fence.latched_value f r b⟩

/-- An abort writes no PORT_OWNER and no PORT_STATE. -/
theorem portKey_notMem_abortKeys {n p sub : Nat} (hn : n < 16) (hp : p < 8) (hsub : sub = 1 ∨ sub = 2) :
    dkey (0x7010 + n) sub ∉ abortKeys p := by
  simp only [abortKeys, stateKeys, logKeys, List.cons_append, List.nil_append, List.mem_cons, List.not_mem_nil,
    or_false, kLateCycles, kCommitsDiscarded, kCkptState, kGustEnable, kGenSource, kPartState, kPartGen, kLogNewestSeq,
    kLogSuppressed, kEmcyDropped, kErrorRegister, dkey]
  omega

theorem State.abortWith_upPorts (s : State) {p : Nat} (hp : p < 8) (r : Reason) (b : Bool) (t : Nat) (ev : EventCode) :
    (s.abortWith p r b t ev).upPorts p = s.upPorts p := by
  refine List.filter_congr fun n hn => ?_
  have hlt := List.mem_range.mp hn
  have howner : kPortOwner n ∉ abortKeys p := portKey_notMem_abortKeys hlt hp (.inl rfl)
  have hstate : kPortState n ∉ abortKeys p := portKey_notMem_abortKeys hlt hp (.inr rfl)
  rw [State.abortWith_reg _ _ _ _ _ _ _ howner, State.abortWith_reg _ _ _ _ _ _ _ hstate]

/-! ### Notices (R258, R260) -/

theorem State.sendTiming_timing (s : State) (n m : Nat) :
    (s.sendTiming n m).fabric.timing = s.fabric.timing ++ [⟨n, m, []⟩] := rfl

/-- A notice leaves on each UP port but the one skipped, after what was sent before. -/
theorem State.sendNotice_timing (s : State) (p m : Nat) (skip : Option Nat) :
    (s.sendNotice p m skip).fabric.timing =
      s.fabric.timing ++ ((s.upPorts p).filter (fun n => skip != some n)).map (fun n => ⟨n, m, []⟩) := by
  unfold State.sendNotice
  generalize (s.upPorts p).filter (fun n => skip != some n) = ports
  induction ports generalizing s with
  | nil => simp
  | cons n ns ih => rw [List.foldl_cons, ih, State.sendTiming_timing]; simp

theorem fld_mkTiming_kind (kind hops origin job ta tb r : Nat) (hk : kind < 16) :
    fld (mkTiming kind hops origin job ta tb r) 0 4 = kind := by
  unfold fld mkTiming
  rw [Nat.shiftRight_zero]
  omega

theorem fld_mkTiming_reason (kind hops origin job ta tb r : Nat) (hk : kind < 16) (hh : hops < 16)
    (ho : origin < 2 ^ 24) (hj : job < 2 ^ 32) (hr : r < 2 ^ 16) :
    fld (mkTiming kind hops origin job ta tb r) 192 16 = r := by
  unfold fld mkTiming
  rw [Nat.shiftRight_eq_div_pow]
  omega

/-- The state once a notice is remembered, so that a duplicate of it is known. -/
def State.remember (s : State) (m : Nat) : State :=
  { s with fabric := { s.fabric with seen := s.fabric.seen ++ [noticeId m] } }

/-- The abort notice of a fault. -/
def State.faultNotice (s : State) (p : Nat) (r : Reason) : Nat :=
  mkTiming 5 1 (s.reg kModuleId % 2 ^ 14) (s.jobIdOf p) (s.grid p).nextPoint 0 r

theorem State.faultNotice_fields (s : State) (p : Nat) (r : Reason) (hjob : s.jobIdOf p < 2 ^ 32) (hr : r < 2 ^ 16) :
    fld (s.faultNotice p r) 0 4 = 5 ∧ fld (s.faultNotice p r) 192 16 = r :=
  ⟨fld_mkTiming_kind _ _ _ _ _ _ _ (by omega),
    fld_mkTiming_reason _ _ _ _ _ _ _ (by omega) (by omega) (by omega) hjob hr⟩

/-- The job of a message is one of the eight partitions', and the partition bears its number. -/
theorem State.jobPart_some {s : State} {m p : Nat} (h : s.jobPart m = some p) : p < 8 ∧ s.jobIdOf p = fld m 32 32 := by
  unfold State.jobPart parts8 at h
  have hfound := List.find?_some h
  simp only [Bool.and_eq_true, beq_iff_eq] at hfound
  exact ⟨List.mem_range.mp (List.mem_of_find?_eq_some h), hfound.2⟩

/-- A notice for a job here that is new, on an UP port of the job's partition, acts and travels on. -/
theorem State.jobNotice_of_new (s : State) (n kind m p : Nat) (act : State → Nat → State) (hjob : s.jobPart m = some p)
    (hup : s.reg (kPortState n) = 3) (howner : s.reg (kPortOwner n) = p) (hkind : fld m 0 4 = kind)
    (hnew : s.fabric.seen.contains (noticeId m) = false) :
    s.jobNotice n kind m act = (act (s.remember m) p).sendNotice p (hopOn m) (some n) := by
  unfold State.jobNotice
  simp only [hjob]
  rw [if_neg (by simp only [hup, howner, hkind, hnew]; simp)]
  rfl

/-- A slip notice for another point than the next, at which a gust has started, is a fault (R79). -/
theorem slipAct_of_started (s : State) (m p : Nat) (hstart : s.startedAt p (fld m 64 64) = true)
    (hne : fld m 64 64 ≠ (s.grid p).nextPoint) : slipAct m s p = s.faultPart p 0x1604 := by
  simp [slipAct, hstart, hne]

/-! ### A fault (R81) -/

theorem State.faultPart_of_running (s : State) (p : Nat) (r : Reason) (h : (s.part p).state = stRunning) :
    s.faultPart p r = ((s.remember (s.faultNotice p r)).abortWith p r false 0 0x01030013).sendNotice p
      (s.faultNotice p r) none := by
  unfold State.faultPart State.faultWith
  rw [if_neg (by simp [h])]
  rfl

/-- What a fault with reason `r` in partition `p` leaves in `u`, from `w` (R81). -/
structure FaultLeaves (w u : State) (p : Nat) (r : Reason) : Prop where
  state : (u.part p).state = stHeld
  inGust : (u.grid p).inGust = false
  held : (u.grid p).held = true
  running : ∀ x ∈ u.running, x.part ≠ p
  fences : ∀ h ∈ w.jobFences p, ∀ f, w.fence? h = some f → f.err = false →
    ∃ g, u.fence? h = some g ∧ g.err = true ∧ g.reason = r ∧ g.value = f.value
  notices : ∀ k ∈ w.upPorts p, ∃ x ∈ u.fabric.timing, x.port = k ∧ fld x.header 0 4 = 5 ∧ fld x.header 192 16 = r

theorem State.faultPart_leaves (s : State) {p : Nat} {r : Reason} (hp : p < 8) (hjob : s.jobIdOf p < 2 ^ 32)
    (hr : r ≠ 0) (hlt : r < 2 ^ 16) (h : (s.part p).state = stRunning) : FaultLeaves s (s.faultPart p r) p r := by
  rw [State.faultPart_of_running s p r h]
  have hgrid := (s.remember (s.faultNotice p r)).abortWith_grid p r false 0 0x01030013
  have hrunning := (s.remember (s.faultNotice p r)).abortWith_running p r false 0 0x01030013
  have hstate := (s.remember (s.faultNotice p r)).abortWith_state p r false 0 0x01030013 h
  have hports := (s.remember (s.faultNotice p r)).abortWith_upPorts hp r false 0 0x01030013
  have hfence := fun k => (s.remember (s.faultNotice p r)).abortWith_jobFence p r false 0 0x01030013 hr (h := k)
  generalize (s.remember (s.faultNotice p r)).abortWith p r false 0 0x01030013 = u at *
  refine ⟨?_, ?_, ?_, ?_, fun k hk f hf herr => ?_, fun k hk => ?_⟩
  · simpa only [State.part, State.sendNotice_parts] using hstate
  · simpa only [State.grid, State.sendNotice_grids] using hgrid.1
  · simpa only [State.grid, State.sendNotice_grids] using hgrid.2
  · rw [State.sendNotice_running, hrunning]
    simp
  · rw [State.fence?_of_objs (State.sendNotice_objs u p _ none)]
    exact hfence k hk hf herr
  · refine ⟨⟨k, s.faultNotice p r, []⟩, ?_, rfl, s.faultNotice_fields p r hjob hlt⟩
    rw [State.sendNotice_timing, hports]
    exact List.mem_append_right _ (List.mem_map.mpr ⟨k, List.mem_filter.mpr ⟨hk, rfl⟩, rfl⟩)

/-- A notice sent on afterwards takes nothing of it away. -/
theorem FaultLeaves.sendNotice {w u : State} {p : Nat} {r : Reason} (h : FaultLeaves w u p r) (m : Nat)
    (skip : Option Nat) : FaultLeaves w (u.sendNotice p m skip) p r where
  state := by simpa only [State.part, State.sendNotice_parts] using h.state
  inGust := by simpa only [State.grid, State.sendNotice_grids] using h.inGust
  held := by simpa only [State.grid, State.sendNotice_grids] using h.held
  running := by simpa only [State.sendNotice_running] using h.running
  fences := by simpa only [State.fence?_of_objs (State.sendNotice_objs u p m skip)] using h.fences
  notices := fun k hk => by
    obtain ⟨x, hx, hfields⟩ := h.notices k hk
    exact ⟨x, State.sendNotice_timing u p m skip ▸ List.mem_append_left _ hx, hfields⟩

/-- Settles O11: the late notice is a fault of the job's partition, and then travels on. -/
theorem lateSlipNoticeFaults : Obligations.LateSlipNoticeFaults := by
  unfold Obligations.LateSlipNoticeFaults
  intro n m t p s w hjob hup howner hnew hkind hstart hne hrun
  obtain ⟨hp, hid⟩ := State.jobPart_some hjob
  have hid32 : w.jobIdOf p < 2 ^ 32 := hid ▸ Nat.mod_lt _ (by omega)
  have hexec : exec (.slipNotice n m t) s =
      .next (((w.remember m.toNat).faultPart p 0x1604).sendNotice p (hopOn m.toNat) (some n)) := by
    rw [← slipAct_of_started (w.remember m.toNat) m.toNat p hstart hne,
      ← State.jobNotice_of_new w n 4 m.toNat p _ hjob hup howner hkind hnew]
    rfl
  have hleaves := ((w.remember m.toNat).faultPart_leaves (r := 0x1604) hp hid32 (by decide) (by decide) hrun).sendNotice
    (hopOn m.toNat) (some n)
  exact ⟨_, hexec, hleaves.state, hleaves.inGust, hleaves.held, hleaves.running, hleaves.fences, hleaves.notices⟩

end Sys2Proof.Machine
end

section
/-! The integer path of the matrix array (R98, R102 to R104). Whole numbers keep their value through the terms of the
array modes; a block clamps its exact sum once; and an entry adds to INT_SATURATIONS for its accumulators alone, since
its issue touches neither the operands nor the counter. -/

namespace Sys2Proof.Machine

/-! ### Whole numbers as exact values -/

/-- A whole number: a finite value whose exponent is 0. -/
def Val.Whole (v : Val) : Prop := ∃ neg m, v = .fin neg m 0

theorem Val.whole_ofInt (a : Int) : (ofInt a).Whole := ⟨_, _, rfl⟩

theorem Val.Whole.neg {v : Val} (hv : v.Whole) : v.neg.Whole := by
  obtain ⟨s, m, rfl⟩ := hv
  exact ⟨_, _, rfl⟩

theorem Val.Whole.add {v w : Val} (hv : v.Whole) (hw : w.Whole) : (v.add w).Whole := by
  obtain ⟨s, m, rfl⟩ := hv
  obtain ⟨t, n, rfl⟩ := hw
  by_cases hz : m = 0 ∧ n = 0
  · simp [Val.Whole, Val.add, hz]
  · simp [Val.Whole, Val.add, hz, ofSigned]

theorem Val.toInt_fin_zero (neg : Bool) (m : Nat) : (Val.fin neg m 0).toInt = if neg then -(m : Int) else m := by
  simp [Val.toInt, scaleDown]

@[simp] theorem Val.toInt_ofInt (a : Int) : (ofInt a).toInt = a := by
  rw [ofInt, ofSigned, Val.toInt_fin_zero]
  simp only [decide_eq_true_eq]
  omega

theorem Val.toInt_neg (v : Val) : v.neg.toInt = -v.toInt := by
  cases v with
  | nan => rfl
  | inf s => rfl
  | fin s m e => cases s <;> simp [Val.neg, Val.toInt]

theorem Val.toInt_abs (v : Val) : v.abs.toInt = |v.toInt| := by
  cases v with
  | nan => rfl
  | inf s => rfl
  | fin s m e => cases s <;> simp [Val.abs, Val.toInt]

theorem Val.toInt_add {v w : Val} (hv : v.Whole) (hw : w.Whole) : (v.add w).toInt = v.toInt + w.toInt := by
  obtain ⟨s, m, rfl⟩ := hv
  obtain ⟨t, n, rfl⟩ := hw
  by_cases hz : m = 0 ∧ n = 0
  · simp [Val.add, hz, Val.toInt_fin_zero]
  · have hsum : (Val.fin s m 0).add (.fin t n 0) = ofInt (sgnAt s m 0 0 + sgnAt t n 0 0) := by
      simp [Val.add, hz, ofInt]
    rw [hsum, Val.toInt_ofInt]
    simp [sgnAt, Val.toInt_fin_zero]

theorem Val.toInt_mul {v w : Val} (hv : v.Whole) (hw : w.Whole) : (v.mul w).toInt = v.toInt * w.toInt := by
  obtain ⟨s, m, rfl⟩ := hv
  obtain ⟨t, n, rfl⟩ := hw
  cases s <;> cases t <;> simp [Val.mul, Val.toInt_fin_zero]

/-- What a PE forms of whole numbers is exact (R102, R103). -/
theorem arrayTerm_toInt {v w : Val} (hv : v.Whole) (hw : w.Whole) (cmp : Nat) :
    (arrayTerm 0 cmp v w).toInt = v.toInt * w.toInt ∧ (arrayTerm 1 cmp v w).toInt = |v.toInt - w.toInt| ∧
      (arrayTerm 2 cmp v w).toInt = (v.toInt - w.toInt) * (v.toInt - w.toInt) ∧
      (arrayTerm 3 cmp v w).toInt = v.toInt + w.toInt ∧ (arrayTerm 4 cmp v w).toInt = v.toInt + w.toInt := by
  have hsub : (v.add w.neg).toInt = v.toInt - w.toInt := by
    rw [Val.toInt_add hv hw.neg, Val.toInt_neg, sub_eq_add_neg]
  have hdiff : (v.add w.neg).Whole := hv.add hw.neg
  refine ⟨Val.toInt_mul hv hw, ?_, ?_, Val.toInt_add hv hw, Val.toInt_add hv hw⟩
  · rw [← hsub]; exact Val.toInt_abs _
  · rw [← hsub]; exact Val.toInt_mul hdiff hdiff

/-! ### A block's sum (R99, R102) -/

theorem satInt_32_fst (i : Int) : (satInt 32 i).1 = max (-2147483648) (min 2147483647 i) := by
  unfold satInt
  dsimp only
  split
  · omega
  · split <;> omega

theorem satInt_32_snd_iff (i : Int) : (satInt 32 i).2 = true ↔ i < -2147483648 ∨ 2147483647 < i := by
  unfold satInt
  dsimp only
  split
  · exact iff_of_true rfl (by omega)
  · split
    · exact iff_of_true rfl (by omega)
    · exact iff_of_false Bool.false_ne_true (by omega)

/-- The modes that add their terms: products, the two sums of differences, and the count. -/
theorem arrayBlock_of_sum {op : Nat} (hop : op ∈ [0, 1, 2, 5]) (acc : Nat) (terms : List Val) :
    arrayBlock op true acc terms =
      (unsgn 32 (satInt 32 ((terms.map Val.toInt).foldl (· + ·) (sgn 32 acc))).1,
        (satInt 32 ((terms.map Val.toInt).foldl (· + ·) (sgn 32 acc))).2) := by
  simp only [List.mem_cons, List.not_mem_nil, or_false] at hop
  rcases hop with rfl | rfl | rfl | rfl <;> rfl

/-! ### What an entry reads

An accumulator depends on the cell stores, and on the accumulators held, alone. -/

theorem State.cellLe_of_mem {s t : State} (h : t.mem = s.mem) : t.cellLe = s.cellLe := by
  funext c a n
  simp only [State.cellLe, State.cellByte, h]

theorem State.arrayCell_of_mem {s t : State} (h : t.mem = s.mem) : t.arrayCell = s.arrayCell := by
  funext c x r j init
  simp only [State.arrayCell, State.arrayX, State.arrayW, State.cellBits, State.cellLe_of_mem h]

/-- The initial value of an accumulator (R104). -/
def State.arrayStart (s : State) (c : Nat) (x : ArrayDesc) (r j : Nat) : Nat :=
  match x.init with
  | 1 => s.cellLe c (x.biasLine * 64 + 4 * j) 4
  | 2 => match tabGet (s.held.map (fun h => (h.1, some h.2))) c none with
    | some h => h.vals.getD (r * x.cols + j) 0
    | none => 0
  | _ => arrayIdentity x.op x.intPath

theorem State.arrayStart_of_mem_held {s t : State} (hm : t.mem = s.mem) (hh : t.held = s.held) :
    t.arrayStart = s.arrayStart := by
  funext c x r j
  simp only [State.arrayStart, State.cellLe_of_mem hm, hh]

/-- An accumulator of the entry saturates. -/
def State.arraySaturates (s : State) (c : Nat) (x : ArrayDesc) : Prop :=
  ∃ r < x.rows, ∃ j < x.cols, (s.arrayCell c x r j (s.arrayStart c x r j)).2 = true

theorem State.arraySaturates_of_mem_held {s t : State} (hm : t.mem = s.mem) (hh : t.held = s.held) :
    t.arraySaturates = s.arraySaturates := by
  funext c x
  simp only [State.arraySaturates, State.arrayCell_of_mem hm, State.arrayStart_of_mem_held hm hh]

/-! ### What an entry counts (R102, R114) -/

/-- The entry's accumulators, row by row, each with whether it saturated. -/
def State.arrayResults (s : State) (c : Nat) (x : ArrayDesc) : List (Nat × Bool) :=
  ((List.range x.rows).flatMap (fun r => (List.range x.cols).map (fun j => (r, j)))).map
    (fun rj => s.arrayCell c x rj.1 rj.2 (s.arrayStart c x rj.1 rj.2))

theorem State.arrayResults_any_iff (s : State) (c : Nat) (x : ArrayDesc) :
    (s.arrayResults c x).any (·.2) = true ↔ s.arraySaturates c x := by
  simp [State.arrayResults, State.arraySaturates]

/-- The state once the accumulators held have been taken up and an empty reduction has counted. -/
def State.arrayTaken (s : State) (c : Nat) (x : ArrayDesc) : State :=
  let s := { s with held := tabErase s.held c }
  if x.k = 0 ∧ decide (x.rows = 0 ∨ x.cols = 0) = false then s.bumpReg kEmptyReductions 1 else s

/-- The state once the entry's saturations have counted too. -/
def State.arrayCounted (s : State) (c : Nat) (x : ArrayDesc) : State :=
  if (s.arrayResults c x).any (·.2) then (s.arrayTaken c x).bumpReg kIntSaturations 1 else s.arrayTaken c x

theorem State.arrayTaken_reg (s : State) (c : Nat) (x : ArrayDesc) (k : Nat) (hk : k ≠ kEmptyReductions) :
    (s.arrayTaken c x).reg k = s.reg k := by
  unfold State.arrayTaken
  dsimp only
  split
  · exact State.bumpReg_reg _ _ _ _ hk
  · rfl

/-- Beyond what it counts, an entry may touch lines beyond the store, and adds itself to those that run. -/
theorem State.arrayRun_eq (s : State) (p c : Nat) (x : ArrayDesc) :
    ∃ lost r, s.arrayRun p c x = ((s.arrayCounted c x).overrun c lost).runEntry r := ⟨_, _, rfl⟩

theorem State.overrun_reg (s : State) (c n k : Nat) (hk : k ≠ kOperandOverruns) (hl : k ∉ logKeys) :
    (s.overrun c n).reg k = s.reg k := by
  unfold State.overrun
  split
  · rfl
  · rw [State.event_reg _ _ _ _ _ hl, State.bumpReg_reg _ _ _ _ hk]

theorem State.runEntry_reg (s : State) (r : Running) (k : Nat) : (s.runEntry r).reg k = s.reg k := by
  unfold State.runEntry
  split <;> rfl

theorem State.arrayRun_intSaturations (s : State) (p c : Nat) (x : ArrayDesc) :
    (s.arrayRun p c x).reg kIntSaturations =
      if (s.arrayResults c x).any (·.2) then (s.reg kIntSaturations + 1) % 2 ^ 64 else s.reg kIntSaturations := by
  obtain ⟨lost, r, hrun⟩ := s.arrayRun_eq p c x
  rw [hrun, State.runEntry_reg, State.overrun_reg _ _ _ _ (by decide) (by decide)]
  have htaken : (s.arrayTaken c x).reg kIntSaturations = s.reg kIntSaturations := s.arrayTaken_reg c x _ (by decide)
  have hbits : keyBits kIntSaturations = 64 := by decide
  unfold State.arrayCounted
  split
  · rw [State.bumpReg, State.reg_setReg_self, htaken, hbits]
  · exact htaken

/-! ### The entry's issue (R55) -/

/-- An entry that may issue runs in the state in which it issues. -/
theorem State.issue_of_mayIssue {s : State} {p u unit a : Nat} {aw : Bool} (h : s.mayIssue p u unit a aw = true)
    (entry : Instr) (run : State → State) : s.issue p u unit a aw entry run = run (s.issued p u) := by
  simp only [State.mayIssue, State.comesTo, Bool.and_eq_true, Bool.not_eq_true'] at h
  obtain ⟨⟨⟨⟨hissues, hstalled⟩, hdue⟩, hbusy⟩, haw⟩ := h
  have hlate : (s.arrived p u).busy u unit = s.busy u unit := by
    simp [State.arrived, State.busy]
  unfold State.issue
  rw [if_neg (by simp [hissues, hstalled, hdue])]
  dsimp only
  rw [if_neg (by rw [show s.lateFor p u (s.waited p u) = s.arrived p u from rfl, hlate, hbusy, haw]; simp)]
  rfl

theorem State.issued_mem (s : State) (p u : Nat) : (s.issued p u).mem = s.mem := by
  simp [State.issued, State.advance, State.arrived]

theorem State.issued_held (s : State) (p u : Nat) : (s.issued p u).held = s.held := by
  simp [State.issued, State.advance, State.arrived]

theorem State.issued_reg (s : State) (p u k : Nat) (hk : k ≠ kLateCycles p) (hl : k ∉ logKeys) :
    (s.issued p u).reg k = s.reg k := by
  rw [State.issued, State.advance, State.setGrid_reg]
  exact State.lateFor_reg _ _ _ _ _ hk hl

theorem kIntSaturations_ne_kLateCycles (p : Nat) : kIntSaturations ≠ kLateCycles p := by
  unfold kIntSaturations kLateCycles dkey
  omega

/-! ### The commands of the array -/

/-- The array's commands with their modes. -/
def arrayCommands (c : Fin 512) (a : BitVec 64) (d : Desc) : List (Nat × Instr) :=
  [(0, .multiplyAdd c a d), (1, .sumOfAbsoluteDifferences c a d), (2, .sumOfSquaredDifferences c a d),
    (3, .maxPlus c a d), (4, .minPlus c a d), (5, .compareAndCount c a d)]

theorem exec_of_mem_arrayCommands {op : Nat} {i : Instr} {c : Fin 512} {a : BitVec 64} {d : Desc}
    (h : (op, i) ∈ arrayCommands c a d) (s : State) :
    exec i s = .next (s.issueCluster c.val 0 a.toNat (arrayDesc d.toNat).spans i
      (State.arrayEntry op c.val a.toNat d.toNat)) := by
  simp only [arrayCommands, List.mem_cons, List.not_mem_nil, or_false, Prod.mk.injEq] at h
  rcases h with ⟨rfl, rfl⟩ | ⟨rfl, rfl⟩ | ⟨rfl, rfl⟩ | ⟨rfl, rfl⟩ | ⟨rfl, rfl⟩ | ⟨rfl, rfl⟩ <;> rfl

/-- An entry with a known mode that passes every check runs. -/
theorem State.arrayEntry_of_check {s : State} {op c a d p : Nat} (hop : (arrayDesc d).op < 6)
    (hcheck : s.arrayCheck p c a { arrayDesc d with op := op } = 0) :
    s.arrayEntry op c a d p = s.arrayRun p c { arrayDesc d with op := op } := by
  simp [State.arrayEntry, hop, hcheck]

/-- An array command that issues and passes every check runs its entry in the state in which it issues. -/
theorem exec_arrayCommand {op : Nat} {i : Instr} {c : Fin 512} {a : BitVec 64} {d : Desc} {p : Nat} {s : State}
    (hi : (op, i) ∈ arrayCommands c a d) (hpart : s.clusterPart c = some p)
    (hissue : s.mayIssue p c 0 a.toNat (s.awaits c (arrayDesc d.toNat).spans) = true)
    (hop : (arrayDesc d.toNat).op < 6)
    (hcheck : (s.issued p c).arrayCheck p c a.toNat { arrayDesc d.toNat with op := op } = 0) :
    exec i s = .next ((s.issued p c).arrayRun p c { arrayDesc d.toNat with op := op }) := by
  rw [exec_of_mem_arrayCommands hi, State.issueCluster, hpart]
  dsimp only
  rw [State.issue_of_mayIssue hissue, State.arrayEntry_of_check hop hcheck]

/-- Settles O20: terms are exact, a block clamps its exact sum, and an entry counts when an accumulator saturates. -/
theorem integerPathSaturates : Obligations.IntegerPathSaturates := by
  unfold Obligations.IntegerPathSaturates
  refine ⟨fun a b cmp => ?_, fun op acc terms hop => ?_, ?_⟩
  · simpa [abs_eq_max_neg] using arrayTerm_toInt (Val.whole_ofInt a) (Val.whole_ofInt b) cmp
  · rw [arrayBlock_of_sum hop]
    exact ⟨congrArg (unsgn 32) (satInt_32_fst _), satInt_32_snd_iff _⟩
  · intro op i c a d p s hi x start hpart hissue hop hcheck
    refine ⟨_, exec_arrayCommand hi hpart hissue hop hcheck, ?_⟩
    rw [State.arrayRun_intSaturations, State.issued_reg _ _ _ _ (kIntSaturations_ne_kLateCycles p) (by decide)]
    refine if_congr ?_ rfl rfl
    rw [State.arrayResults_any_iff, State.arraySaturates_of_mem_held (s.issued_mem p c) (s.issued_held p c)]
    rfl

end Sys2Proof.Machine
end
